-- ==== Sys2Proof/Word.lean ====
section
/-!
DEFINITION. Word types of the VN9640 model: octets, counters, Field Time values, dictionary values and the
little-endian packing of R11. Only plain arithmetic stands here.
-/

namespace Sys2Proof

/-- One octet of a frame, a record or a dictionary value. -/
abbrev Byte := BitVec 8

/-- A 64-bit counter or digest: it counts modulo 2^64 (R40, R83 and every "Objects" rule). -/
abbrev U64 := BitVec 64

/-- Field Time (R51): whole seconds, nanoseconds (0 to 999,999,999) and a fraction in units of 2^-32 ns. -/
structure FT where
  sec  : Nat
  nsec : Nat
  frac : Nat
  deriving DecidableEq, Repr, Inhabited

/-- A dictionary value: a number (BOOL, U8 … U64, I32, I64, FT as its 128-bit number of R52) or an octet string
(STR, OCT, ARR). -/
inductive Val where
  | num (n : Int)
  | oct (bs : List Byte)
  deriving DecidableEq, Repr, Inhabited

/-- One element of a record's payload (R602), in the type R739 fixes for it. -/
inductive Item where
  | bool (b : Bool)
  | u8   (n : Nat)
  | u16  (n : Nat)
  | u32  (n : Nat)
  | u64  (n : Nat)
  | i32  (z : Int)
  | i64  (z : Int)
  | ft   (t : FT)
  | oct  (bs : List Byte)
  deriving DecidableEq, Repr, Inhabited

/-- An octet from a number (the low eight bits). -/
def byte (n : Nat) : Byte := BitVec.ofNat 8 n

/-- `n` octets of zero. -/
def zeros (n : Nat) : List Byte := List.replicate n 0#8

/-- The low `k` octets of a number, least significant octet first (R11). -/
def leBytes : Nat → Nat → List Byte
  | 0, _ => []
  | k + 1, n => byte n :: leBytes k (n / 256)

/-- The number that octets spell, least significant octet first (R11). -/
def leNat : List Byte → Nat
  | [] => 0
  | b :: bs => b.toNat + 256 * leNat bs

/-- The number that octets spell, most significant octet first (R12). -/
def beNat (bs : List Byte) : Nat := leNat bs.reverse

/-- Octets `i` to `i + k - 1` of a string as a number, least significant first; missing octets count as absent. -/
def field (bs : List Byte) (i k : Nat) : Nat := leNat ((bs.drop i).take k)

/-- Two's complement of width `w` bits (R10). -/
def toSigned (w n : Nat) : Int := if n < 2 ^ (w - 1) then (n : Int) else (n : Int) - 2 ^ w

/-- The `w`-bit two's complement code of an integer (R10). -/
def ofSigned (w : Nat) (z : Int) : Nat := (z % (2 ^ w : Int)).toNat

/-- Clamp into `lo … hi`. -/
def clamp (lo hi z : Int) : Int := if z < lo then lo else if hi < z then hi else z

/-- Bit `i` of a number. -/
def bit (n i : Nat) : Bool := n.testBit i

/-- A Boolean as a number. -/
def b2n (b : Bool) : Nat := if b then 1 else 0

/-- Set or clear bit `i` of a number. -/
def setBit (n i : Nat) (v : Bool) : Nat :=
  if v then n ||| 2 ^ i else if n.testBit i then n - 2 ^ i else n

/-- Number of ones among the low `w` bits. -/
def popCount : Nat → Nat → Nat
  | 0, _ => 0
  | w + 1, n => b2n (n.testBit w) + popCount w n

end Sys2Proof
end

