-- ==== Sys2Proof/Syntax.lean ====
section
/-!
DEFINITION. The commands the block takes, one constructor per row of spec/opcode_table.json, with the operands the
row's rule speaks of, and the small records those operands are made of. Numbers that the spec leaves to the world
outside the model (a measured voltage, an RF power, the result of a firmware loop or of a cryptographic check) arrive
as operands; assumption 2 lists them.
-/

namespace Sys2Proof

/-- Who wrote: port 0 CAN0, 1 CAN1, 2–5 ETH0–ETH3; session 1–8, or 9 and 10 for CAN0 and CAN1 (R582). -/
structure Writer where
  port : Fin 6
  sess : Fin 11
  deriving DecidableEq, Repr

/-- What the spectrum monitor finds for an ADAPTING trap in one block (R100, R101): its centre, width and depth, whether the
bins it covers lie within 3 dB of the median, and the level of its interferer ahead of the trap above the median, in dB. -/
structure TrapFit where
  trap  : Fin 8
  freq  : Int
  width : Nat
  depth : Nat
  good  : Bool
  level : Int
  deriving DecidableEq, Repr

/-- A block of samples of one chain (R21, R89): CRC verdict, its I and Q samples, which are 1,024 in two's complement, and the
fits of the traps. -/
structure Block where
  ok      : Bool
  samples : List (BitVec 8 × BitVec 8)
  fits    : List TrapFit
  deriving DecidableEq, Repr

/-- A bin of the spectrum average, above the passband median in dB (R100), with the width and depth the monitor first gives a
trap there. -/
structure SpectrumBin where
  freq  : Int
  peak  : Nat
  width : Nat
  depth : Nat
  deriving DecidableEq, Repr

/-- A candidate of the allocation (R137, R138): signal code, satellite, frequency channel k + 7 of a GLONASS FDMA signal,
predicted elevation in 0.01°. -/
structure SkyCand where
  signal : Nat
  sv     : Nat
  gloK   : Fin 14
  elev   : Int
  deriving DecidableEq, Repr

/-- A tap sum (R122): 32-bit signed I and Q. -/
structure IQ where
  i : BitVec 32
  q : BitVec 32
  deriving DecidableEq, Repr

/-- The eight tap sums of one dump (R121). -/
structure Taps where
  ve : IQ
  e  : IQ
  p  : IQ
  l  : IQ
  vl : IQ
  pp : IQ
  n  : IQ
  m  : IQ
  deriving DecidableEq, Repr

/-- A decoded navigation unit (R145 to R147): row of R145, verdict of its check where that is not CRC-24Q over its own data bits,
reception of its first symbol, data bits, first received first; and what its signal's interface specification reads from
them: the UTC offset (R449), a new ephemeris, the transmit time of the latest dump boundary in ms of the week (of the day
for GLONASS), whether it resolves the half cycle. -/
structure NavUnit where
  row   : Fin 13
  ok    : Bool
  first : FT
  bits  : List Bool
  utc   : Option Nat
  eph   : Option (List Byte)
  tow   : Option Nat
  half  : Bool
  deriving DecidableEq, Repr

/-- A measurement record: its words (R142). -/
structure MeasRec where
  w0 : Nat
  w1 : Nat
  w2 : Nat
  w3 : Nat
  deriving DecidableEq, Repr

/-- The base observables of an epoch (R151): its fleet cycle and the records released, PR_SD as R162 says. -/
structure BaseEpoch where
  cycle : Nat
  recs  : List MeasRec
  deriving DecidableEq, Repr

/-- A signal of a Field Obs as decoded (R200 to R202): code, satellite and GLO_K, pseudorange and carrier range in 2^-29 mm,
none where invalid, range rate in mm/s, LOCK_IND, HALF_CYCLE, SLIP, C/N0 in 0.25 dB-Hz. -/
structure ObsSig where
  signal : Nat
  sv     : Nat
  gloK   : Nat
  code   : Option Int
  phase  : Option Int
  rate   : Int
  lock   : Nat
  half   : Bool
  slip   : Bool
  cn0    : Nat
  deriving DecidableEq, Repr

/-- One epoch of raw observations (R199 to R202): RX_OFFSET in ns, STATIC, CLOCK_STEERED, the signals. -/
structure Obs where
  offset  : Int
  static  : Bool
  steered : Bool
  sigs    : List ObsSig
  deriving DecidableEq, Repr

/-- The solution states of R216. -/
inductive SolveState where
  | none | code | float | provisional | fixed
  deriving DecidableEq, Repr

/-- What an epoch leaves of a signal for the slip tests of the next (R211): signal × 256 + satellite, the carrier range less
that of the base and the carrier range itself in 2^-29 mm, range rate, LOCK_IND, and a SLIP not yet acted on. -/
structure SeenSig where
  key   : Nat
  diff  : Option Int
  phase : Option Int
  rate  : Int
  lock  : Nat
  slip  : Bool
  deriving DecidableEq, Repr

/-- A float filter (R210): the fleet cycle it stands at; its states by label (0 to 2 east, north, up in µm, 3 to 5 velocity in µm
per 100 ms, 6 zenith troposphere in µm, 0x10000 + satellite ionosphere in µm, 0x20000 + signal × 256 + satellite an ambiguity
in 2^-16 cycle) and their covariance in the same order; the pivot of each signal code; the instant of the last epoch's
measurements in ns and what it left; the integers of the provisional or fixed set and of the newcomers. -/
structure Filter where
  cycle  : Nat
  states : List (Nat × Int)
  cov    : List (List Int)
  pivots : List (Nat × Nat)
  at_    : Int
  seen   : List SeenSig
  set    : List (Nat × Int)
  news   : List (Nat × Int)
  deriving DecidableEq, Repr

/-- The solution of one rover (R210 to R217): its state, consistent epochs of the provisional fix and of provisional newcomers,
missing epochs in a row, epochs since confirmation, satellites in the latest double differences, its filter. -/
structure Solver where
  solve    : SolveState
  count    : Nat
  newCount : Nat
  gap      : Nat
  fixAge   : Nat
  sats     : Nat
  filter   : Filter
  deriving DecidableEq, Repr

/-- An empty float filter (R216). -/
def Filter.empty : Filter := { cycle := 0, states := [], cov := [], pivots := [], at_ := 0, seen := [], set := [], news := [] }

/-- A rover without a solution (R216). -/
def Solver.init : Solver :=
  { solve := .none, count := 0, newCount := 0, gap := 0, fixAge := 0, sats := 0, filter := .empty }

/-- A received PTP message (R442, R443): port, whether it came in UDP, its octets (the UDP payload, or what follows the EtherType
without the FCS), the raw receive stamp, and how many entries the port's firmware has taken from the timestamp queue since its
previous message. -/
structure PtpMsg where
  port     : Fin 4
  udp      : Bool
  octets   : List Byte
  raw      : FT
  taken    : Nat
  deriving DecidableEq, Repr

/-- What a domain knows of its grandmaster, as an Announce gives it (R449). -/
structure GmData where
  identity : Nat
  cls      : Nat
  accuracy : Nat
  variance : Nat
  prio1    : Nat
  prio2    : Nat
  steps    : Nat
  source   : Nat
  utc      : Nat
  deriving DecidableEq, Repr

/-- A unit that LAUNCH holds, as section 10 of a state image carries it (R553). -/
structure ImageUnit where
  port    : Fin 8
  kind    : Nat
  machine : Nat
  ref     : Nat
  body    : List Byte
  since   : FT
  limit   : FT
  deriving DecidableEq, Repr

/-- An input held for the next snapshot, as section 10 carries it: kind 1 position record, 2 STATUS, 3 ROUTE,
4 TASK_REPORT (as in R371), 0x10 a logged write. `source` is its source code. -/
structure ImageInput where
  kind    : Nat
  machine : Nat
  source  : Nat
  stamp   : FT
  body    : List Byte
  deriving DecidableEq, Repr

/-- The filter of one machine, as section 11 carries it. -/
structure ImageFilter where
  machine  : Nat
  rtk      : Solver
  stale    : Bool
  lastEpoch : Option Nat
  lastObs  : FT
  deriving DecidableEq, Repr

/-- What the sections of a state image hold whose octets the spec does not lay out (8, 10, 11): remap pairs in force
(channel, spare, instant), the pending remap with its cycle, resting spares, exclusion windows, held inputs, units and
filters. -/
structure ImageRest where
  remap   : List (Nat × Nat × FT)
  pending : Option (Nat × List (Nat × Nat × FT))
  resting : List (Nat × FT)
  windows : List (Nat × List Bool)
  inputs  : List ImageInput
  units   : List ImageUnit
  filters : List ImageFilter
  deriving DecidableEq, Repr

/-- What a commit needs of the world outside: the verdict on a change record
entry (R580), the peer's budget (R545), the migration of the settings (R639) and the shutdown save (R677). -/
structure CommitIn where
  verified  : Bool
  peerSpent : Bool
  migrated  : Bool
  saved     : Bool
  deriving DecidableEq, Repr

/-- The end of a DTLS handshake (R583, R692): it came to the role address; the certificate is well-formed; the certificate as
DER; the owner credential's key signed it; its subject organizationalUnitName; its validity. -/
structure HandshakeIn where
  onRole     : Bool
  wellFormed : Bool
  cert       : List Byte
  signed     : Bool
  unit       : List Byte
  notBefore  : FT
  notAfter   : FT
  deriving DecidableEq, Repr

/-- A CAN frame as it arrives (R434, R435): 29-bit identifier, remote frame, classical frame, and how many frames the firmware has taken from
the receive queue since the last one. -/
structure CanIn where
  extended : Bool
  remote   : Bool
  classical : Bool
  taken    : Nat
  deriving DecidableEq, Repr

/-- An uncorrectable error that Rinse finds (R649): its address; its owner by the rows of R649, 0 to 3; for a data owner the
kind 0 reservation entry, 1 task, 2 filter; for a control owner 0 firmware code, else scheduler state or matching store; for
owner 2 the kind 0 account, 1 staged record, 2 pending pulses of a channel; the item's number, or the core. -/
structure RinseBad where
  addr  : Nat
  owner : Fin 4
  kind  : Fin 3
  item  : Nat
  deriving DecidableEq, Repr

/-- What the start of the unit finds outside the model (R70, R670, R685, R686): the reading of the backup time counter, none
if PD_BKP lost power; REF10; for the two boot copies, trim copies and runtime banks the cause of R627 with which each fails
its verification, 0 if it is good; the root key slot under which the boot firmware verifies; whether a Hamper copy verifies;
and the SEQs of the event records, staged or in flash, whose CRC fails (R612, R738). -/
structure StartIn where
  backup : Option FT
  ref10  : Bool
  boot   : List Nat
  trim   : List Nat
  bank   : List Nat
  slot   : Fin 4
  copied : Bool
  torn   : List Nat
  deriving DecidableEq, Repr

/-- The commands, in the order of spec/opcode_table.json. -/
inductive Instr where
  /-- COMPARATOR_FIRE (R73): A Field Time comparator reaches its target and changes the pin or slot tick it drives, rearming if periodic. -/
  | comparatorFire (k : Fin 32)
  /-- TICK_INCREMENT_UPDATE (R57): The discipline firmware delivers a new frequency and phase term, which takes effect on the next CK_TIME edge. -/
  | tickIncrementUpdate (freq phase : Int)
  /-- TIME_STATE_EVALUATION (R63): At each slot 0 the time state machine evaluates sources, applies R60 and selects, slews, schedules steps or enters HOLDOVER or FREE. -/
  | timeStateEvaluation
  /-- HOLDOVER_ESTIMATE_UPDATE (R65): Once per second in HOLDOVER the error bound E(t) is computed and written to 0x2004. -/
  | holdoverEstimateUpdate
  /-- TIME_STEPPED (R61): On the tick at which Field Time reaches the whole second S, a pending forward discipline step moves Field Time to S + delta. -/
  | timeStepped
  /-- TIME_SET (R66): An owner writes a time-set value to 0x2005, which is checked and, if accepted, left pending until the next whole second. -/
  | timeSet (w : Writer) (v : List Byte)
  /-- TIME_SET_APPLY (R67): At the next whole second an accepted owner time-set sets Field Time forward or backward, records TIME_SET and applies the R63 row. -/
  | timeSetApply
  /-- INITIAL_ALIGNMENT (R68): At the next whole second the first selected source sets Field Time in one step in either direction. -/
  | initialAlignment
  /-- DISCONTINUITY_PREPARE (R250): From S - 4 ms before a step or set the pipeline takes no snapshot, abandons the per-cycle path, discards units and cancels or ramps gate moves. -/
  | discontinuityPrepare
  /-- REF10_LOST (R82): REF10 shows no edge for 10 us or a PLL loses lock; PLLs freeze, the time state becomes FREE and the loss is treated as an uncorrectable error in control. -/
  | ref10Lost (clock : Fin 13)
  /-- BRIDGE_BLOCK_RECEIVED (R22): A block of 1,024 samples of one chain crosses the die-to-die bridge and is checked, gain-controlled and passed to traps and correlators. -/
  | bridgeBlockReceived (c : Fin 4) (b : Block)
  /-- ANT_CLASSIFY (R95): Every 1 ms with the supply ON the port current is classified as OK, OPEN, SHORT or LATCHED. -/
  | antClassify (port : Fin 2) (current : Nat)
  /-- ANT_SWITCH_RETRY (R96): One second after a SHORT the antenna switch is closed again. -/
  | antSwitchRetry (port : Fin 2)
  /-- TRAP_PLACEMENT (R100): Every 400 us in START or ADAPT the spectrum average is scanned and the strongest candidate bin receives the lowest OFF trap. -/
  | trapPlacement (c : Fin 4) (bins : List SpectrumBin)
  /-- TRAP_RELEASED (R101): A trap whose interferer stays below threshold - 6 dB for 100 ms returns to OFF. -/
  | trapReleased (c : Fin 4) (t : Fin 8)
  /-- ADAPT_END (R102): ADAPT ends when all traps converge with no new candidate for 100 ms or the adapt limit passes; traps become HELD and group delays are computed. -/
  | adaptEnd (c : Fin 4)
  /-- JAM_INDICATOR_EVAL (R104): At each slot 0 the jamming indicator of every powered chain is computed and the chain state machine takes collected triggers. -/
  | jamIndicatorEval (peaks : List Nat)
  /-- SETTLE_ELAPSED (R107): When the settle time ends the chain goes to NORMAL, restarts ADAPT or is excluded. -/
  | settleElapsed (c : Fin 4)
  /-- EPISODE_LIMIT_EXPIRED (R107): An episode open for the episode limit holds its traps and excludes the chain. -/
  | episodeLimitExpired (c : Fin 4)
  /-- EPISODE_RETRY_EXPIRED (R107): The retry timer of an EXCLUDED chain expires and opens a new episode. -/
  | episodeRetryExpired (c : Fin 4)
  /-- RECOVERY_START (R110): A write of a chain mask to 0x240E is checked and, if accepted, starts ADAPT on those chains at the next slot 0. -/
  | recoveryStart (w : Writer) (v : List Byte)
  /-- BANK_MAP_CHANGED (R117): At the slot 0 after a committed bank map change the remapped channels go IDLE and a new allocation runs. -/
  | bankMapChanged (sky : List SkyCand)
  /-- CORRELATOR_DUMP (R122): At a dump boundary the bank writes all eight tap sums to SRAM and posts the channel's loop operation. -/
  | correlatorDump (ch : Fin 512) (taps : Taps) (template hi : Nat)
  /-- NCO_UPDATE (R126): The firmware sends new carrier or code NCO words, which take effect at the next or the following dump boundary. -/
  | ncoUpdate (ch : Fin 512) (carrier code shift : Int) (late : Bool)
  /-- ACQ_REQUEST (R127): A channel queues a SEARCH or REACQUIRE request for the acquisition engines. -/
  | acqRequest (ch : Fin 512) (again : Bool)
  /-- ACQ_SEARCH_COMPLETE (R131): An acquisition engine finishes a search and returns the peak to the requesting channel, which moves on under R132. -/
  | acqSearchComplete (engine : Fin 2) (ratio bin phase : Nat)
  /-- TRACK_LOOP_UPDATE (R134): The firmware loop processes a coherent interval of a channel, updates PLL, FLL and DLL and evaluates lock and C/N0 transitions. -/
  | trackLoopUpdate (ch : Fin 512) (code sync late : Bool) (offM : Fin 193)
  /-- PULL_IN_TIMEOUT (R132): A channel in PULL_IN without lock after 1 s requeues a SEARCH. -/
  | pullInTimeout (ch : Fin 512)
  /-- REACQUIRE_TIMEOUT (R132): A channel in REACQUIRE beyond the reacquire time returns to IDLE. -/
  | reacquireTimeout (ch : Fin 512)
  /-- CHANNEL_ALLOCATION (R137): At the slot 0 of each whole second the channels of each chain are allocated to ranked candidates. -/
  | channelAllocation (sky : List SkyCand)
  /-- MEASUREMENT_EPOCH (R140): At each slot 0 every channel latches code phase, carrier phase and NCO words for the epoch records. -/
  | measurementEpoch (past : Nat) (since : List Nat)
  /-- NAV_UNIT_DECODED (R146): A navigation unit is decoded, checked and written as a record into the 1,024-record ring. -/
  | navUnitDecoded (ch : Fin 512) (u : NavUnit)
  /-- INTEGRITY_CHECKS (R151): For epoch T the eight checks run on the records, set EXCLUDED and MULTIPATH bits and release the base observables by T + 3 ms. -/
  | integrityChecks
  /-- CHECKS_LATE (R152): Checks not complete by T + 3 ms: records are released on the last completed exclusions and GNSS time of T is invalid. -/
  | checksLate
  /-- MULTIPATH_EVAL (R161): Once per second the two multipath metrics of every signal are evaluated and MULTIPATH set or cleared. -/
  | multipathEval
  /-- TIME_PULSE_MESSAGE (R174): At D - 4 ms the time-pulse message is composed and sent, and comparator 1 is armed for the pulse. -/
  | timePulseMessage (unc : Nat)
  /-- PPS_PULSE (R168): Comparator 1 fires and the active edge of PPS_OUT leaves after the fine delay; the quantisation error is measured. -/
  | ppsPulse
  /-- SURVEY_UPDATE (R183): Once per second in SURVEY the ANT_A and ANT_B survey results and uncertainties are updated. -/
  | surveyUpdate
  /-- POS_COMMIT (R186): A write to 0x2804 is checked and, if accepted, left pending until the next slot 0. -/
  | posCommit (w : Writer) (v : List Byte) (peerSpent : Bool)
  /-- REF_POSITION_COMMITTED (R187): At the next slot 0 the committed positions are replaced, the budget is spent, filters reset if ANT_A changed and the station message is sent. -/
  | refPositionCommitted (verified : Bool)
  /-- RTCM_COMPOSE (R191): At each epoch the due RTCM messages are composed from the base observables, framed and queued for radio and UDP sinks. -/
  | rtcmCompose
  /-- SOLVE_EPOCH (R216): The Solve engine processes an accepted Field Obs, updates the machine's filter and solution state and hands the position record to COMPOSE. -/
  | solveEpoch (k : Fin 129)
  /-- MISSING_EPOCH (R215): At tu + 4 ms an exchange without an accepted Field Obs is evaluated as a missing epoch for the machine. -/
  | missingEpoch (k : Fin 129)
  /-- FILTER_TIMEOUT (R216): At a slot 0 a machine without Field Obs for the filter timeout is reset to NONE. -/
  | filterTimeout (k : Fin 129)
  /-- INGEST_INPUT (R231): INGEST stamps an arriving input and appends it to the input log with its source code. -/
  | ingestInput
  /-- SORT_INPUT (R234): SORT classifies a logged input by machine and kind and hands each part to its consumer. -/
  | sortInput
  /-- SOLVE_DEADLINE (R237): At tu + 4 ms with no position record at COMPOSE, a stand-in record is built and a fallback marker is logged. -/
  | solveDeadline (k : Fin 129)
  /-- SNAPSHOT (R267): At t0 + 80 ms the snapshot is taken and RESERVE expires, releases holds, applies table edits and enters speculative legs. -/
  | snapshot
  /-- RESERVE_CHECK_COMPLETE (R242): The conflict check finishes; each leg is confirmed or withdrawn and gate moves are planned and handed to COMPOSE. -/
  | reserveCheckComplete
  /-- RESERVE_DEADLINE (R242): At t0 + 88 ms an unfinished conflict check is abandoned, speculative entries withdrawn and gate planning still run. -/
  | reserveDeadline
  /-- ALLOT_RUN (R303): From t0 + 88 ms ALLOT applies edits and reports, life-cycle rules, learned quantities, the auction and route choice. -/
  | allotRun
  /-- ALLOT_DEADLINE (R243): At t0 + 95 ms an incomplete ALLOT result is abandoned whole for the cycle. -/
  | allotDeadline
  /-- COMPOSE_DEADLINE (R245): At t0 + 96 ms complete untagged per-cycle units go to LAUNCH and the rest are withheld. -/
  | composeDeadline (late : List (Fin 129)) (lateMoves : List (Fin 8))
  /-- LAUNCH_RELEASE (R247): At the slot 0 ending a cycle LAUNCH releases per-cycle units into the next cycle's slots and arms gate moves after the speculative-tag check. -/
  | launchRelease
  /-- SLOT_LOAD (R357): At s - 200 us each port is loaded over SPI with the slot's channel and frame: beacon, DOWN, CORR, STOP or join response. -/
  | slotLoad (busy : Fin 256)
  /-- NODE_ENTRY_WRITE (R291): A write of a node entry to 0x4001 is checked at commit and applied at the next snapshot or at once when the per-cycle path does not run. -/
  | nodeEntryWrite (w : Writer) (v : List Byte)
  /-- SEG_ENTRY_WRITE (R293): A write of a segment entry to 0x4101 is checked at commit and applied or refused at application. -/
  | segEntryWrite (w : Writer) (v : List Byte)
  /-- HOST_RESERVATION_CREATE (R294): OP 1 of 0x2D30 creates a CONFIRMED host reservation at application, after its checks. -/
  | hostReservationCreate (w : Writer) (rest : List Byte)
  /-- HOST_RESERVATION_CANCEL (R293): OP 2 of 0x2D30 frees a host reservation in any state. -/
  | hostReservationCancel (w : Writer) (rest : List Byte)
  /-- RELEASE_MACHINE_HOLDS (R292): OP 3 of 0x2D30 releases every HELD entry of a machine. -/
  | releaseMachineHolds (w : Writer) (rest : List Byte)
  /-- RELEASE_ENTRY_HOLD (R292): OP 4 of 0x2D30 releases one HELD entry. -/
  | releaseEntryHold (w : Writer) (rest : List Byte)
  /-- TASK_ENTRY_WRITE (R300): A write of a task entry to 0x4301 is checked at commit and creates or replaces a task at application. -/
  | taskEntryWrite (w : Writer) (v : List Byte)
  /-- TASK_CANCEL (R301): OP 1 of 0x2E30 cancels a task and revokes it from its machine. -/
  | taskCancel (w : Writer) (rest : List Byte)
  /-- TASK_REQUEUE (R301): OP 2 of 0x2E30 returns a FAILED task to OPEN. -/
  | taskRequeue (w : Writer) (rest : List Byte)
  /-- TASK_CLEAR (R301): OP 3 of 0x2E30 clears a final-state task to EMPTY. -/
  | taskClear (w : Writer) (rest : List Byte)
  /-- SLACK_CLEAR (R254): A write to 0x2C09 resets the least-slack values of every stage. -/
  | slackClear (w : Writer) (v : List Byte)
  /-- OPERAND_POST (R323): An engine or core posts an operand to the matching store; an operation whose last operand arrives becomes ready and may go to a blocked core. -/
  | operandPost (template key : Nat) (cls : Fin 16) (last index : Fin 4) (spec : Option Nat)
  /-- TAKE (R331): A core completes its operation and issues TAKE, receiving the most urgent ready operation or blocking. -/
  | take (core : Fin 16)
  /-- INSTANCE_EXPIRED (R327): An instance not dispatched within its class lifetime is discarded. -/
  | instanceExpired (template key : Nat)
  /-- OPERATION_PROMOTED (R334): A ready operation waiting for its hold limit moves to the next higher priority queue. -/
  | operationPromoted (template key : Nat)
  /-- CORE_WATCHDOG_EXPIRED (R335): An operation running 80,000 CK_HB counts trips the core watchdog, an uncorrectable error in control. -/
  | coreWatchdogExpired (core : Fin 16)
  /-- TRACE_DATAGRAM (R342): Once 80 records wait or 10 ms after the oldest, a trace datagram is sent to each sink. -/
  | traceDatagram
  /-- STORE_HIGH_CLEAR (R344): A write to 0x2F03 sets the high-water mark to the present occupancy. -/
  | storeHighClear (w : Writer) (v : List Byte)
  /-- UP_FRAME_RECEIVED (R371): A frame ends in an UP slot and is checked under R363; an accepted UP frame is acknowledged and passed to INGEST. -/
  | upFrameReceived (port : Fin 8) (psdu : List Byte) (age : Nat) (rssi : Int)
  /-- JOIN_REQ (R377): A JOIN_REQ received in a listen cycle assigns a slot or refuses, queuing a JOIN_RESP. -/
  | joinReq (port : Fin 8) (psdu : List Byte) (age : Nat) (rssi : Int)
  /-- RECEIVE_DEADLINE (R379): At s + 3,900 us an exchange without an accepted frame extends the missed run and may declare the machine ADRIFT. -/
  | receiveDeadline (port : Fin 8)
  /-- JOIN_ABANDONED (R377): A machine still JOINING after the join timeout returns to ABSENT and its slot is freed. -/
  | joinAbandoned (k : Fin 129)
  /-- CHANNEL_EXCLUSION_EVAL (R380): At each slot 0 channels with enough failed uplinks are excluded and paired with a spare as a pending remap. -/
  | channelExclusionEval
  /-- EXCLUSION_EXPIRED (R380): A channel pair is removed after the exclusion hold time and its window restarts. -/
  | exclusionExpired
  /-- REMAP_APPLY (R365): At slot 0 of PENDING_CYCLE the announced remap takes effect. -/
  | remapApply
  /-- PERIOD_EFFECTIVE (R378): At the EFFECTIVE cycle a machine's new exchange PERIOD takes effect. -/
  | periodEffective (k : Fin 129)
  /-- RADIO_CONFIG_APPLY (R382): At slot 0 of the second cycle after a commit, changed radio objects and slot maps take effect. -/
  | radioConfigApply
  /-- RADIO_REGION_WRITE (R353): A write-limited write of 0x3002 is checked, spends a budget unit and sets the band. -/
  | radioRegionWrite (w : Writer) (v : List Byte) (peerSpent verified : Bool)
  /-- STOP_INPUT_QUALIFIED (R387): A stop level on STOP_IN_A, STOP_IN_B or STOP_KEY qualifies and sets the latch, drives STOPOUT low, strobes the ports and logs the change. -/
  | stopInputQualified (input : Fin 3)
  /-- STOP_DISCREPANCY (R390): STOP_IN_A and STOP_IN_B differ for longer than the discrepancy time and DISCREPANCY is set. -/
  | stopDiscrepancy
  /-- STOP_COMMAND_STOP (R395): A stop command with OP 1 passes the filter and sets the latch. -/
  | stopCommandStop (route : Fin 3) (w : Writer) (msg : List Byte)
  /-- STOP_COMMAND_RELEASE (R399): A stop command with OP 2 passes the filter and, if its conditions hold, marks a release pending. -/
  | stopCommandRelease (route : Fin 3) (w : Writer) (msg : List Byte)
  /-- STOP_RELEASED (R400): At the first slot 0 at least 4 ms after acceptance the release conditions are retested and the latch cleared or the release lapses. -/
  | stopReleased
  /-- STOPOUT_FAULT (R405): A STOPOUT ball level differing from its driven level for 10 us sets STOPOUT_FAULT. -/
  | stopoutFault (out : Fin 2) (read : Bool)
  /-- STOPOUT_FAULT_CLEAR (R405): Both STOPOUT levels agreeing for 1 s with the latch set clears STOPOUT_FAULT. -/
  | stopoutFaultClear
  /-- SAFE_STROBE (R406): In SAFE every enabled port is strobed every 16,000 CK_HB counts. -/
  | safeStrobe
  /-- SAFE_AXIS_DROP (R406): In SAFE each axis drops EN, STEP and IREF when its ramp ends or 2 s pass. -/
  | safeAxisDrop (n : Fin 8)
  /-- ETH_FRAME_RECEIVED (R418): An Ethernet frame ends and is checked by size, FCS, address, headers, stop tap, filter and space, then queued. -/
  | ethFrameReceived (p : Fin 4) (f : List Byte) (intact : Bool) (taken : List (Fin 8))
  /-- FRAGMENT_TIMEOUT (R421): A datagram not reassembled within 100 ms of its first fragment is discarded. -/
  | fragmentTimeout (p : Fin 4)
  /-- LINK_CHANGED (R417): An Ethernet link comes up or goes down; counters and the record follow. -/
  | linkChanged (p : Fin 4) (rate : Fin 7) (full cut : Bool)
  /-- GRATUITOUS_ARP (R427): The second and third gratuitous ARPs for a newly live role address are sent 100 ms and 200 ms later. -/
  | gratuitousArp
  /-- ARP_RETRY (R429): An unanswered ARP request for a next hop is repeated after 1 s, up to three times, then the datagram is dropped. -/
  | arpRetry (p : Fin 4) (hop : List Byte)
  /-- ARP_ENTRY_EXPIRED (R428): An ARP cache entry expires after 300 s. -/
  | arpEntryExpired (p : Fin 4) (ip : List Byte)
  /-- CAN_FRAME_RECEIVED (R434): A CAN FD frame is received and routed to the stop filter, the dictionary or ignored. -/
  | canFrameReceived (c : Fin 2) (ident : Nat) (msg : List Byte) (f : CanIn) (x : CommitIn)
  /-- CAN_BUS_OFF (R437): A CAN port enters bus-off, is counted and starts recovery. -/
  | canBusOff (c : Fin 2) (errors detected : Nat)
  /-- CAN_BUS_RECOVERED (R437): After 128 occurrences of 11 recessive bits the port rejoins the bus. -/
  | canBusRecovered (c : Fin 2)
  /-- CAN_STATUS_FRAME (R438): At each multiple of the status period the cyclic status frame is sent. -/
  | canStatusFrame (c : Fin 2)
  /-- CAN_RECONFIGURE (R439): After the frame in progress completes, a changed CAN setting takes effect and the port rejoins. -/
  | canReconfigure (c : Fin 2)
  /-- PTP_SYNC (R452): A Sync is stamped and feeds the domain servo, whose innovation test may mark the domain suspect. -/
  | ptpSync (m : PtpMsg)
  /-- PTP_FOLLOW_UP (R442): A Follow_Up completes a two-step Sync measurement. -/
  | ptpFollowUp (m : PtpMsg)
  /-- PTP_DELAY_REQ (R442): A Delay_Req is stamped and answered as master. -/
  | ptpDelayReq (m : PtpMsg)
  /-- PTP_DELAY_RESP (R442): A Delay_Resp completes a mean path delay measurement. -/
  | ptpDelayResp (m : PtpMsg)
  /-- PTP_PDELAY_REQ (R447): A Pdelay_Req is stamped and answered with Pdelay_Resp. -/
  | ptpPdelayReq (m : PtpMsg) (sent : FT)
  /-- PTP_PDELAY_RESP (R442): A Pdelay_Resp is stamped for the peer delay measurement. -/
  | ptpPdelayResp (m : PtpMsg)
  /-- PTP_PDELAY_RESP_FOLLOW_UP (R442): A Pdelay_Resp_Follow_Up completes a two-step peer delay measurement. -/
  | ptpPdelayRespFollowUp (m : PtpMsg)
  /-- PTP_ANNOUNCE (R449): An Announce feeds the best master clock algorithm of its domain. -/
  | ptpAnnounce (m : PtpMsg)
  /-- PTP_SYNC_TRANSMIT (R447): As master, a Sync is transmitted with its stamp in one-step or two-step form. -/
  | ptpSyncTransmit (dom : Bool) (port : Fin 4) (raw : FT) (taken : Nat)
  /-- ANNOUNCE_RECEIPT_TIMEOUT (R469): The announceReceiptTimeout of a domain port expires. -/
  | announceReceiptTimeout (dom : Bool) (port : Fin 4)
  /-- PTP_DOMAIN_EVAL (R455): At each slot 0 each domain's offset is produced, the cross-check runs and suspect marks are cleared where due. -/
  | ptpDomainEval
  /-- TS_POP (R459): A read of 0x2058 removes and returns the oldest timestamp entry of a host-read port. -/
  | tsPop (w : Writer) (port : Fin 4)
  /-- TIO_CAPTURE_EDGE (R466): A filtered edge on a capture pin is stamped and queued. -/
  | tioCaptureEdge (k : Fin 16) (rising : Bool)
  /-- TIO_CAPTURE (R467): A read of 0x2090 removes and returns the oldest capture entry. -/
  | tioCapture (w : Writer) (k : Fin 16)
  /-- AXIS_TARGET (R479): A write to TARGET is checked and, if accepted, schedules a move at a 100 us boundary at least 2 ms later. -/
  | axisTarget (w : Writer) (n : Fin 8) (v : List Byte)
  /-- MOVE_START (R477): A move begins at its start instant and the step generator places its steps by the profile. -/
  | moveStart (n : Fin 8)
  /-- MOVE_END (R475): The last step of a move is emitted and the axis returns to IDLE. -/
  | moveEnd (n : Fin 8) (inputs : Fin 8)
  /-- GATE_MOVE_START (R489): An armed gate move reaches its start and begins on an IDLE axis or is dropped and faults the axis. -/
  | gateMoveStart (n : Fin 8)
  /-- PROFILE_REPLAN (R480): At the 100 us boundary after a committed change of limits the moving axis replans to its target. -/
  | profileReplan (n : Fin 8)
  /-- AXIS_STOP (R497): AXIS_COMMAND STOP starts a stop ramp and, in GATE mode, faults the axis with cause 5. -/
  | axisStop (w : Writer) (n : Fin 8)
  /-- AXIS_HOME (R497): AXIS_COMMAND HOME starts the homing sequence of the axis's method. -/
  | axisHome (w : Writer) (n : Fin 8)
  /-- AXIS_CLEAR (R497): AXIS_COMMAND CLEAR returns a faulted axis with cause 4 or 5 to IDLE. -/
  | axisClear (w : Writer) (n : Fin 8)
  /-- AXIS_HOMED (R483): The home point is found and the counter is set to HOME_OFFSET. -/
  | axisHomed (n : Fin 8) (after : Nat) (inputs : Fin 8)
  /-- HOMING_FAILED (R484): A homing exceeds its travel or meets a limit or stall and the axis faults. -/
  | homingFailed (n : Fin 8) (inputs : Fin 8)
  /-- LIMIT_REACHED (R488): A limit in the direction of travel becomes active and the axis ramps down to FAULT. -/
  | limitReached (n : Fin 8) (positive : Bool) (inputs : Fin 8)
  /-- CURRENT_BOOSTED (R486): Each millisecond of high load while moving raises IREF toward the ceiling, or lowers it once the load falls. -/
  | currentBoosted (n : Fin 8) (load : Nat)
  /-- STALL_DETECTED (R486): Load above threshold at ceiling current for STALL_TIME declares a stall and the axis faults. -/
  | stallDetected (n : Fin 8)
  /-- AXIS_STANDSTILL (R475): A ramping axis reaches standstill and enters IDLE or FAULT. -/
  | axisStandstill (n : Fin 8) (inputs : Fin 8)
  /-- HOLD_CURRENT (R485): HOLD_DELAY after the last step IREF drops to the hold current. -/
  | holdCurrent (n : Fin 8)
  /-- RUN_CURRENT_RESTORE (R485): One millisecond before the next move IREF returns to I_RUN. -/
  | runCurrentRestore (n : Fin 8)
  /-- TALLY_PULSE (R500): A pulse qualifies on a tally input, passes the rate and creep tests and is credited to the matching accounts. -/
  | tallyPulse (k : Fin 32)
  /-- PENDING_PULSE_EXPIRED (R502): A pending pulse older than the creep window leaves the list and counts as creep. -/
  | pendingPulseExpired (k : Fin 32)
  /-- ACCOUNT_ENTRY_WRITE (R507): A write of an account configuration entry to 0x4401 creates, closes, deletes or relabels an account. -/
  | accountEntryWrite (w : Writer) (v : List Byte)
  /-- METERING_SAVE_PERIODIC (R510): At each multiple of the save interval a periodic metering save is caused. -/
  | meteringSavePeriodic
  /-- METERING_SAVE_COMPLETE (R511): A metering save finishes writing and verifying its copy in flash. -/
  | meteringSaveComplete (ok : Bool)
  /-- MAINS_ZERO_CROSSING (R514): A mains zero crossing is stamped, updating PRESENT status and causing a resume save on return. -/
  | mainsZeroCrossing (k : Fin 2)
  /-- MAINS_LOST (R514): No crossing by the deadline makes the input LOST and causes a mains-loss save. -/
  | mainsLost (k : Fin 2)
  /-- SEAM_READING_CHANGE (R525): The peer loop current qualifies in a new band and the output stage, drive and takeover logic respond. -/
  | seamReadingChange (reading : Fin 3)
  /-- SEAM_FAULT (R526): The compliance monitor reports an open or shorted own loop, which is recorded. -/
  | seamFault (compliance : Fin 3)
  /-- HEALTH_TIMER_EXPIRED (R531): The pair health timer runs out and heartbeat B stops. -/
  | healthTimerExpired
  /-- HB_B_LOST (R532): No edge on HB_IN for 40 CK_HB counts declares heartbeat B lost. -/
  | hbBLost
  /-- HB_B_RESTORED (R532): Sixteen consecutive edges on HB_IN declare heartbeat B present. -/
  | hbBRestored
  /-- HEARTBEAT_A_SEND (R539): At every whole millisecond a HEARTBEAT_A frame is sent on the Akris link. -/
  | heartbeatASend
  /-- HEARTBEAT_A (R540): A received HEARTBEAT_A frame updates the peer offset and the TIME_APART test. -/
  | heartbeatA (f : List Byte)
  /-- HB_A_LOST (R532): No valid HEARTBEAT_A for the timeout declares heartbeat A lost. -/
  | hbALost
  /-- AKRIS_LANE_LOCK_CHANGE (R534): An Akris link lane gains or loses block lock, changing whether the link is up. -/
  | akrisLaneLockChange (lane : Fin 2) (locked : Bool)
  /-- HELLO_SEND (R536): At link up and every 1 s a HELLO frame is sent. -/
  | helloSend
  /-- HELLO (R538): A received HELLO is compared for PAIR_ID, POS and DS_VERSION. -/
  | hello (f : List Byte)
  /-- LINK_RETRANSMIT (R537): With no ACK advance for 100 us the unacknowledged frames are sent again. -/
  | linkRetransmit
  /-- LOG_SEND (R541): The holder of OWN sends a LOG frame of input entries at least every 1 ms. -/
  | logSend
  /-- LOG (R544): A received LOG frame delivers input entries to the peer's decision side, including logged stop-state changes. -/
  | log (f : List Byte)
  /-- BASE_OBS (R546): A received BASE_OBS frame supplies the base observables to the peer's Solve engine. -/
  | baseObs (f : List Byte)
  /-- CONFIRM_SEND (R542): At each slot start the holder sends a CONFIRM with digest and placement records. -/
  | confirmSend
  /-- CONFIRM (R547): A received CONFIRM removes placed or dropped units from the peer's queues and compares digests. -/
  | confirm (f : List Byte)
  /-- DIGEST_LATE (R551): A digest missing at slot 0 of cycle n + 2 is a mismatch with cause late. -/
  | digestLate
  /-- DIGEST_FORM (R741): The peer forms D(n) once the log covers the needed instant and sends it. -/
  | digestForm
  /-- AXIS (R548): A received AXIS record replays an accepted target or command, or compares a state report and marks DIVERGED. -/
  | axis (f : List Byte)
  /-- AXIS_REPORT_SEND (R543): At each slot 0 the holder sends a state report for every enabled axis. -/
  | axisReportSend
  /-- LOG_LAG_EXCEEDED (R549): A peer whose log lags by more than the lag limit, or skips entries, leaves SYNCED for TRANSFER. -/
  | logLagExceeded
  /-- STATE_REQUEST (R552): A peer in TRANSFER requests a state transfer; the holder freezes the image at the next snapshot and sends it. -/
  | stateRequest (f : List Byte)
  /-- STATE (R552): A received STATE frame carrying image octets is loaded by the peer. -/
  | state (f : List Byte) (rest : ImageRest)
  /-- TRANSFER_TIMEOUT (R552): A peer not SYNCED within the transfer limit requests again. -/
  | transferTimeout
  /-- START_WAIT_EXPIRED (R554): In pair START with the peer FREE and the link down for the wait time, the unit drives OWN. -/
  | startWaitExpired
  /-- HANDOVER_REQUEST (R557): A write of 1 to 0x3C10 requests a handover, chooses s and sends HANDOVER GO. -/
  | handoverRequest (w : Writer) (v : List Byte)
  /-- YIELD_REQUEST (R561): A write of 2 to 0x3C10 makes the unit drive FREE at the next slot start and enter STANDBY with TRANSFER. -/
  | yieldRequest (w : Writer) (v : List Byte)
  /-- HANDOVER_GO (R554): A received HANDOVER GO puts a SYNCED standby into HANDOVER (incoming) and it answers ACK. -/
  | handoverGo (f : List Byte)
  /-- HANDOVER_ACK (R557): A received ACK confirms the handover instant to the outgoing unit. -/
  | handoverAck (f : List Byte)
  /-- HANDOVER_ABORT (R554): A received ABORT returns the incoming unit to STANDBY SYNCED. -/
  | handoverAbort (f : List Byte)
  /-- HANDOVER_INSTANT (R559): At s the outgoing unit drives FREE and becomes STANDBY SYNCED. -/
  | handoverInstant
  /-- HANDOVER_ABANDONED (R557): No ACK within 5 ms, failing conditions, no s within 10 s or no FREE by s + 5 ms abandons the handover. -/
  | handoverAbandoned
  /-- PAIR_FAULT_RESET (R669): 100 ms after recording UNIT_FAULT a pair unit resets with cause 5. -/
  | pairFaultReset
  /-- UNCORRECTABLE_DATA_ERROR (R42): A double-bit error in a reservation, task or filter item invalidates it toward the blocking side. -/
  | uncorrectableDataError (kind : Fin 3) (item : Nat)
  /-- UNIT_FAULT (R43): An uncorrectable error in control takes the unit out of service: FREE in a pair or SAFE alone. -/
  | unitFault (cause : Fin 6) (part addr : Nat)
  /-- ECC_CORRECTED (R647): A foreground access finds a single-bit error, which is corrected, written back and counted. -/
  | eccCorrected (ddr : Bool)
  /-- DICT_READ (R587): A READ message is executed item by item, each at its own tick, and answered. -/
  | dictRead (w : Writer) (msg : List Byte) (x : CommitIn)
  /-- DICT_WRITE (R572): A WRITE message either commits its items at once (GROUP 0) or stages them in a group; commits are checked whole and applied on one tick. -/
  | dictWrite (w : Writer) (msg : List Byte) (x : CommitIn)
  /-- GROUP_OPEN (R577): GROUP_OPEN opens a group for the session. -/
  | groupOpen (w : Writer) (msg : List Byte) (x : CommitIn)
  /-- GROUP_COMMIT (R574): GROUP_COMMIT checks the staged writes as a whole and applies them on one tick or refuses all. -/
  | groupCommit (w : Writer) (msg : List Byte) (x : CommitIn)
  /-- GROUP_ABORT (R577): GROUP_ABORT discards the session's group. -/
  | groupAbort (w : Writer) (msg : List Byte) (x : CommitIn)
  /-- GROUP_TIMEOUT (R577): A group without GROUP_COMMIT 60 s after GROUP_OPEN is discarded. -/
  | groupTimeout (w : Writer)
  /-- DTLS_HANDSHAKE (R692): A DTLS handshake completes or fails, opening a session with the role of its credential. -/
  | dtlsHandshake (port : Fin 4) (x : HandshakeIn)
  /-- SESSION_IDLE_EXPIRED (R584): A session idle for the session idle time ends. -/
  | sessionIdleExpired (sess : Fin 8)
  /-- CAN_READ (R590): A CAN READ starts a read transfer and is answered with READ_RESP. -/
  | canRead (c : Fin 2) (msg : List Byte) (x : CommitIn)
  /-- CAN_WRITE (R591): A CAN WRITE starts a write transfer, committing at once or awaiting segments. -/
  | canWrite (c : Fin 2) (msg : List Byte) (x : CommitIn)
  /-- SEGMENT_DOWN (R591): A SEGMENT_DOWN frame carries further value octets and is acknowledged or completes the write. -/
  | segmentDown (c : Fin 2) (msg : List Byte) (x : CommitIn)
  /-- SEGMENT_UP_REQ (R591): A SEGMENT_UP_REQ asks for the next read segment, answered with SEGMENT_UP. -/
  | segmentUpReq (c : Fin 2) (msg : List Byte) (x : CommitIn)
  /-- CAN_GROUP (R590): A CAN GROUP frame opens, commits or aborts the port's group. -/
  | canGroup (c : Fin 2) (msg : List Byte) (x : CommitIn)
  /-- CAN_ABORT (R592): A host ABORT ends the CAN transfer without effect. -/
  | canAbort (c : Fin 2) (msg : List Byte) (x : CommitIn)
  /-- CAN_TRANSFER_TIMEOUT (R592): An open CAN transfer without a frame for 1 s ends without answer. -/
  | canTransferTimeout (c : Fin 2)
  /-- RECORDER_FLUSH (R604): Once 256 octets wait or 20 ms pass, staged records are written to the flash ring in SEQ order. -/
  | recorderFlush (bad : Option (Fin 63))
  /-- RECORDS_DROPPED (R607): At the end of a second in which records were dropped a summary record is created. -/
  | recordsDropped
  /-- RECORDS_SUPPRESSED (R611): At the end of a default-limit interval with withheld records a suppression record is created. -/
  | recordsSuppressed (code : Nat)
  /-- RECORD_STREAM_DATAGRAM (R615): Once 1,000 octets wait or 1 s passes, records are streamed as a datagram. -/
  | recordStreamDatagram
  /-- UPDATE_OPEN (R624): A write to 0x3F00 opens an update session, claims the lock and erases the Hamper. -/
  | updateOpen (w : Writer) (v : List Byte)
  /-- UPDATE_DATA (R625): A write to 0x3F01 stores one piece of the image at its offset. -/
  | updateData (w : Writer) (v : List Byte)
  /-- UPDATE_FINISH (R627): A write to 0x3F02 starts verification of the received image. -/
  | updateFinish (w : Writer) (v : List Byte)
  /-- UPDATE_ABORT (R629): A write to 0x3F03 ends the session or discards a staged or ready image. -/
  | updateAbort (w : Writer) (v : List Byte)
  /-- UPDATE_SESSION_LOST (R626): The holder's session ends or no piece arrives for the idle time and the update session ends. -/
  | updateSessionLost
  /-- IMAGE_VERIFIED (R627): Verification completes: the image is staged, applied or rejected. -/
  | imageVerified
  /-- DARN_APPLY_COMPLETE (R628): Building the resulting image in the inactive bank completes and is verified or rejected. -/
  | darnApplyComplete
  /-- UPDATE_ACTIVATE (R631): A write of 1 to 0x3F04 activates a READY runtime image by cluster handover or restart. -/
  | updateActivate (w : Writer) (migrated saved : Bool)
  /-- UPDATE_ACTIVATE_STAGED (R631): A write of 2 to 0x3F04 restarts the unit so that a STAGED image is copied. -/
  | updateActivateStaged (w : Writer) (saved : Bool)
  /-- CLUSTER_HANDOVER (R632): At a slot start a cluster is withdrawn, loaded with the new image and returned at the following slot start. -/
  | clusterHandover
  /-- UPDATE_CONFIRM (R635): A write to 0x3F05 gives the integrator confirmation for TRIAL. -/
  | updateConfirm (w : Writer) (v : List Byte)
  /-- UPDATE_FALLBACK (R636): A write to 0x3F06 forces a fallback to the old image. -/
  | updateFallback (w : Writer) (v : List Byte) (saved : Bool)
  /-- HEALTH_CONFIRMATION (R634): At a slot 0 in TRIAL the health conditions are met and the new bank becomes active. -/
  | healthConfirmation
  /-- HEALTH_TIMEOUT (R636): The health timer expires in TRIAL and the unit falls back. -/
  | healthTimeout (saved : Bool)
  /-- RINSE_BURST (R646): A paced Rinse burst reads, checks and corrects a run of words and ends a pass when the memory is covered. -/
  | rinseBurst (ddr : Bool) (fixes : List (Nat × Bool)) (bad : List RinseBad)
  /-- RINSE_PASS_OVERDUE (R650): A pass not ended within 1.1 times its period is flagged overdue. -/
  | rinsePassOverdue (ddr : Bool)
  /-- CALIBRATION_RUN (R651): A calibration activity runs on its trigger and its value takes effect or is rejected. -/
  | calibrationRun (a : Fin 6) (values : List Int) (rejected : Option Int)
  /-- OSCILLATOR_MODEL_APPLY (R652): Each second in HOLDOVER the oscillator model correction is added to the frozen frequency term. -/
  | oscillatorModelApply (temp : Int)
  /-- FLASH_ERASE_COMPLETE (R654): A sector erase finishes or fails and its erase count is updated. -/
  | flashEraseComplete (bank : Fin 2) (sector : Fin 160) (ok : Bool)
  /-- TELEMETRY_FRAME (R657): At each whole second a telemetry frame is composed and sent to the sinks. -/
  | telemetryFrame (logic analog : Int)
  /-- SUPPLY_BELOW_THRESHOLD (R666): A supply stays below its threshold for 1 us, causing a reset and driving Seam FREE. -/
  | supplyBelowThreshold (supply : Fin 8) (level : Nat)
  /-- SYS_RESET (R667): SYS_RESET_L is held low long enough and the unit enters reset. -/
  | sysReset
  /-- RESET_RELEASE (R670): Reset ends 2 ms after its causes and BOOT runs its start steps. -/
  | resetRelease (x : StartIn)
  /-- BOOT_REF10_APPEARS (R672): A unit held at boot step 2 for want of REF10 continues when REF10 appears. -/
  | bootRef10Appears (x : StartIn)
  /-- BOOT_VERIFY_RETRY (R685): With no valid boot copy the boot ROM verifies both copies again every 10 s. -/
  | bootVerifyRetry (x : StartIn)
  /-- UNIT_STARTED (R671): At the slot 0 after the time state leaves FREE or the boot wait expires the unit leaves BOOT. -/
  | unitStarted
  /-- MODE_REQUEST (R675): A write to 0x1101 requests a mode change, which is checked and left pending. -/
  | modeRequest (w : Writer) (v : List Byte)
  /-- MODE_CHANGED (R676): At the next slot 0 an accepted mode change takes effect, setting the stop latch where required. -/
  | modeChanged
  /-- RESET_COMMAND (R677): A write of 1 to 0x1103 makes the shutdown save, flushes records and resets. -/
  | resetCommand (w : Writer) (saved : Bool)
  /-- SHUTDOWN_COMMAND (R677): A write of 2 to 0x1103 saves, flushes, switches off domains and enters OFF. -/
  | shutdownCommand (w : Writer) (saved : Bool)
  /-- BACKUP_ENTRY (R663): All main supplies fall and PD_BKP moves to VBAT; the unit is in BACKUP. -/
  | backupEntry
  /-- VBAT_LOW (R678): At start and hourly VBAT is measured and a low reading is recorded. -/
  | vbatLow (mv : Nat)
  /-- DIE_TEMP_HIGH (R736): A die temperature above 150 C is recorded. -/
  | dieTempHigh (logic analog : Int)
  /-- OWNER_CREDENTIAL (R693): A write to 0x1210 replaces the owner credential, spends a budget unit and ends other sessions. -/
  | ownerCredential (w : Writer) (v : List Byte) (verified : Bool)
  /-- OWNER_RECOVERY (R695): A write of 0x5A to 0x1238 under tamper, stop key and MAINTAIN empties the owner credential and related secrets. -/
  | ownerRecovery (w : Writer) (v : List Byte)
  /-- TAMPER (R697): TAMPER_L is asserted or released and the event is counted and recorded. -/
  | tamper (asserted inBackup : Bool)
  /-- DEBUG_CHALLENGE (R698): A read of 0x1230 draws a new debug nonce. -/
  | debugChallenge (w : Writer)
  /-- DEBUG_RESPONSE (R698): A signed response written to 0x1231 in TEST unlocks the debug port. -/
  | debugResponse (w : Writer) (v : List Byte)
  /-- STOP_INPUT_RUN_LEVEL (R391): STOP_IN_A or STOP_IN_B returns from stop level to run level, which with the other input returning within 0x3401 clears DISCREPANCY. -/
  | stopInputRunLevel (input : Fin 3)
  /-- HOME_SWITCH_REACHED (R482): During a homing fast phase the filtered HOME input (or the limit in HOME_DIR for method 3) becomes active, and the axis decelerates at DECEL and begins its creep back. -/
  | homeSwitchReached (n : Fin 8) (inputs : Fin 8)
  /-- PTP_ANNOUNCE_TRANSMIT (R449): At each logAnnounceInterval a master port sends an Announce carrying its defaultDS or the relayed datasets, with priority2 raised in STANDBY. -/
  | ptpAnnounceTransmit (dom : Bool) (port : Fin 4)
  /-- PTP_DELAY_REQ_TRANSMIT (R451): At each delay request interval a slave port sends a Delay_Req and stamps it into the timestamp queue. -/
  | ptpDelayReqTransmit (dom : Bool) (port : Fin 4) (raw : FT) (taken : Nat)
  /-- PTP_PDELAY_REQ_TRANSMIT (R442): At each peer delay request interval a port in a peer-to-peer domain sends a Pdelay_Req and stamps it. -/
  | ptpPdelayReqTransmit (dom : Bool) (port : Fin 4) (raw : FT) (taken : Nat)
  /-- SESSION_CLOSED (R584): A dictionary service session ends because the host closes it, discarding its group and ending any update session it holds. -/
  | sessionClosed (sess : Fin 8)
  deriving DecidableEq, Repr

end Sys2Proof
end

