-- ==== Sys2Proof/Decode.lean ====
section
/-!
DEFINITION. The commands that a word spells. No row of spec/opcode_table.json gives bits to its command (every list of
fields is empty), so no word spells one.
-/

namespace Sys2Proof

/-- The command that the bits `w` spell by the table: none. -/
def decodeTableWord (_nbits _w : Nat) : Option Instr := none

end Sys2Proof
end

