-- ==== Sys2Proof/Config.lean ====
section
/-!
DEFINITION. What the spec fixes per unit (fuses), names by a published algorithm, or leaves open: constants without a
body, so that no proof can lean on a value of theirs. Assumptions 5 and 6 list them.
-/

namespace Sys2Proof

/-- SHA-384 as a number of 384 bits; the algorithm is a published standard. -/
opaque Config.sha384Bits : List Byte → BitVec 384

/-- The 48 octets of the SHA-384 of an octet string (R582, R619, R692). -/
def Config.sha384 (m : List Byte) : List Byte := leBytes 48 (Config.sha384Bits m).toNat

/-- AES-CMAC of a message under a key, as a number of 128 bits; the algorithm is a published standard. -/
opaque Config.aesCmacBits : List Byte → List Byte → BitVec 128

/-- The 16 octets of the AES-CMAC of a message under a key (R393). -/
def Config.aesCmac (key m : List Byte) : List Byte := leBytes 16 (Config.aesCmacBits key m).toNat

/-- The ECDSA P-384 signatures of 96 octets that verify over a digest under Glilas root key slot k, as numbers: there is at
least one. -/
opaque Config.rootSignatures : Nat → List Byte → BitVec 768 × List (BitVec 768)

/-- Does a signature over a digest verify under Glilas root key slot k (R684)? -/
def Config.rootVerify (k : Nat) (digest sig : List Byte) : Bool :=
  ((Config.rootSignatures k digest).1 :: (Config.rootSignatures k digest).2).any fun x => leBytes 96 x.toNat == sig

/-- Does CK_HB count during the tick of CK_TIME that many ticks after power-on? CK_HB is an RC oscillator of 3.8 to 4.2 MHz,
independent of every other source (R81). -/
opaque Config.hbEdge : Nat → Bool

/-- The unit's serial number (0x1001); never 0 where it is used is a premise of the spec (R597). -/
opaque Config.serial : Nat

/-- The silicon revision (0x1002). -/
opaque Config.revision : Nat

/-- The unit MAC address of ETH0 … ETH3 as a number of 48 bits. -/
opaque Config.unitMacBits : Nat → BitVec 48

/-- The six octets of the unit MAC address of ETH0 … ETH3 (0x3603). -/
def Config.unitMac (p : Nat) : List Byte := leBytes 6 (Config.unitMacBits p).toNat

/-- The clockIdentity of the unit's PTP instances (R450): formed from the unit MAC of ETH0 as an EUI-64 with FF-FE in its
middle. PRESUMED (assumption 28): the spec leaves the way to IEEE 1588. -/
def Config.clockIdentity : Nat :=
  beNat ((Config.unitMac 0).take 3 ++ [0xFF#8, 0xFE#8] ++ (Config.unitMac 0).drop 3)

/-- The offsetScaledLogVariance of the unit's own defaultDS (R449), which the spec does not give. -/
opaque Config.clockVariance : Nat

/-- Flags of an Announce that the spec does not give (R449): leap61, leap59, timeTraceable, frequencyTraceable. -/
opaque Config.announceFlags : Nat

/-- What a domain's servo predicts for the next measured offset (R451, R452), in 2^-32 ns: from its bandwidth (0x2047), what it
keeps, the ticks since the latest measurement. The spec gives its order and bandwidth and no arithmetic. -/
opaque Config.servoPredict : (band : Nat) → (kept : List Int) → (ticks : Nat) → Int

/-- What the servo keeps after a measured offset, and the filtered offsetFromMaster (R451). -/
opaque Config.servoUpdate : (band : Nat) → (kept : List Int) → (ticks : Nat) → (measured : Int) → List Int × Int

/-- What the servo keeps after it is re-centred on an offset (R452). -/
opaque Config.servoCentre : (band : Nat) → (kept : List Int) → (measured : Int) → List Int

/-- The type of service of an IPv4 header, which the spec does not give (R431). -/
opaque Config.ipTos : Byte

/-- The identification of an IPv4 header (R431). -/
opaque Config.ipIdent : Nat

/-- The time to live of an IPv4 header (R431). -/
opaque Config.ipTtl : Byte

/-- Octets that a DTLS record and its UDP, IP and Ethernet headers add to a message (R583): the spec gives no layout. -/
opaque Config.dtlsOverhead : Nat

/-- The device certificate (0x1200). -/
opaque Config.deviceCert : List Byte

/-- Bursts of 4 KiB in the fitted LPDDR4X (R646); its size is the board's. -/
opaque Config.ddrBursts : Nat

/-- The octets of the image of a KIND that the factory put into the flash (R618). -/
opaque Config.factoryImage (kind : Nat) : List Byte

/-- Generations that a settings area takes before it is full (R638): the spec gives neither the layout of the content nor
its length. -/
opaque Config.areaRoom : Nat

/-- The n-th nonce drawn for authenticated debug, as a number of 256 bits. -/
opaque Config.nonceBits : Nat → BitVec 256

/-- The 32 octets of the n-th nonce (R698). -/
def Config.nonce (n : Nat) : List Byte := leBytes 32 (Config.nonceBits n).toNat

/-- The n-th free value of the model (assumption 5): a number the spec leaves open. -/
opaque Config.freeValue : Nat → Nat

/-- Octets of pad records after so many octets of a sector of the event ring, up to the end of the flash page (R601): the
spec does not give the page size. -/
opaque Config.padOctets : Nat → Nat

/-! ### The baseband's firmware (chapters 03 to 05): functions the spec names and does not state -/

/-- Group delay in 2^-10 ps of one held Lint trap at an IF in Hz (R103), from its centre (9.765625 Hz), width (10 kHz) and depth
(dB): R98 calls it a second-order complex notch filter and gives no coefficients. -/
opaque Config.trapDelay (freq : Int) (width depth : Nat) (hz : Int) : Int

/-- Phase in 2^-32 cycle of one held Lint trap at an IF in Hz (R103). -/
opaque Config.trapPhase (freq : Int) (width depth : Nat) (hz : Int) : Int

/-- The sign of the secondary code of a signal's tracked component over the n-th primary code period (R122: the firmware wipes
it off): published in each signal's interface specification. -/
opaque Config.secondary (signal sv n : Nat) : Bool

/-- The carrier word that the third-order PLL asks for, and its memory after (R134): discriminator form (PP with atan2 for a
pilot, Costas on P), bandwidth (0.1 Hz), interval (ms), the coherent sum, the word in force, its memory. -/
opaque Config.pll (pilot : Bool) (bw ms : Nat) (i q word : Int) (mem : List Int) : Int × List Int

/-- The carrier word that the second-order FLL asks for (R134): bandwidth (0.1 Hz), the last two sums, the word in force. -/
opaque Config.fll (bw : Nat) (i0 q0 i1 q1 word : Int) (mem : List Int) : Int × List Int

/-- The code word that the first-order carrier-aided DLL asks for (R134): bandwidth (0.01 Hz), interval (ms), spacing d in 1/640
chip, early and late power, the carrier word, the word in force. -/
opaque Config.dll (bw ms d : Nat) (early late : Nat) (carrier word : Int) : Int

/-- The mean of R135 and R161 over a dump without power, 0/0, which neither states. -/
opaque Config.powerless : Int

/-- PR_SD of a record (R142), in 0.02 m, from signal, C/N0 and the DLL's bandwidth and spacing: no rule gives the function. -/
opaque Config.prSd (signal cn0 bw d : Nat) : Nat

/-- CP_SD of a record (R142), in 0.001 cycle. -/
opaque Config.cpSd (signal cn0 bw : Nat) : Nat

/-- What the GNSS time solution is formed from (R163): the epoch in TAI ns, the committed ANT_A position (0.1 mm) if there is
one, the reference constellation, and for each signal its code, satellite, pseudorange (2^-20 m), PR_SD and whether its
satellite is tracked in both bands (ionosphere-free, else the broadcast model), with the ephemerides in use. -/
structure SolOb where
  signal : Nat
  sv     : Nat
  gloK   : Nat
  range  : Nat
  sd     : Nat
  dual   : Bool
  eph    : List Byte
  deriving DecidableEq, Repr

/-- The inputs of one solution. -/
structure SolIn where
  at_ : Nat
  pos : Option (Int × Int × Int)
  ref : Nat
  obs : List SolOb
  deriving DecidableEq, Repr

/-- The clock of the solution: source time minus Field Time, in units of 2^-32 ns (R163). -/
opaque Config.solClock (x : SolIn) : Int

/-- The post-fit RMS of the solution in 0.1 ns (R165). -/
opaque Config.solRms (x : SolIn) : Nat

/-- The residual of a signal in a solution, in mm (R153). -/
opaque Config.solResidual (x : SolIn) (o : SolOb) : Int

/-- The position of a satellite from an ephemeris at a Field Time in ns, in mm (R153, C8). -/
opaque Config.satPosition (eph : List Byte) (ns : Nat) : Int × Int × Int

/-- The carrier single difference ANT_A − ANT_B that an ephemeris and both antenna positions (0.1 mm) predict at a carrier in
Hz, in 2^-16 cycle (R153, C5). -/
opaque Config.antennaDiff (eph : List Byte) (ns : Nat) (a b : Int × Int × Int) (hz : Int) : Int

/-- The common term of a band's single differences, in 2^-16 cycle (R153, C5). -/
opaque Config.commonTerm (l : List Int) : Int

/-- The standard deviation in 0.01 m, over the last 60 s, of pseudorange minus carrier range (2^-20 m, one an epoch, newest
first) after a 300 s high-pass (R161): the filter is not given. -/
opaque Config.cmcDeviation (l : List Int) : Nat

/-! ### The Solve engine's arithmetic (R208 to R217), which no rule states -/

/-- A double difference (R208, R209): signal code, satellite and pivot; carrier in Hz; sine of the satellite's elevation in
2^-30; code and carrier double difference in 2^-29 mm, none where either end lacks it; standard deviations in µm; positions of
the satellite and the pivot in mm. -/
structure DDiff where
  signal  : Nat
  sv      : Nat
  pivot   : Nat
  hz      : Int
  sine    : Int
  code    : Option Int
  phase   : Option Int
  codeSd  : Nat
  phaseSd : Nat
  sat     : Int × Int × Int
  piv     : Int × Int × Int
  deriving DecidableEq, Repr

/-- States 0 to 6 of a filter initialised from code double differences, by label; `ref` is the origin in 0.1 mm. -/
opaque Config.codeStates (ref : Int × Int × Int) (l : List DDiff) (label : Nat) : Int

/-- Their covariance, by labels. -/
opaque Config.codeCov (ref : Int × Int × Int) (l : List DDiff) (a b : Nat) : Int

/-- The variance with which a state is opened, by its label. -/
opaque Config.startVariance (label : Nat) : Int

/-- The value with which an ambiguity or an ionospheric state is opened, by its label. -/
opaque Config.startValue (l : List DDiff) (label : Nat) : Int

/-- The states after a measurement update with weighted double differences (R209, R210), by label; `axes` are the local axes of
R220 in the Earth frame. -/
opaque Config.updateStates (ref : Int × Int × Int) (axes : List (Int × Int × Int)) (states : List (Nat × Int))
    (cov : List (List Int)) (l : List DDiff) (label : Nat) : Int

/-- Their covariance, by labels. -/
opaque Config.updateCov (ref : Int × Int × Int) (axes : List (Int × Int × Int)) (states : List (Nat × Int))
    (cov : List (List Int)) (l : List DDiff) (a b : Nat) : Int

/-- The best integer of an ambiguity by integer least squares over the ambiguities `keys`, the integers `held` being fixed
(R213, R217). -/
opaque Config.bestInteger (states : List (Nat × Int)) (cov : List (List Int)) (held : List (Nat × Int)) (keys : List Nat)
    (key : Nat) : Int

/-- The squared residual norms of the best and the second-best integer vector. -/
opaque Config.searchNorms (states : List (Nat × Int)) (cov : List (List Int)) (held : List (Nat × Int)) (keys : List Nat) :
    Nat × Nat

/-- The states with ambiguities held at integers, by label. -/
opaque Config.fixedStates (states : List (Nat × Int)) (cov : List (List Int)) (set : List (Nat × Int)) (label : Nat) : Int

/-- Their covariance, by labels. -/
opaque Config.fixedCov (states : List (Nat × Int)) (cov : List (List Int)) (set : List (Nat × Int)) (a b : Nat) : Int

/-- The fixed carrier residual of an ambiguity of the set, in µm (R214). -/
opaque Config.fixedResidual (ref : Int × Int × Int) (axes : List (Int × Int × Int)) (states : List (Nat × Int))
    (cov : List (List Int)) (set : List (Nat × Int)) (l : List DDiff) (key : Nat) : Nat

/-- A signal of a survey epoch (R183): its code, satellite and GLO_K, pseudorange in 2^-20 m, PR_SD, its pseudorange minus
carrier range of the latest epochs (2^-20 m, newest first) to smooth with, and its ephemeris. -/
structure PointOb where
  signal : Nat
  sv     : Nat
  gloK   : Nat
  range  : Nat
  sd     : Nat
  cmc    : List Int
  eph    : List Byte
  deriving DecidableEq, Repr

/-- The ionosphere-free, carrier-smoothed single-point solution of an epoch in TAI ns: X, Y, Z in 0.1 mm (R183). -/
opaque Config.singlePoint (ns : Nat) (l : List PointOb) : Int × Int × Int

/-- The 1-sigma uncertainty of the ANT_B result in mm, from that of ANT_A and the baselines it is the mean of (R184, 0x2809.04):
no rule gives the function. -/
opaque Config.surveySigmaB (sigmaA : Nat) (l : List (Int × Int × Int)) : Nat

/-- T_ref of the oscillator model (0x3F47.03) for the temperatures of its samples: R652 does not say how it is chosen. -/
opaque Config.oscTref : List Int → Int

/-- The 4 KiB of section 8 of a state image (R553), whose layout the spec does not give, from what the section holds. -/
opaque Config.section8 : List Int → List Byte

/-- Sections 10 and 11 of a state image (R553), whose layouts the spec leaves to DS_VERSION. -/
opaque Config.imageTail : List Int → List Byte

end Sys2Proof
end

