-- ==== Sys2Proof/Machine/Catalog.lean ====
section
/-!
DEFINITION. The object catalogue: every dictionary object of the "Objects" rules (R40, R48, R83, R113, R149, R178,
R189, R197, R225, R254, R296, R319, R344, R382, R413, R440, R469, R496, R517, R563, R597, R616, R642, R660, R682,
R700) with its type, access, least role, default and range, one row per run of objects that share them; the
event codes with their severities and stated rate limits; and which counters add into 0x5001.
-/

namespace Sys2Proof.Machine

/-- The types of R567. `oct` and `str` carry the lengths the object allows, `arr` its element size and count. -/
inductive Ty where
  | bool | u8 | u16 | u32 | u64 | i32 | i64 | ft
  | str (max : Nat)
  | oct (lo hi : Nat)
  | arr (elem max : Nat)
  deriving DecidableEq, Repr

/-- The access kinds of R569. -/
inductive Access where
  | ro | rw | wo | wl | cmd
  deriving DecidableEq, Repr

/-- The Range column. `any` also stands where the home chapter states the range in a rule of its own. -/
inductive Range where
  | any
  | between (lo hi : Int)
  | oneOf (vs : List Int)
  | multiples (lo hi step : Int)
  deriving DecidableEq, Repr

/-- One run of objects: indices `i0 … i1`, subindices `s0 … s1`. The role is encoded as in R568. -/
structure Row where
  i0 : Nat
  i1 : Nat
  s0 : Nat
  s1 : Nat
  ty : Ty
  acc : Access
  role : Nat
  dflt : Val
  range : Range
  deriving DecidableEq, Repr

/-- The octets of a short text. -/
def strBytes (t : String) : List Byte := t.toList.map fun c => byte c.toNat

/-- Objects of chapter 01, part 0. -/
def Catalog.architecture0 : List Row := [
  ⟨0x5000, 0x5000, 0x00, 0x00, .u8, .ro, 0, .num 7, .any⟩,
  ⟨0x5000, 0x5000, 0x01, 0x01, .u64, .ro, 0, .num 0, .any⟩,
  ⟨0x5000, 0x5000, 0x02, 0x02, .u64, .ro, 0, .num 0, .any⟩,
  ⟨0x5000, 0x5000, 0x03, 0x03, .u64, .ro, 0, .num 0, .any⟩,
  ⟨0x5000, 0x5000, 0x04, 0x04, .u64, .ro, 0, .num 0, .any⟩,
  ⟨0x5000, 0x5000, 0x05, 0x05, .u64, .ro, 0, .num 0, .any⟩,
  ⟨0x5000, 0x5000, 0x06, 0x06, .u64, .ro, 0, .num 0, .any⟩,
  ⟨0x5000, 0x5000, 0x07, 0x07, .u64, .ro, 0, .num 0, .any⟩,
  ⟨0x5001, 0x5001, 0x00, 0x00, .u8, .ro, 0, .num 15, .any⟩,
  ⟨0x5001, 0x5001, 0x01, 0x0F, .u64, .ro, 0, .num 0, .any⟩]

/-- Objects of chapter 02, part 0. -/
def Catalog.fieldTime0 : List Row := [
  ⟨0x2000, 0x2000, 0x00, 0x00, .ft, .ro, 0, .num 0, .any⟩,
  ⟨0x2001, 0x2001, 0x00, 0x00, .u8, .ro, 0, .num 5, .any⟩,
  ⟨0x2002, 0x2002, 0x00, 0x00, .u64, .ro, 0, .num 8589934592, .any⟩,
  ⟨0x2003, 0x2003, 0x00, 0x00, .i64, .ro, 0, .num 0, .any⟩,
  ⟨0x2004, 0x2004, 0x00, 0x00, .u32, .ro, 0, .num 0, .any⟩,
  ⟨0x2005, 0x2005, 0x00, 0x00, .ft, .cmd, 3, .num 0, .any⟩,
  ⟨0x2006, 0x2006, 0x00, 0x00, .u8, .rw, 2, .num 7, .between 0 7⟩,
  ⟨0x2007, 0x2007, 0x00, 0x00, .u16, .rw, 2, .num 10, .between 1 600⟩,
  ⟨0x2008, 0x2008, 0x00, 0x00, .u16, .rw, 2, .num 30, .between 1 600⟩,
  ⟨0x2009, 0x2009, 0x00, 0x00, .u32, .rw, 2, .num 10000, .between 1000 1000000⟩,
  ⟨0x200A, 0x200A, 0x00, 0x00, .u16, .rw, 2, .num 10, .between 1 50000⟩,
  ⟨0x200B, 0x200B, 0x00, 0x00, .u16, .rw, 2, .num 50, .between 0 10000⟩,
  ⟨0x2010, 0x2010, 0x00, 0x00, .u8, .ro, 0, .num 8, .any⟩,
  ⟨0x2010, 0x2010, 0x01, 0x01, .u64, .ro, 0, .num 0, .any⟩,
  ⟨0x2010, 0x2010, 0x02, 0x02, .u64, .ro, 0, .num 0, .any⟩,
  ⟨0x2010, 0x2010, 0x03, 0x03, .u64, .ro, 0, .num 0, .any⟩,
  ⟨0x2010, 0x2010, 0x04, 0x04, .u64, .ro, 0, .num 0, .any⟩,
  ⟨0x2010, 0x2010, 0x05, 0x05, .u64, .ro, 0, .num 0, .any⟩,
  ⟨0x2010, 0x2010, 0x06, 0x06, .u64, .ro, 0, .num 0, .any⟩,
  ⟨0x2010, 0x2010, 0x07, 0x07, .u64, .ro, 0, .num 0, .any⟩,
  ⟨0x2010, 0x2010, 0x08, 0x08, .u64, .ro, 0, .num 0, .any⟩,
  ⟨0x2020, 0x2020, 0x00, 0x00, .u8, .ro, 0, .num 32, .any⟩,
  ⟨0x2020, 0x2020, 0x01, 0x01, .u16, .ro, 0, .num 1, .any⟩,
  ⟨0x2020, 0x2020, 0x02, 0x02, .u16, .ro, 0, .num 2, .any⟩]

/-- Objects of chapter 02, part 1. -/
def Catalog.fieldTime1 : List Row := [
  ⟨0x2020, 0x2020, 0x03, 0x20, .u16, .ro, 0, .num 0, .any⟩,
  ⟨0x2021, 0x2021, 0x00, 0x00, .u8, .ro, 0, .num 30, .any⟩]

/-- Objects of chapter 03, part 0. -/
def Catalog.gnss0 : List Row := [
  ⟨0x2400, 0x2400, 0x00, 0x00, .u8, .rw, 2, .num 15, .between 0 15⟩,
  ⟨0x2401, 0x2403, 0x00, 0x00, .u8, .ro, 0, .num 2, .any⟩,
  ⟨0x2401, 0x2401, 0x01, 0x02, .u8, .rw, 2, .num 1, .between 0 2⟩,
  ⟨0x2402, 0x2402, 0x01, 0x02, .u8, .ro, 0, .num 0, .any⟩,
  ⟨0x2403, 0x2403, 0x01, 0x02, .u16, .ro, 0, .num 0, .any⟩,
  ⟨0x2404, 0x2404, 0x00, 0x00, .u8, .rw, 2, .num 24, .between 8 48⟩,
  ⟨0x2405, 0x2406, 0x00, 0x00, .u8, .ro, 0, .num 4, .any⟩,
  ⟨0x2405, 0x2405, 0x01, 0x04, .u8, .ro, 0, .num 0, .any⟩,
  ⟨0x2406, 0x2406, 0x01, 0x04, .u8, .ro, 0, .num 0, .any⟩,
  ⟨0x2407, 0x2407, 0x00, 0x00, .u8, .rw, 2, .num 64, .between 1 255⟩,
  ⟨0x2408, 0x2408, 0x00, 0x00, .u8, .rw, 2, .num 16, .between 0 63⟩,
  ⟨0x2409, 0x2409, 0x00, 0x00, .u8, .rw, 2, .num 15, .between 6 40⟩,
  ⟨0x240A, 0x240A, 0x00, 0x00, .u8, .rw, 2, .num 10, .between 1 60⟩,
  ⟨0x240B, 0x240B, 0x00, 0x00, .u8, .rw, 2, .num 5, .between 1 60⟩,
  ⟨0x240C, 0x240C, 0x00, 0x00, .u16, .rw, 2, .num 60, .between 10 600⟩,
  ⟨0x240D, 0x240D, 0x00, 0x00, .u16, .rw, 2, .num 300, .between 60 3600⟩,
  ⟨0x240E, 0x240E, 0x00, 0x00, .u8, .cmd, 2, .num 0, .between 1 15⟩,
  ⟨0x240F, 0x240F, 0x00, 0x00, .u8, .ro, 0, .num 4, .any⟩,
  ⟨0x240F, 0x240F, 0x01, 0x04, .u8, .ro, 0, .num 0, .any⟩,
  ⟨0x2410, 0x2413, 0x00, 0x00, .u8, .ro, 0, .num 8, .any⟩,
  ⟨0x2410, 0x2413, 0x01, 0x08, .u64, .ro, 0, .num 0, .any⟩,
  ⟨0x2418, 0x2418, 0x00, 0x00, .u8, .ro, 0, .num 4, .any⟩,
  ⟨0x2418, 0x2418, 0x01, 0x04, .i32, .ro, 0, .num 0, .any⟩,
  ⟨0x2420, 0x2423, 0x00, 0x00, .u8, .ro, 0, .num 5, .any⟩]

/-- Objects of chapter 03, part 1. -/
def Catalog.gnss1 : List Row := [
  ⟨0x2420, 0x2423, 0x01, 0x01, .u64, .ro, 0, .num 0, .any⟩,
  ⟨0x2420, 0x2423, 0x02, 0x02, .u64, .ro, 0, .num 0, .any⟩,
  ⟨0x2420, 0x2423, 0x03, 0x03, .u64, .ro, 0, .num 0, .any⟩,
  ⟨0x2420, 0x2423, 0x04, 0x04, .u64, .ro, 0, .num 0, .any⟩,
  ⟨0x2420, 0x2423, 0x05, 0x05, .u64, .ro, 0, .num 0, .any⟩,
  ⟨0x2424, 0x2424, 0x00, 0x00, .u8, .ro, 0, .num 4, .any⟩,
  ⟨0x2424, 0x2424, 0x01, 0x02, .u64, .ro, 0, .num 0, .any⟩,
  ⟨0x2424, 0x2424, 0x03, 0x04, .u64, .ro, 0, .num 0, .any⟩]

/-- Objects of chapter 04, part 0. -/
def Catalog.channels0 : List Row := [
  ⟨0x2430, 0x2430, 0x00, 0x00, .u32, .rw, 2, .num 4272575488, .any⟩,
  ⟨0x2431, 0x2431, 0x00, 0x00, .u32, .rw, 2, .num 65535, .between 0 65535⟩,
  ⟨0x2432, 0x2432, 0x00, 0x00, .u8, .ro, 0, .num 16, .any⟩,
  ⟨0x2432, 0x2432, 0x01, 0x10, .u8, .rw, 2, .num 4, .between 0 7⟩,
  ⟨0x2433, 0x2433, 0x00, 0x00, .u8, .rw, 2, .num 5, .between 0 30⟩,
  ⟨0x2434, 0x2434, 0x00, 0x00, .u16, .rw, 2, .num 100, .between 10 300⟩,
  ⟨0x2435, 0x2435, 0x00, 0x00, .u16, .rw, 2, .num 50, .between 1 500⟩,
  ⟨0x2436, 0x2436, 0x00, 0x00, .u16, .rw, 2, .num 20, .between 5 100⟩,
  ⟨0x2437, 0x2437, 0x00, 0x00, .u8, .rw, 2, .num 1, .between 0 3⟩,
  ⟨0x2438, 0x2438, 0x00, 0x00, .u8, .rw, 2, .num 20, .between 1 20⟩,
  ⟨0x2439, 0x2439, 0x00, 0x00, .u16, .rw, 2, .num 2000, .between 1000 3500⟩,
  ⟨0x243A, 0x243A, 0x00, 0x00, .u8, .rw, 2, .num 80, .between 50 95⟩,
  ⟨0x243B, 0x243B, 0x00, 0x00, .u16, .rw, 2, .num 10, .between 1 300⟩,
  ⟨0x243C, 0x243C, 0x00, 0x00, .u16, .rw, 2, .num 5000, .between 500 10000⟩,
  ⟨0x243D, 0x243D, 0x00, 0x00, .u16, .rw, 2, .num 500, .between 25 1000⟩,
  ⟨0x243E, 0x243E, 0x00, 0x00, .u8, .rw, 2, .num 1, .between 1 10⟩,
  ⟨0x243F, 0x243F, 0x00, 0x00, .u8, .rw, 2, .num 4, .between 1 64⟩,
  ⟨0x2440, 0x2440, 0x00, 0x00, .u16, .rw, 0, .num 0, .multiples 0 448 64⟩,
  ⟨0x2441, 0x2441, 0x00, 0x00, .u8, .ro, 0, .num 64, .any⟩,
  ⟨0x2441, 0x2441, 0x01, 0x40, .u64, .ro, 0, .num 0, .any⟩,
  ⟨0x2442, 0x2442, 0x00, 0x00, .u16, .rw, 2, .num 130, .between 80 250⟩,
  ⟨0x2444, 0x2444, 0x00, 0x00, .ft, .ro, 0, .num 0, .any⟩,
  ⟨0x2445, 0x2445, 0x00, 0x00, .u8, .ro, 0, .num 64, .any⟩,
  ⟨0x2445, 0x2445, 0x01, 0x40, .oct 32 32, .ro, 0, .oct (zeros 32), .any⟩]

/-- Objects of chapter 04, part 1. -/
def Catalog.channels1 : List Row := [
  ⟨0x2446, 0x2446, 0x00, 0x00, .u32, .ro, 0, .num 4294967295, .any⟩,
  ⟨0x2447, 0x2447, 0x00, 0x00, .u32, .rw, 0, .num 0, .between 0 4294967294⟩,
  ⟨0x2448, 0x2448, 0x00, 0x00, .oct 108 108, .ro, 0, .oct (zeros 108), .any⟩,
  ⟨0x2450, 0x2450, 0x00, 0x00, .u8, .ro, 0, .num 11, .any⟩,
  ⟨0x2450, 0x2450, 0x01, 0x01, .u64, .ro, 0, .num 0, .any⟩,
  ⟨0x2450, 0x2450, 0x02, 0x02, .u64, .ro, 0, .num 0, .any⟩,
  ⟨0x2450, 0x2450, 0x03, 0x03, .u64, .ro, 0, .num 0, .any⟩,
  ⟨0x2450, 0x2450, 0x04, 0x04, .u64, .ro, 0, .num 0, .any⟩,
  ⟨0x2450, 0x2450, 0x05, 0x05, .u64, .ro, 0, .num 0, .any⟩,
  ⟨0x2450, 0x2450, 0x06, 0x06, .u64, .ro, 0, .num 0, .any⟩,
  ⟨0x2450, 0x2450, 0x07, 0x07, .u64, .ro, 0, .num 0, .any⟩,
  ⟨0x2450, 0x2450, 0x08, 0x08, .u64, .ro, 0, .num 0, .any⟩,
  ⟨0x2450, 0x2450, 0x09, 0x09, .u64, .ro, 0, .num 0, .any⟩,
  ⟨0x2450, 0x2450, 0x0A, 0x0A, .u64, .ro, 0, .num 0, .any⟩,
  ⟨0x2450, 0x2450, 0x0B, 0x0B, .u64, .ro, 0, .num 0, .any⟩]

/-- Objects of chapter 05, part 0. -/
def Catalog.integrity0 : List Row := [
  ⟨0x2460, 0x2460, 0x00, 0x00, .u8, .rw, 2, .num 255, .between 0 255⟩,
  ⟨0x2461, 0x2461, 0x00, 0x00, .u8, .rw, 2, .num 50, .between 30 100⟩,
  ⟨0x2462, 0x2462, 0x00, 0x00, .u16, .rw, 2, .num 100, .between 20 1000⟩,
  ⟨0x2463, 0x2463, 0x00, 0x00, .u8, .rw, 2, .num 20, .between 5 100⟩,
  ⟨0x2464, 0x2464, 0x00, 0x00, .u16, .rw, 2, .num 10, .between 2 100⟩,
  ⟨0x2465, 0x2465, 0x00, 0x00, .u8, .rw, 2, .num 10, .between 2 50⟩,
  ⟨0x2466, 0x2466, 0x00, 0x00, .u16, .rw, 2, .num 20, .between 5 1000⟩,
  ⟨0x2467, 0x2467, 0x00, 0x00, .u8, .rw, 2, .num 10, .between 1 100⟩,
  ⟨0x2468, 0x2468, 0x00, 0x00, .u16, .rw, 2, .num 5500, .between 4500 6000⟩,
  ⟨0x2469, 0x2469, 0x00, 0x00, .u8, .rw, 2, .num 25, .between 10 100⟩,
  ⟨0x246A, 0x246A, 0x00, 0x00, .u8, .rw, 2, .num 50, .between 10 250⟩,
  ⟨0x246B, 0x246B, 0x00, 0x00, .u8, .rw, 2, .num 50, .between 10 255⟩,
  ⟨0x246C, 0x246C, 0x00, 0x00, .u8, .rw, 2, .num 5, .between 1 50⟩,
  ⟨0x246D, 0x246D, 0x00, 0x00, .u8, .rw, 2, .num 0, .between 0 2⟩,
  ⟨0x246E, 0x246E, 0x00, 0x00, .u16, .rw, 2, .num 100, .between 10 1000⟩,
  ⟨0x246F, 0x246F, 0x00, 0x00, .u8, .ro, 0, .num 0, .any⟩,
  ⟨0x2470, 0x2470, 0x00, 0x00, .u8, .rw, 2, .num 2, .between 0 2⟩,
  ⟨0x2471, 0x2471, 0x00, 0x00, .i32, .rw, 2, .num 0, .between (-1000000) 0⟩,
  ⟨0x2472, 0x2472, 0x00, 0x00, .u16, .rw, 2, .num 100, .between 1 900⟩,
  ⟨0x2473, 0x2473, 0x00, 0x00, .bool, .rw, 2, .num 0, .between 0 1⟩,
  ⟨0x2474, 0x2474, 0x00, 0x00, .oct 48 48, .ro, 0, .oct (zeros 48), .any⟩,
  ⟨0x2475, 0x2475, 0x00, 0x00, .u8, .ro, 0, .num 4, .any⟩,
  ⟨0x2475, 0x2475, 0x01, 0x04, .oct 6 6, .rw, 2, .oct (zeros 6), .any⟩,
  ⟨0x2476, 0x2476, 0x00, 0x00, .u16, .ro, 0, .num 0, .any⟩]

/-- Objects of chapter 05, part 1. -/
def Catalog.integrity1 : List Row := [
  ⟨0x2480, 0x2480, 0x00, 0x00, .u8, .ro, 0, .num 16, .any⟩,
  ⟨0x2480, 0x2480, 0x01, 0x08, .u64, .ro, 0, .num 0, .any⟩,
  ⟨0x2480, 0x2480, 0x09, 0x09, .u64, .ro, 0, .num 0, .any⟩,
  ⟨0x2480, 0x2480, 0x0A, 0x0A, .u64, .ro, 0, .num 0, .any⟩,
  ⟨0x2480, 0x2480, 0x0B, 0x0B, .u64, .ro, 0, .num 0, .any⟩,
  ⟨0x2480, 0x2480, 0x0C, 0x0C, .u64, .ro, 0, .num 0, .any⟩,
  ⟨0x2480, 0x2480, 0x0D, 0x0D, .u64, .ro, 0, .num 0, .any⟩,
  ⟨0x2480, 0x2480, 0x0E, 0x0E, .u64, .ro, 0, .num 0, .any⟩,
  ⟨0x2480, 0x2480, 0x0F, 0x0F, .u64, .ro, 0, .num 0, .any⟩,
  ⟨0x2480, 0x2480, 0x10, 0x10, .u64, .ro, 0, .num 0, .any⟩]

/-- Objects of chapter 06, part 0. -/
def Catalog.solve0 : List Row := [
  ⟨0x2800, 0x2800, 0x00, 0x00, .u8, .ro, 0, .num 4, .any⟩,
  ⟨0x2800, 0x2800, 0x01, 0x03, .i64, .rw, 2, .num 0, .between (-100000000000) 100000000000⟩,
  ⟨0x2800, 0x2800, 0x04, 0x04, .u16, .rw, 2, .num 0, .between 0 65535⟩,
  ⟨0x2801, 0x2801, 0x00, 0x00, .u8, .ro, 0, .num 3, .any⟩,
  ⟨0x2801, 0x2801, 0x01, 0x03, .i64, .rw, 2, .num 0, .between (-100000000000) 100000000000⟩,
  ⟨0x2802, 0x2802, 0x00, 0x00, .u8, .ro, 0, .num 4, .any⟩,
  ⟨0x2802, 0x2802, 0x01, 0x03, .i64, .ro, 0, .num 0, .any⟩,
  ⟨0x2802, 0x2802, 0x04, 0x04, .i64, .ro, 0, .num 0, .any⟩,
  ⟨0x2803, 0x2803, 0x00, 0x00, .u8, .ro, 0, .num 3, .any⟩,
  ⟨0x2803, 0x2803, 0x01, 0x03, .i64, .ro, 0, .num 0, .any⟩,
  ⟨0x2804, 0x2804, 0x00, 0x00, .u8, .wl, 2, .num 0, .oneOf [1, 2, 3, 17, 18, 19]⟩,
  ⟨0x2805, 0x2805, 0x00, 0x00, .u32, .rw, 2, .num 3600, .between 600 86400⟩,
  ⟨0x2806, 0x2806, 0x00, 0x00, .u16, .rw, 2, .num 500, .between 50 5000⟩,
  ⟨0x2807, 0x2807, 0x00, 0x00, .u8, .ro, 0, .num 0, .any⟩,
  ⟨0x2808, 0x2809, 0x00, 0x00, .u8, .ro, 0, .num 5, .any⟩,
  ⟨0x2808, 0x2808, 0x01, 0x03, .i64, .ro, 0, .num 0, .any⟩,
  ⟨0x2808, 0x2808, 0x04, 0x04, .u32, .ro, 0, .num 4294967295, .any⟩,
  ⟨0x2808, 0x2808, 0x05, 0x05, .u32, .ro, 0, .num 0, .any⟩,
  ⟨0x2809, 0x2809, 0x01, 0x03, .i64, .ro, 0, .num 0, .any⟩,
  ⟨0x2809, 0x2809, 0x04, 0x04, .u32, .ro, 0, .num 0xFFFFFFFF, .any⟩,
  ⟨0x2809, 0x2809, 0x05, 0x05, .u32, .ro, 0, .num 0, .any⟩,
  ⟨0x2810, 0x2810, 0x00, 0x00, .u8, .rw, 2, .num 10, .between 0 30⟩,
  ⟨0x2811, 0x2811, 0x00, 0x00, .u8, .rw, 2, .num 30, .between 20 45⟩,
  ⟨0x2812, 0x2812, 0x00, 0x00, .u16, .rw, 2, .num 30, .between 5 500⟩]

/-- Objects of chapter 06, part 1. -/
def Catalog.solve1 : List Row := [
  ⟨0x2813, 0x2813, 0x00, 0x00, .u8, .rw, 2, .num 3, .between 1 20⟩,
  ⟨0x2814, 0x2814, 0x00, 0x00, .u16, .rw, 2, .num 100, .between 1 1000⟩,
  ⟨0x2815, 0x2815, 0x00, 0x00, .u16, .rw, 2, .num 20, .between 1 1000⟩,
  ⟨0x2816, 0x2816, 0x00, 0x00, .u8, .rw, 2, .num 10, .between 1 10⟩,
  ⟨0x2817, 0x2817, 0x00, 0x00, .u16, .rw, 2, .num 10000, .between 100 20000⟩,
  ⟨0x2818, 0x2818, 0x00, 0x00, .u16, .rw, 2, .num 2000, .between 0 20000⟩,
  ⟨0x2819, 0x2819, 0x00, 0x00, .u16, .rw, 2, .num 300, .between 50 2000⟩,
  ⟨0x281A, 0x281A, 0x00, 0x00, .u8, .rw, 2, .num 15, .between 5 50⟩,
  ⟨0x281B, 0x281B, 0x00, 0x00, .u8, .rw, 2, .num 10, .between 1 50⟩,
  ⟨0x281C, 0x281C, 0x00, 0x00, .u16, .rw, 2, .num 30, .between 5 600⟩,
  ⟨0x2820, 0x2820, 0x00, 0x00, .u16, .rw, 2, .num 0, .between 0 4095⟩,
  ⟨0x2821, 0x2821, 0x00, 0x00, .u8, .rw, 2, .num 1, .between 0 1⟩,
  ⟨0x2822, 0x2822, 0x00, 0x00, .u8, .ro, 0, .num 4, .any⟩,
  ⟨0x2822, 0x2822, 0x01, 0x01, .u8, .rw, 2, .num 10, .oneOf [1, 2, 5, 10]⟩,
  ⟨0x2822, 0x2822, 0x02, 0x04, .u8, .rw, 2, .num 10, .between 1 60⟩,
  ⟨0x2823, 0x2823, 0x00, 0x00, .u8, .rw, 2, .num 15, .between 0 15⟩,
  ⟨0x2824, 0x2824, 0x00, 0x00, .str 31, .rw, 2, .oct [], .any⟩,
  ⟨0x2825, 0x2825, 0x00, 0x00, .u8, .rw, 2, .num 0, .between 0 255⟩,
  ⟨0x2826, 0x2826, 0x00, 0x00, .str 31, .rw, 2, .oct [], .any⟩,
  ⟨0x2827, 0x2827, 0x00, 0x00, .u8, .ro, 0, .num 4, .any⟩,
  ⟨0x2827, 0x2827, 0x01, 0x04, .oct 6 6, .rw, 2, .oct (zeros 6), .any⟩,
  ⟨0x2828, 0x2828, 0x00, 0x00, .bool, .rw, 2, .num 1, .between 0 1⟩,
  ⟨0x2830, 0x2830, 0x00, 0x00, .u8, .rw, 0, .num 1, .between 1 128⟩,
  ⟨0x2831, 0x2831, 0x00, 0x00, .oct 32 32, .ro, 0, .oct (zeros 32), .any⟩]

/-- Objects of chapter 06, part 2. -/
def Catalog.solve2 : List Row := [
  ⟨0x2832, 0x2832, 0x00, 0x00, .u8, .ro, 0, .num 9, .any⟩,
  ⟨0x2832, 0x2832, 0x01, 0x01, .u8, .ro, 0, .num 0, .any⟩,
  ⟨0x2832, 0x2832, 0x02, 0x02, .u8, .ro, 0, .num 0, .any⟩,
  ⟨0x2832, 0x2832, 0x03, 0x03, .u8, .ro, 0, .num 0, .any⟩,
  ⟨0x2832, 0x2832, 0x04, 0x04, .u8, .ro, 0, .num 0, .any⟩,
  ⟨0x2832, 0x2832, 0x05, 0x05, .u32, .ro, 0, .num 0, .any⟩,
  ⟨0x2832, 0x2832, 0x06, 0x06, .u16, .ro, 0, .num 0, .any⟩,
  ⟨0x2832, 0x2832, 0x07, 0x07, .u32, .ro, 0, .num 0, .any⟩,
  ⟨0x2832, 0x2832, 0x08, 0x08, .u32, .ro, 0, .num 0, .any⟩,
  ⟨0x2832, 0x2832, 0x09, 0x09, .u32, .ro, 0, .num 0, .any⟩,
  ⟨0x2840, 0x2840, 0x00, 0x00, .u8, .ro, 0, .num 13, .any⟩,
  ⟨0x2840, 0x2840, 0x01, 0x01, .u64, .ro, 0, .num 0, .any⟩,
  ⟨0x2840, 0x2840, 0x02, 0x02, .u64, .ro, 0, .num 0, .any⟩,
  ⟨0x2840, 0x2840, 0x03, 0x03, .u64, .ro, 0, .num 0, .any⟩,
  ⟨0x2840, 0x2840, 0x04, 0x04, .u64, .ro, 0, .num 0, .any⟩,
  ⟨0x2840, 0x2840, 0x05, 0x05, .u64, .ro, 0, .num 0, .any⟩,
  ⟨0x2840, 0x2840, 0x06, 0x06, .u64, .ro, 0, .num 0, .any⟩,
  ⟨0x2840, 0x2840, 0x07, 0x07, .u64, .ro, 0, .num 0, .any⟩,
  ⟨0x2840, 0x2840, 0x08, 0x08, .u64, .ro, 0, .num 0, .any⟩,
  ⟨0x2840, 0x2840, 0x09, 0x09, .u64, .ro, 0, .num 0, .any⟩,
  ⟨0x2840, 0x2840, 0x0A, 0x0A, .u64, .ro, 0, .num 0, .any⟩,
  ⟨0x2840, 0x2840, 0x0B, 0x0B, .u64, .ro, 0, .num 0, .any⟩,
  ⟨0x2840, 0x2840, 0x0C, 0x0C, .u64, .ro, 0, .num 0, .any⟩,
  ⟨0x2840, 0x2840, 0x0D, 0x0D, .u64, .ro, 0, .num 0, .any⟩]

/-- Objects of chapter 07, part 0. -/
def Catalog.pipeline0 : List Row := [
  ⟨0x2C00, 0x2C00, 0x00, 0x00, .u64, .ro, 0, .num 0, .any⟩,
  ⟨0x2C01, 0x2C01, 0x00, 0x00, .u64, .ro, 0, .num 0, .any⟩,
  ⟨0x2C02, 0x2C02, 0x00, 0x00, .u8, .ro, 0, .num 0, .any⟩,
  ⟨0x2C08, 0x2C08, 0x00, 0x00, .u8, .ro, 0, .num 7, .any⟩,
  ⟨0x2C08, 0x2C08, 0x01, 0x07, .i32, .ro, 0, .num 2147483647, .any⟩,
  ⟨0x2C09, 0x2C09, 0x00, 0x00, .bool, .cmd, 1, .num 0, .oneOf [1]⟩,
  ⟨0x2C10, 0x2C10, 0x00, 0x00, .u8, .ro, 0, .num 15, .any⟩,
  ⟨0x2C10, 0x2C10, 0x01, 0x01, .u64, .ro, 0, .num 0, .any⟩,
  ⟨0x2C10, 0x2C10, 0x02, 0x02, .u64, .ro, 0, .num 0, .any⟩,
  ⟨0x2C10, 0x2C10, 0x03, 0x03, .u64, .ro, 0, .num 0, .any⟩,
  ⟨0x2C10, 0x2C10, 0x04, 0x04, .u64, .ro, 0, .num 0, .any⟩,
  ⟨0x2C10, 0x2C10, 0x05, 0x05, .u64, .ro, 0, .num 0, .any⟩,
  ⟨0x2C10, 0x2C10, 0x06, 0x06, .u64, .ro, 0, .num 0, .any⟩,
  ⟨0x2C10, 0x2C10, 0x07, 0x07, .u64, .ro, 0, .num 0, .any⟩,
  ⟨0x2C10, 0x2C10, 0x08, 0x08, .u64, .ro, 0, .num 0, .any⟩,
  ⟨0x2C10, 0x2C10, 0x09, 0x09, .u64, .ro, 0, .num 0, .any⟩,
  ⟨0x2C10, 0x2C10, 0x0A, 0x0A, .u64, .ro, 0, .num 0, .any⟩,
  ⟨0x2C10, 0x2C10, 0x0B, 0x0B, .u64, .ro, 0, .num 0, .any⟩,
  ⟨0x2C10, 0x2C10, 0x0C, 0x0C, .u64, .ro, 0, .num 0, .any⟩,
  ⟨0x2C10, 0x2C10, 0x0D, 0x0D, .u64, .ro, 0, .num 0, .any⟩,
  ⟨0x2C10, 0x2C10, 0x0E, 0x0E, .u64, .ro, 0, .num 0, .any⟩,
  ⟨0x2C10, 0x2C10, 0x0F, 0x0F, .u64, .ro, 0, .num 0, .any⟩]

/-- Objects of chapter 08, part 0. -/
def Catalog.tracks0 : List Row := [
  ⟨0x2D00, 0x2D00, 0x00, 0x00, .u8, .rw, 2, .num 4, .between 1 8⟩,
  ⟨0x2D01, 0x2D01, 0x00, 0x00, .u16, .rw, 2, .num 10, .between 2 60⟩,
  ⟨0x2D02, 0x2D02, 0x00, 0x00, .u16, .rw, 2, .num 300, .between 50 2000⟩,
  ⟨0x2D03, 0x2D03, 0x00, 0x00, .u8, .rw, 2, .num 30, .between 10 100⟩,
  ⟨0x2D04, 0x2D04, 0x00, 0x00, .u16, .rw, 2, .num 2000, .between 200 10000⟩,
  ⟨0x2D05, 0x2D05, 0x00, 0x00, .u8, .rw, 2, .num 64, .between 8 128⟩,
  ⟨0x2D06, 0x2D06, 0x00, 0x00, .u32, .rw, 2, .num 3600, .between 1 86400⟩,
  ⟨0x2D10, 0x2D10, 0x00, 0x00, .u8, .ro, 0, .num 128, .any⟩,
  ⟨0x2D10, 0x2D10, 0x01, 0x80, .u16, .rw, 2, .num 3000, .between 200 20000⟩,
  ⟨0x2D20, 0x2D27, 0x00, 0x00, .u8, .ro, 0, .num 7, .any⟩,
  ⟨0x2D20, 0x2D27, 0x01, 0x04, .i32, .rw, 2, .num 0, .any⟩,
  ⟨0x2D20, 0x2D27, 0x05, 0x05, .u8, .rw, 2, .num 0, .between 0 3⟩,
  ⟨0x2D20, 0x2D27, 0x06, 0x06, .u16, .rw, 2, .num 2000, .between 100 60000⟩,
  ⟨0x2D20, 0x2D27, 0x07, 0x07, .u8, .ro, 0, .num 0, .any⟩,
  ⟨0x2D30, 0x2D30, 0x00, 0x00, .oct 24 24, .cmd, 1, .oct (zeros 24), .any⟩,
  ⟨0x2D31, 0x2D31, 0x00, 0x00, .u8, .ro, 0, .num 3, .any⟩,
  ⟨0x2D31, 0x2D31, 0x01, 0x01, .u32, .ro, 0, .num 0, .any⟩,
  ⟨0x2D31, 0x2D31, 0x02, 0x02, .u8, .ro, 0, .num 0, .any⟩,
  ⟨0x2D31, 0x2D31, 0x03, 0x03, .u16, .ro, 0, .num 0, .any⟩,
  ⟨0x2D32, 0x2D32, 0x00, 0x00, .u16, .ro, 0, .num 0, .any⟩,
  ⟨0x2D33, 0x2D33, 0x00, 0x00, .u16, .ro, 0, .num 0, .any⟩,
  ⟨0x2D40, 0x2D40, 0x00, 0x00, .u8, .ro, 0, .num 14, .any⟩,
  ⟨0x2D40, 0x2D40, 0x01, 0x01, .u64, .ro, 0, .num 0, .any⟩,
  ⟨0x2D40, 0x2D40, 0x02, 0x02, .u64, .ro, 0, .num 0, .any⟩]

/-- Objects of chapter 08, part 1. -/
def Catalog.tracks1 : List Row := [
  ⟨0x2D40, 0x2D40, 0x03, 0x03, .u64, .ro, 0, .num 0, .any⟩,
  ⟨0x2D40, 0x2D40, 0x04, 0x04, .u64, .ro, 0, .num 0, .any⟩,
  ⟨0x2D40, 0x2D40, 0x05, 0x05, .u64, .ro, 0, .num 0, .any⟩,
  ⟨0x2D40, 0x2D40, 0x06, 0x06, .u64, .ro, 0, .num 0, .any⟩,
  ⟨0x2D40, 0x2D40, 0x07, 0x07, .u64, .ro, 0, .num 0, .any⟩,
  ⟨0x2D40, 0x2D40, 0x08, 0x08, .u64, .ro, 0, .num 0, .any⟩,
  ⟨0x2D40, 0x2D40, 0x09, 0x09, .u64, .ro, 0, .num 0, .any⟩,
  ⟨0x2D40, 0x2D40, 0x0A, 0x0A, .u64, .ro, 0, .num 0, .any⟩,
  ⟨0x2D40, 0x2D40, 0x0B, 0x0B, .u64, .ro, 0, .num 0, .any⟩,
  ⟨0x2D40, 0x2D40, 0x0C, 0x0C, .u64, .ro, 0, .num 0, .any⟩,
  ⟨0x2D40, 0x2D40, 0x0D, 0x0D, .u64, .ro, 0, .num 0, .any⟩,
  ⟨0x2D40, 0x2D40, 0x0E, 0x0E, .u64, .ro, 0, .num 0, .any⟩,
  ⟨0x4000, 0x4000, 0x00, 0x00, .u16, .rw, 0, .num 0, .between 0 2047⟩,
  ⟨0x4001, 0x4001, 0x00, 0x00, .oct 16 16, .rw, 2, .oct (zeros 16), .any⟩,
  ⟨0x4100, 0x4100, 0x00, 0x00, .u16, .rw, 0, .num 0, .between 0 4095⟩,
  ⟨0x4101, 0x4101, 0x00, 0x00, .oct 32 32, .rw, 2, .oct (zeros 32), .any⟩,
  ⟨0x4200, 0x4200, 0x00, 0x00, .u16, .rw, 0, .num 0, .multiples 0 16320 64⟩,
  ⟨0x4201, 0x4201, 0x00, 0x00, .u8, .ro, 0, .num 64, .any⟩,
  ⟨0x4201, 0x4201, 0x01, 0x40, .oct 16 16, .ro, 0, .oct (zeros 16), .any⟩]

/-- Objects of chapter 09, part 0. -/
def Catalog.tasks0 : List Row := [
  ⟨0x2E00, 0x2E00, 0x00, 0x00, .u8, .rw, 2, .num 32, .between 1 128⟩,
  ⟨0x2E01, 0x2E01, 0x00, 0x00, .u16, .rw, 2, .num 5, .between 1 60⟩,
  ⟨0x2E02, 0x2E02, 0x00, 0x00, .u8, .rw, 2, .num 3, .between 0 15⟩,
  ⟨0x2E03, 0x2E03, 0x00, 0x00, .u16, .rw, 2, .num 10, .between 2 300⟩,
  ⟨0x2E04, 0x2E04, 0x00, 0x00, .u16, .rw, 2, .num 600, .between 10 65535⟩,
  ⟨0x2E05, 0x2E05, 0x00, 0x00, .u16, .rw, 2, .num 200, .between 0 900⟩,
  ⟨0x2E06, 0x2E06, 0x00, 0x00, .u16, .rw, 2, .num 20, .between 0 1000⟩,
  ⟨0x2E07, 0x2E07, 0x00, 0x00, .u8, .rw, 2, .num 4, .between 0 64⟩,
  ⟨0x2E08, 0x2E08, 0x00, 0x00, .u16, .rw, 2, .num 60, .between 0 3600⟩,
  ⟨0x2E10, 0x2E11, 0x00, 0x00, .u8, .ro, 0, .num 128, .any⟩,
  ⟨0x2E10, 0x2E10, 0x01, 0x80, .u8, .rw, 2, .num 0, .between 0 15⟩,
  ⟨0x2E11, 0x2E11, 0x01, 0x80, .u16, .ro, 0, .num 10, .any⟩,
  ⟨0x2E12, 0x2E12, 0x00, 0x00, .u16, .rw, 2, .num 10, .between 1 1000⟩,
  ⟨0x2E13, 0x2E13, 0x00, 0x00, .u8, .ro, 0, .num 128, .any⟩,
  ⟨0x2E13, 0x2E13, 0x01, 0x80, .u16, .ro, 0, .num 65535, .any⟩,
  ⟨0x2E21, 0x2E21, 0x00, 0x00, .u16, .rw, 0, .num 0, .between 0 4095⟩,
  ⟨0x2E22, 0x2E22, 0x00, 0x00, .u32, .ro, 0, .num 0, .any⟩,
  ⟨0x2E30, 0x2E30, 0x00, 0x00, .oct 8 8, .cmd, 1, .oct (zeros 8), .any⟩,
  ⟨0x2E31, 0x2E31, 0x00, 0x00, .u8, .ro, 0, .num 3, .any⟩,
  ⟨0x2E31, 0x2E31, 0x01, 0x01, .u32, .ro, 0, .num 0, .any⟩,
  ⟨0x2E31, 0x2E31, 0x02, 0x02, .u8, .ro, 0, .num 0, .any⟩,
  ⟨0x2E31, 0x2E31, 0x03, 0x03, .u16, .ro, 0, .num 0, .any⟩,
  ⟨0x2E32, 0x2E32, 0x00, 0x00, .u16, .ro, 0, .num 0, .any⟩,
  ⟨0x2E40, 0x2E40, 0x00, 0x00, .u8, .ro, 0, .num 12, .any⟩]

/-- Objects of chapter 09, part 1. -/
def Catalog.tasks1 : List Row := [
  ⟨0x2E40, 0x2E40, 0x01, 0x01, .u64, .ro, 0, .num 0, .any⟩,
  ⟨0x2E40, 0x2E40, 0x02, 0x02, .u64, .ro, 0, .num 0, .any⟩,
  ⟨0x2E40, 0x2E40, 0x03, 0x03, .u64, .ro, 0, .num 0, .any⟩,
  ⟨0x2E40, 0x2E40, 0x04, 0x04, .u64, .ro, 0, .num 0, .any⟩,
  ⟨0x2E40, 0x2E40, 0x05, 0x05, .u64, .ro, 0, .num 0, .any⟩,
  ⟨0x2E40, 0x2E40, 0x06, 0x06, .u64, .ro, 0, .num 0, .any⟩,
  ⟨0x2E40, 0x2E40, 0x07, 0x07, .u64, .ro, 0, .num 0, .any⟩,
  ⟨0x2E40, 0x2E40, 0x08, 0x08, .u64, .ro, 0, .num 0, .any⟩,
  ⟨0x2E40, 0x2E40, 0x09, 0x09, .u64, .ro, 0, .num 0, .any⟩,
  ⟨0x2E40, 0x2E40, 0x0A, 0x0A, .u64, .ro, 0, .num 0, .any⟩,
  ⟨0x2E40, 0x2E40, 0x0B, 0x0B, .u64, .ro, 0, .num 0, .any⟩,
  ⟨0x2E40, 0x2E40, 0x0C, 0x0C, .u64, .ro, 0, .num 0, .any⟩,
  ⟨0x4300, 0x4300, 0x00, 0x00, .u16, .rw, 0, .num 0, .between 0 1023⟩,
  ⟨0x4301, 0x4301, 0x00, 0x00, .oct 32 32, .rw, 1, .oct (zeros 32), .any⟩]

/-- Objects of chapter 10, part 0. -/
def Catalog.scheduler0 : List Row := [
  ⟨0x2F00, 0x2F00, 0x00, 0x00, .u8, .ro, 0, .num 8, .any⟩,
  ⟨0x2F00, 0x2F00, 0x01, 0x08, .u16, .ro, 0, .num 0, .any⟩,
  ⟨0x2F01, 0x2F01, 0x00, 0x00, .u16, .ro, 0, .num 0, .any⟩,
  ⟨0x2F02, 0x2F02, 0x00, 0x00, .u16, .ro, 0, .num 0, .any⟩,
  ⟨0x2F03, 0x2F03, 0x00, 0x00, .bool, .cmd, 1, .num 0, .oneOf [1]⟩,
  ⟨0x2F04, 0x2F04, 0x00, 0x00, .u8, .ro, 0, .num 16, .any⟩,
  ⟨0x2F04, 0x2F04, 0x01, 0x10, .u8, .ro, 0, .num 0, .any⟩,
  ⟨0x2F20, 0x2F20, 0x00, 0x00, .u16, .rw, 2, .num 65535, .between 0 65535⟩,
  ⟨0x2F30, 0x2F30, 0x00, 0x00, .u64, .ro, 0, .num 0, .any⟩,
  ⟨0x2F31, 0x2F31, 0x00, 0x00, .u64, .rw, 0, .num 0, .any⟩,
  ⟨0x2F32, 0x2F32, 0x00, 0x00, .oct 256 256, .ro, 0, .oct (zeros 256), .any⟩,
  ⟨0x2F35, 0x2F35, 0x00, 0x00, .u8, .ro, 0, .num 2, .any⟩,
  ⟨0x2F35, 0x2F35, 0x01, 0x02, .oct 6 6, .rw, 2, .oct (zeros 6), .any⟩,
  ⟨0x2F40, 0x2F40, 0x00, 0x00, .u8, .ro, 0, .num 10, .any⟩,
  ⟨0x2F40, 0x2F40, 0x01, 0x01, .u64, .ro, 0, .num 0, .any⟩,
  ⟨0x2F40, 0x2F40, 0x02, 0x02, .u64, .ro, 0, .num 0, .any⟩,
  ⟨0x2F40, 0x2F40, 0x03, 0x03, .u64, .ro, 0, .num 0, .any⟩,
  ⟨0x2F40, 0x2F40, 0x04, 0x04, .u64, .ro, 0, .num 0, .any⟩,
  ⟨0x2F40, 0x2F40, 0x05, 0x05, .u64, .ro, 0, .num 0, .any⟩,
  ⟨0x2F40, 0x2F40, 0x06, 0x06, .u64, .ro, 0, .num 0, .any⟩,
  ⟨0x2F40, 0x2F40, 0x07, 0x07, .u64, .ro, 0, .num 0, .any⟩,
  ⟨0x2F40, 0x2F40, 0x08, 0x08, .u64, .ro, 0, .num 0, .any⟩,
  ⟨0x2F40, 0x2F40, 0x09, 0x09, .u64, .ro, 0, .num 0, .any⟩,
  ⟨0x2F40, 0x2F40, 0x0A, 0x0A, .u64, .ro, 0, .num 0, .any⟩]

/-- Objects of chapter 11, part 0. -/
def Catalog.air0 : List Row := [
  ⟨0x3000, 0x3000, 0x00, 0x00, .u8, .rw, 2, .num 0, .between 0 255⟩,
  ⟨0x3001, 0x3001, 0x00, 0x00, .u16, .rw, 2, .num 1, .between 1 65534⟩,
  ⟨0x3002, 0x3002, 0x00, 0x00, .u8, .wl, 3, .num 0, .between 0 4⟩,
  ⟨0x3003, 0x3003, 0x00, 0x00, .u8, .rw, 2, .num 4, .oneOf [0x01, 0x02, 0x03, 0x04, 0x05, 0x11, 0x12, 0x13, 0x14, 0x21, 0x22]⟩,
  ⟨0x3004, 0x3007, 0x00, 0x00, .u8, .ro, 0, .num 8, .any⟩,
  ⟨0x3004, 0x3004, 0x01, 0x01, .u8, .rw, 2, .num 0, .between 0 63⟩,
  ⟨0x3004, 0x3004, 0x02, 0x02, .u8, .rw, 2, .num 1, .between 0 63⟩,
  ⟨0x3004, 0x3004, 0x03, 0x03, .u8, .rw, 2, .num 2, .between 0 63⟩,
  ⟨0x3004, 0x3004, 0x04, 0x04, .u8, .rw, 2, .num 3, .between 0 63⟩,
  ⟨0x3004, 0x3004, 0x05, 0x05, .u8, .rw, 2, .num 4, .between 0 63⟩,
  ⟨0x3004, 0x3004, 0x06, 0x06, .u8, .rw, 2, .num 5, .between 0 63⟩,
  ⟨0x3004, 0x3004, 0x07, 0x07, .u8, .rw, 2, .num 6, .between 0 63⟩,
  ⟨0x3004, 0x3004, 0x08, 0x08, .u8, .rw, 2, .num 7, .between 0 63⟩,
  ⟨0x3005, 0x3005, 0x01, 0x08, .u8, .rw, 2, .num 14, .between 0 30⟩,
  ⟨0x3006, 0x3006, 0x01, 0x08, .u16, .rw, 2, .num 100, .between 0 200⟩,
  ⟨0x3007, 0x3007, 0x01, 0x08, .u16, .rw, 2, .num 720, .between 0 2000⟩,
  ⟨0x3008, 0x3008, 0x00, 0x00, .u8, .rw, 2, .num 100, .between 1 200⟩,
  ⟨0x3009, 0x3009, 0x00, 0x00, .u8, .rw, 2, .num 30, .between 2 255⟩,
  ⟨0x300A, 0x300A, 0x00, 0x00, .u8, .ro, 0, .num 3, .any⟩,
  ⟨0x300A, 0x300A, 0x01, 0x01, .u16, .rw, 2, .num 256, .between 64 4096⟩,
  ⟨0x300A, 0x300A, 0x02, 0x02, .u8, .rw, 2, .num 40, .between 10 90⟩,
  ⟨0x300A, 0x300A, 0x03, 0x03, .u16, .rw, 2, .num 3600, .between 60 65535⟩,
  ⟨0x300B, 0x300B, 0x00, 0x00, .u8, .ro, 0, .num 4, .any⟩,
  ⟨0x300B, 0x300B, 0x01, 0x04, .u8, .ro, 0, .num 0, .any⟩]

/-- Objects of chapter 11, part 1. -/
def Catalog.air1 : List Row := [
  ⟨0x300C, 0x300C, 0x00, 0x00, .oct 16 16, .ro, 0, .oct (zeros 16), .any⟩,
  ⟨0x3010, 0x3017, 0x00, 0x00, .u8, .ro, 0, .num 25, .any⟩,
  ⟨0x3010, 0x3017, 0x01, 0x01, .u8, .rw, 2, .num 1, .between 0 6⟩,
  ⟨0x3010, 0x3017, 0x02, 0x02, .u8, .rw, 2, .num 2, .between 0 6⟩,
  ⟨0x3010, 0x3017, 0x03, 0x03, .u8, .rw, 2, .num 3, .between 0 6⟩,
  ⟨0x3010, 0x3017, 0x04, 0x04, .u8, .rw, 2, .num 3, .between 0 6⟩,
  ⟨0x3010, 0x3017, 0x05, 0x05, .u8, .rw, 2, .num 3, .between 0 6⟩,
  ⟨0x3010, 0x3017, 0x06, 0x06, .u8, .rw, 2, .num 3, .between 0 6⟩,
  ⟨0x3010, 0x3017, 0x07, 0x07, .u8, .rw, 2, .num 5, .between 0 6⟩,
  ⟨0x3010, 0x3017, 0x08, 0x08, .u8, .rw, 2, .num 3, .between 0 6⟩,
  ⟨0x3010, 0x3017, 0x09, 0x09, .u8, .rw, 2, .num 3, .between 0 6⟩,
  ⟨0x3010, 0x3017, 0x0A, 0x0A, .u8, .rw, 2, .num 4, .between 0 6⟩,
  ⟨0x3010, 0x3017, 0x0B, 0x0B, .u8, .rw, 2, .num 3, .between 0 6⟩,
  ⟨0x3010, 0x3017, 0x0C, 0x0C, .u8, .rw, 2, .num 3, .between 0 6⟩,
  ⟨0x3010, 0x3017, 0x0D, 0x0D, .u8, .rw, 2, .num 6, .between 0 6⟩,
  ⟨0x3010, 0x3017, 0x0E, 0x0E, .u8, .rw, 2, .num 3, .between 0 6⟩,
  ⟨0x3010, 0x3017, 0x0F, 0x0F, .u8, .rw, 2, .num 3, .between 0 6⟩,
  ⟨0x3010, 0x3017, 0x10, 0x10, .u8, .rw, 2, .num 4, .between 0 6⟩,
  ⟨0x3010, 0x3017, 0x11, 0x11, .u8, .rw, 2, .num 3, .between 0 6⟩,
  ⟨0x3010, 0x3017, 0x12, 0x12, .u8, .rw, 2, .num 3, .between 0 6⟩,
  ⟨0x3010, 0x3017, 0x13, 0x13, .u8, .rw, 2, .num 3, .between 0 6⟩,
  ⟨0x3010, 0x3017, 0x14, 0x14, .u8, .rw, 2, .num 3, .between 0 6⟩,
  ⟨0x3010, 0x3017, 0x15, 0x15, .u8, .rw, 2, .num 4, .between 0 6⟩,
  ⟨0x3010, 0x3017, 0x16, 0x16, .u8, .rw, 2, .num 3, .between 0 6⟩]

/-- Objects of chapter 11, part 2. -/
def Catalog.air2 : List Row := [
  ⟨0x3010, 0x3017, 0x17, 0x17, .u8, .rw, 2, .num 3, .between 0 6⟩,
  ⟨0x3010, 0x3017, 0x18, 0x18, .u8, .rw, 2, .num 4, .between 0 6⟩,
  ⟨0x3010, 0x3017, 0x19, 0x19, .u8, .rw, 2, .num 4, .between 0 6⟩,
  ⟨0x3020, 0x3023, 0x00, 0x00, .u8, .ro, 0, .num 128, .any⟩,
  ⟨0x3020, 0x3020, 0x01, 0x80, .u64, .rw, 2, .num 0, .any⟩,
  ⟨0x3021, 0x3021, 0x01, 0x80, .u16, .rw, 2, .num 0, .any⟩,
  ⟨0x3022, 0x3022, 0x01, 0x80, .u8, .ro, 0, .num 0, .any⟩,
  ⟨0x3023, 0x3023, 0x01, 0x80, .u16, .ro, 0, .num 0, .any⟩,
  ⟨0x3024, 0x3024, 0x00, 0x00, .u8, .rw, 0, .num 1, .between 1 128⟩,
  ⟨0x3025, 0x3025, 0x00, 0x00, .u8, .ro, 0, .num 6, .any⟩,
  ⟨0x3025, 0x3025, 0x01, 0x01, .ft, .ro, 0, .num 0, .any⟩,
  ⟨0x3025, 0x3025, 0x02, 0x02, .u16, .ro, 0, .num 100, .any⟩,
  ⟨0x3025, 0x3025, 0x03, 0x03, .i32, .ro, 0, .num 0, .any⟩,
  ⟨0x3025, 0x3025, 0x04, 0x04, .u8, .ro, 0, .num 0, .any⟩,
  ⟨0x3025, 0x3025, 0x05, 0x05, .u16, .ro, 0, .num 256, .any⟩,
  ⟨0x3025, 0x3025, 0x06, 0x06, .u16, .ro, 0, .num 0, .any⟩,
  ⟨0x3030, 0x3030, 0x00, 0x00, .u8, .ro, 0, .num 19, .any⟩,
  ⟨0x3030, 0x3030, 0x01, 0x01, .u64, .ro, 0, .num 0, .any⟩,
  ⟨0x3030, 0x3030, 0x02, 0x02, .u64, .ro, 0, .num 0, .any⟩,
  ⟨0x3030, 0x3030, 0x03, 0x03, .u64, .ro, 0, .num 0, .any⟩,
  ⟨0x3030, 0x3030, 0x04, 0x04, .u64, .ro, 0, .num 0, .any⟩,
  ⟨0x3030, 0x3030, 0x05, 0x05, .u64, .ro, 0, .num 0, .any⟩,
  ⟨0x3030, 0x3030, 0x06, 0x06, .u64, .ro, 0, .num 0, .any⟩,
  ⟨0x3030, 0x3030, 0x07, 0x07, .u64, .ro, 0, .num 0, .any⟩]

/-- Objects of chapter 11, part 3. -/
def Catalog.air3 : List Row := [
  ⟨0x3030, 0x3030, 0x08, 0x08, .u64, .ro, 0, .num 0, .any⟩,
  ⟨0x3030, 0x3030, 0x09, 0x09, .u64, .ro, 0, .num 0, .any⟩,
  ⟨0x3030, 0x3030, 0x0A, 0x0A, .u64, .ro, 0, .num 0, .any⟩,
  ⟨0x3030, 0x3030, 0x0B, 0x0B, .u64, .ro, 0, .num 0, .any⟩,
  ⟨0x3030, 0x3030, 0x0C, 0x0C, .u64, .ro, 0, .num 0, .any⟩,
  ⟨0x3030, 0x3030, 0x0D, 0x0D, .u64, .ro, 0, .num 0, .any⟩,
  ⟨0x3030, 0x3030, 0x0E, 0x0E, .u64, .ro, 0, .num 0, .any⟩,
  ⟨0x3030, 0x3030, 0x0F, 0x0F, .u64, .ro, 0, .num 0, .any⟩,
  ⟨0x3030, 0x3030, 0x10, 0x10, .u64, .ro, 0, .num 0, .any⟩,
  ⟨0x3030, 0x3030, 0x11, 0x11, .u64, .ro, 0, .num 0, .any⟩,
  ⟨0x3030, 0x3030, 0x12, 0x12, .u64, .ro, 0, .num 0, .any⟩,
  ⟨0x3030, 0x3030, 0x13, 0x13, .u64, .ro, 0, .num 0, .any⟩]

/-- Objects of chapter 12, part 0. -/
def Catalog.stop0 : List Row := [
  ⟨0x3400, 0x3400, 0x00, 0x00, .u16, .ro, 0, .num 288, .any⟩,
  ⟨0x3401, 0x3401, 0x00, 0x00, .u16, .rw, 2, .num 200, .between 20 1000⟩,
  ⟨0x3402, 0x3402, 0x00, 0x00, .u16, .rw, 2, .num 1000, .between 500 60000⟩,
  ⟨0x3403, 0x3403, 0x00, 0x00, .u8, .ro, 0, .num 0, .any⟩,
  ⟨0x3404, 0x3404, 0x00, 0x00, .ft, .ro, 0, .num 0, .any⟩,
  ⟨0x3410, 0x3410, 0x00, 0x00, .oct 32 32, .cmd, 1, .oct (zeros 32), .any⟩,
  ⟨0x3420, 0x3421, 0x00, 0x00, .u8, .ro, 0, .num 4, .any⟩,
  ⟨0x3420, 0x3420, 0x01, 0x04, .oct 16 16, .wo, 3, .oct (zeros 16), .any⟩,
  ⟨0x3421, 0x3421, 0x01, 0x04, .u32, .ro, 0, .num 0, .any⟩,
  ⟨0x3430, 0x3430, 0x00, 0x00, .u8, .ro, 0, .num 9, .any⟩,
  ⟨0x3430, 0x3430, 0x01, 0x01, .u64, .ro, 0, .num 0, .any⟩,
  ⟨0x3430, 0x3430, 0x02, 0x02, .u64, .ro, 0, .num 0, .any⟩,
  ⟨0x3430, 0x3430, 0x03, 0x03, .u64, .ro, 0, .num 0, .any⟩,
  ⟨0x3430, 0x3430, 0x04, 0x04, .u64, .ro, 0, .num 0, .any⟩,
  ⟨0x3430, 0x3430, 0x05, 0x05, .u64, .ro, 0, .num 0, .any⟩,
  ⟨0x3430, 0x3430, 0x06, 0x06, .u64, .ro, 0, .num 0, .any⟩,
  ⟨0x3430, 0x3430, 0x07, 0x07, .u64, .ro, 0, .num 0, .any⟩,
  ⟨0x3430, 0x3430, 0x08, 0x08, .u64, .ro, 0, .num 0, .any⟩,
  ⟨0x3430, 0x3430, 0x09, 0x09, .u64, .ro, 0, .num 0, .any⟩]

/-- Objects of chapter 13, part 0. -/
def Catalog.net0 : List Row := [
  ⟨0x3600, 0x3600, 0x00, 0x00, .u8, .rw, 2, .num 1, .between 0 15⟩,
  ⟨0x3601, 0x360A, 0x00, 0x00, .u8, .ro, 0, .num 4, .any⟩,
  ⟨0x3601, 0x3601, 0x01, 0x04, .u8, .ro, 0, .num 0, .any⟩,
  ⟨0x3602, 0x3602, 0x01, 0x04, .u16, .rw, 2, .num 1522, .between 1522 9022⟩,
  ⟨0x3603, 0x3603, 0x01, 0x04, .oct 6 6, .ro, 0, .oct (zeros 6), .any⟩,
  ⟨0x3604, 0x3604, 0x01, 0x04, .oct 4 4, .rw, 2, .oct (zeros 4), .any⟩,
  ⟨0x3605, 0x3605, 0x01, 0x04, .u8, .rw, 2, .num 24, .between 8 30⟩,
  ⟨0x3606, 0x3606, 0x01, 0x04, .oct 4 4, .rw, 2, .oct (zeros 4), .any⟩,
  ⟨0x3607, 0x3607, 0x01, 0x04, .oct 4 4, .rw, 2, .oct (zeros 4), .any⟩,
  ⟨0x3608, 0x3608, 0x01, 0x04, .oct 6 6, .rw, 2, .oct (zeros 6), .any⟩,
  ⟨0x3609, 0x3609, 0x01, 0x04, .u16, .rw, 2, .num 0, .between 0 4094⟩,
  ⟨0x360A, 0x360A, 0x01, 0x04, .u8, .rw, 2, .num 6, .between 0 119⟩,
  ⟨0x360B, 0x360B, 0x00, 0x00, .bool, .rw, 2, .num 1, .between 0 1⟩,
  ⟨0x360C, 0x360D, 0x00, 0x00, .u8, .ro, 0, .num 2, .any⟩,
  ⟨0x360C, 0x360C, 0x01, 0x02, .u8, .rw, 2, .num 3, .between 0 3⟩,
  ⟨0x360D, 0x360D, 0x01, 0x01, .u8, .rw, 2, .num 2, .between 0 31⟩,
  ⟨0x360D, 0x360D, 0x02, 0x02, .u8, .rw, 2, .num 3, .between 0 31⟩,
  ⟨0x3610, 0x3613, 0x00, 0x00, .u8, .ro, 0, .num 64, .any⟩,
  ⟨0x3610, 0x3613, 0x01, 0x01, .u64, .rw, 2, .num 0x9000FF38000088F7, .any⟩,
  ⟨0x3610, 0x3613, 0x02, 0x02, .u64, .rw, 2, .num 0x9000FF2800000806, .any⟩,
  ⟨0x3610, 0x3613, 0x03, 0x03, .u64, .rw, 2, .num 0x9000C0B000000000, .any⟩,
  ⟨0x3610, 0x3613, 0x04, 0x40, .u64, .rw, 2, .num 0, .any⟩,
  ⟨0x3614, 0x3617, 0x00, 0x00, .u8, .ro, 0, .num 8, .any⟩,
  ⟨0x3614, 0x3617, 0x01, 0x08, .u8, .rw, 2, .num 2, .between 0 16⟩]

/-- Objects of chapter 13, part 1. -/
def Catalog.net1 : List Row := [
  ⟨0x3640, 0x3643, 0x00, 0x00, .u8, .ro, 0, .num 17, .any⟩,
  ⟨0x3640, 0x3643, 0x01, 0x01, .u64, .ro, 0, .num 0, .any⟩,
  ⟨0x3640, 0x3643, 0x02, 0x02, .u64, .ro, 0, .num 0, .any⟩,
  ⟨0x3640, 0x3643, 0x03, 0x0A, .u64, .ro, 0, .num 0, .any⟩,
  ⟨0x3640, 0x3643, 0x0B, 0x0B, .u64, .ro, 0, .num 0, .any⟩,
  ⟨0x3640, 0x3643, 0x0C, 0x0C, .u64, .ro, 0, .num 0, .any⟩,
  ⟨0x3640, 0x3643, 0x0D, 0x0D, .u64, .ro, 0, .num 0, .any⟩,
  ⟨0x3640, 0x3643, 0x0E, 0x0E, .u64, .ro, 0, .num 0, .any⟩,
  ⟨0x3640, 0x3643, 0x0F, 0x0F, .u64, .ro, 0, .num 0, .any⟩,
  ⟨0x3640, 0x3643, 0x10, 0x10, .u64, .ro, 0, .num 0, .any⟩,
  ⟨0x3640, 0x3643, 0x11, 0x11, .u64, .ro, 0, .num 0, .any⟩,
  ⟨0x3660, 0x3660, 0x00, 0x00, .u8, .rw, 2, .num 1, .between 0 3⟩,
  ⟨0x3661, 0x3666, 0x00, 0x00, .u8, .ro, 0, .num 2, .any⟩,
  ⟨0x3661, 0x3661, 0x01, 0x02, .u8, .rw, 2, .num 1, .between 1 127⟩,
  ⟨0x3662, 0x3662, 0x01, 0x02, .u8, .rw, 2, .num 2, .between 0 3⟩,
  ⟨0x3663, 0x3663, 0x01, 0x02, .u8, .rw, 2, .num 1, .between 0 4⟩,
  ⟨0x3664, 0x3664, 0x01, 0x02, .u16, .rw, 2, .num 1000, .multiples 0 10000 10⟩,
  ⟨0x3665, 0x3665, 0x01, 0x02, .u8, .ro, 0, .num 0, .any⟩,
  ⟨0x3666, 0x3666, 0x01, 0x02, .u16, .ro, 0, .num 0, .any⟩,
  ⟨0x3670, 0x3671, 0x00, 0x00, .u8, .ro, 0, .num 7, .any⟩,
  ⟨0x3670, 0x3671, 0x01, 0x01, .u64, .ro, 0, .num 0, .any⟩,
  ⟨0x3670, 0x3671, 0x02, 0x02, .u64, .ro, 0, .num 0, .any⟩,
  ⟨0x3670, 0x3671, 0x03, 0x03, .u64, .ro, 0, .num 0, .any⟩,
  ⟨0x3670, 0x3671, 0x04, 0x04, .u64, .ro, 0, .num 0, .any⟩]

/-- Objects of chapter 13, part 2. -/
def Catalog.net2 : List Row := [
  ⟨0x3670, 0x3671, 0x05, 0x05, .u64, .ro, 0, .num 0, .any⟩,
  ⟨0x3670, 0x3671, 0x06, 0x06, .u64, .ro, 0, .num 0, .any⟩,
  ⟨0x3670, 0x3671, 0x07, 0x07, .u64, .ro, 0, .num 0, .any⟩]

/-- Objects of chapter 14, part 0. -/
def Catalog.ptp0 : List Row := [
  ⟨0x2040, 0x2041, 0x00, 0x00, .u8, .ro, 0, .num 12, .any⟩,
  ⟨0x2040, 0x2040, 0x01, 0x01, .u8, .rw, 2, .num 0, .between 0 127⟩,
  ⟨0x2040, 0x2040, 0x02, 0x02, .u8, .rw, 2, .num 1, .between 0 15⟩,
  ⟨0x2040, 0x2040, 0x03, 0x03, .u8, .rw, 2, .num 0, .between 0 1⟩,
  ⟨0x2040, 0x2040, 0x04, 0x04, .u8, .rw, 2, .num 0, .between 0 1⟩,
  ⟨0x2040, 0x2040, 0x05, 0x05, .u8, .rw, 2, .num 0, .between 0 1⟩,
  ⟨0x2040, 0x2040, 0x06, 0x06, .bool, .rw, 2, .num 0, .between 0 1⟩,
  ⟨0x2040, 0x2040, 0x07, 0x07, .i32, .rw, 2, .num (-3), .between (-4) 1⟩,
  ⟨0x2040, 0x2040, 0x08, 0x08, .i32, .rw, 2, .num 1, .between (-3) 3⟩,
  ⟨0x2040, 0x2040, 0x09, 0x09, .i32, .rw, 2, .num (-3), .between (-4) 5⟩,
  ⟨0x2040, 0x2040, 0x0A, 0x0A, .u8, .rw, 2, .num 3, .between 2 10⟩,
  ⟨0x2040, 0x2040, 0x0B, 0x0B, .u8, .rw, 2, .num 128, .between 0 255⟩,
  ⟨0x2040, 0x2040, 0x0C, 0x0C, .u8, .rw, 2, .num 128, .between 0 255⟩,
  ⟨0x2041, 0x2041, 0x01, 0x01, .u8, .rw, 2, .num 1, .between 0 127⟩,
  ⟨0x2041, 0x2041, 0x02, 0x02, .u8, .rw, 2, .num 0, .between 0 15⟩,
  ⟨0x2041, 0x2041, 0x03, 0x03, .u8, .rw, 2, .num 0, .between 0 1⟩,
  ⟨0x2041, 0x2041, 0x04, 0x04, .u8, .rw, 2, .num 0, .between 0 1⟩,
  ⟨0x2041, 0x2041, 0x05, 0x05, .u8, .rw, 2, .num 0, .between 0 1⟩,
  ⟨0x2041, 0x2041, 0x06, 0x06, .bool, .rw, 2, .num 0, .between 0 1⟩,
  ⟨0x2041, 0x2041, 0x07, 0x07, .i32, .rw, 2, .num (-3), .between (-4) 1⟩,
  ⟨0x2041, 0x2041, 0x08, 0x08, .i32, .rw, 2, .num 1, .between (-3) 3⟩,
  ⟨0x2041, 0x2041, 0x09, 0x09, .i32, .rw, 2, .num (-3), .between (-4) 5⟩,
  ⟨0x2041, 0x2041, 0x0A, 0x0A, .u8, .rw, 2, .num 3, .between 2 10⟩,
  ⟨0x2041, 0x2041, 0x0B, 0x0B, .u8, .rw, 2, .num 128, .between 0 255⟩]

/-- Objects of chapter 14, part 1. -/
def Catalog.ptp1 : List Row := [
  ⟨0x2041, 0x2041, 0x0C, 0x0C, .u8, .rw, 2, .num 128, .between 0 255⟩,
  ⟨0x2042, 0x2043, 0x00, 0x00, .u8, .ro, 0, .num 6, .any⟩,
  ⟨0x2042, 0x2042, 0x01, 0x01, .u8, .ro, 0, .num 0, .any⟩,
  ⟨0x2042, 0x2042, 0x02, 0x02, .i64, .ro, 0, .num 0, .any⟩,
  ⟨0x2042, 0x2042, 0x03, 0x03, .i64, .ro, 0, .num 0, .any⟩,
  ⟨0x2042, 0x2042, 0x04, 0x04, .u64, .ro, 0, .num 0, .any⟩,
  ⟨0x2042, 0x2042, 0x05, 0x05, .u8, .ro, 0, .num 255, .any⟩,
  ⟨0x2042, 0x2042, 0x06, 0x06, .u8, .ro, 0, .num 255, .any⟩,
  ⟨0x2043, 0x2043, 0x01, 0x01, .u8, .ro, 0, .num 0, .any⟩,
  ⟨0x2043, 0x2043, 0x02, 0x02, .i64, .ro, 0, .num 0, .any⟩,
  ⟨0x2043, 0x2043, 0x03, 0x03, .i64, .ro, 0, .num 0, .any⟩,
  ⟨0x2043, 0x2043, 0x04, 0x04, .u64, .ro, 0, .num 0, .any⟩,
  ⟨0x2043, 0x2043, 0x05, 0x05, .u8, .ro, 0, .num 255, .any⟩,
  ⟨0x2043, 0x2043, 0x06, 0x06, .u8, .ro, 0, .num 255, .any⟩,
  ⟨0x2044, 0x2045, 0x00, 0x00, .u8, .ro, 0, .num 4, .any⟩,
  ⟨0x2044, 0x2044, 0x01, 0x04, .u8, .ro, 0, .num 3, .any⟩,
  ⟨0x2045, 0x2045, 0x01, 0x04, .u8, .ro, 0, .num 3, .any⟩,
  ⟨0x2047, 0x2047, 0x00, 0x00, .u16, .rw, 2, .num 100, .between 10 1000⟩,
  ⟨0x2048, 0x2048, 0x00, 0x00, .u32, .rw, 2, .num 1000, .between 100 1000000⟩,
  ⟨0x2049, 0x2049, 0x00, 0x00, .u8, .rw, 2, .num 4, .between 1 32⟩,
  ⟨0x204A, 0x204A, 0x00, 0x00, .u16, .rw, 2, .num 60, .between 10 3600⟩,
  ⟨0x204B, 0x204B, 0x00, 0x00, .u32, .rw, 2, .num 1000, .between 100 1000000⟩,
  ⟨0x204C, 0x204C, 0x00, 0x00, .u8, .rw, 2, .num 7, .between 6 255⟩,
  ⟨0x204D, 0x204D, 0x00, 0x00, .u16, .rw, 2, .num 37, .between 0 255⟩]

/-- Objects of chapter 14, part 2. -/
def Catalog.ptp2 : List Row := [
  ⟨0x2050, 0x2052, 0x00, 0x00, .u8, .ro, 0, .num 4, .any⟩,
  ⟨0x2050, 0x2050, 0x01, 0x04, .i32, .rw, 2, .num 0, .between (-1000000) 1000000⟩,
  ⟨0x2051, 0x2051, 0x01, 0x04, .i32, .rw, 2, .num 0, .between (-1000000) 1000000⟩,
  ⟨0x2052, 0x2052, 0x01, 0x04, .i64, .rw, 2, .num 0, .between (-4294967296) 4294967296⟩,
  ⟨0x2056, 0x2056, 0x00, 0x00, .u8, .rw, 2, .num 0, .between 0 15⟩,
  ⟨0x2057, 0x2058, 0x00, 0x00, .u8, .ro, 0, .num 4, .any⟩,
  ⟨0x2057, 0x2057, 0x01, 0x04, .u8, .ro, 0, .num 0, .any⟩,
  ⟨0x2058, 0x2058, 0x01, 0x04, .oct 32 32, .ro, 0, .oct (zeros 32), .any⟩,
  ⟨0x2060, 0x2060, 0x00, 0x00, .u8, .ro, 0, .num 10, .any⟩,
  ⟨0x2060, 0x2060, 0x01, 0x01, .u64, .ro, 0, .num 0, .any⟩,
  ⟨0x2060, 0x2060, 0x02, 0x02, .u64, .ro, 0, .num 0, .any⟩,
  ⟨0x2060, 0x2060, 0x03, 0x03, .u64, .ro, 0, .num 0, .any⟩,
  ⟨0x2060, 0x2060, 0x04, 0x04, .u64, .ro, 0, .num 0, .any⟩,
  ⟨0x2060, 0x2060, 0x05, 0x05, .u64, .ro, 0, .num 0, .any⟩,
  ⟨0x2060, 0x2060, 0x06, 0x06, .u64, .ro, 0, .num 0, .any⟩,
  ⟨0x2060, 0x2060, 0x07, 0x07, .u64, .ro, 0, .num 0, .any⟩,
  ⟨0x2060, 0x2060, 0x08, 0x08, .u64, .ro, 0, .num 0, .any⟩,
  ⟨0x2060, 0x2060, 0x09, 0x09, .u64, .ro, 0, .num 0, .any⟩,
  ⟨0x2060, 0x2060, 0x0A, 0x0A, .u64, .ro, 0, .num 0, .any⟩,
  ⟨0x2080, 0x208F, 0x00, 0x00, .u8, .ro, 0, .num 8, .any⟩,
  ⟨0x2080, 0x208F, 0x01, 0x01, .u8, .rw, 2, .num 0, .between 0 5⟩,
  ⟨0x2080, 0x208F, 0x02, 0x02, .bool, .rw, 2, .num 0, .between 0 1⟩,
  ⟨0x2080, 0x208F, 0x03, 0x03, .ft, .rw, 2, .num 0, .any⟩,
  ⟨0x2080, 0x208F, 0x04, 0x04, .u32, .rw, 2, .num 1000000000, .multiples 4 4294967294 2⟩]

/-- Objects of chapter 14, part 3. -/
def Catalog.ptp3 : List Row := [
  ⟨0x2080, 0x208F, 0x05, 0x05, .u32, .rw, 2, .num 1000000, .multiples 2 4294967292 2⟩,
  ⟨0x2080, 0x208F, 0x06, 0x06, .u16, .rw, 2, .num 0, .multiples 0 1000 2⟩,
  ⟨0x2080, 0x208F, 0x07, 0x07, .u32, .rw, 2, .num 0, .between 0 4294967295⟩,
  ⟨0x2080, 0x208F, 0x08, 0x08, .u8, .ro, 0, .num 0, .any⟩,
  ⟨0x2090, 0x2090, 0x00, 0x00, .u8, .ro, 0, .num 16, .any⟩,
  ⟨0x2090, 0x2090, 0x01, 0x10, .oct 24 24, .ro, 0, .oct (zeros 24), .any⟩]

/-- Objects of chapter 15, part 0. -/
def Catalog.axes0 : List Row := [
  ⟨0x3800, 0x3807, 0x00, 0x00, .u8, .ro, 0, .num 28, .any⟩,
  ⟨0x3800, 0x3807, 0x01, 0x01, .u8, .rw, 2, .num 0, .between 0 2⟩,
  ⟨0x3800, 0x3807, 0x02, 0x02, .u8, .rw, 2, .num 0, .between 0 1⟩,
  ⟨0x3800, 0x3807, 0x03, 0x03, .u32, .rw, 2, .num 10000, .between 10 500000⟩,
  ⟨0x3800, 0x3807, 0x04, 0x04, .u32, .rw, 2, .num 25000, .between 100 10000000⟩,
  ⟨0x3800, 0x3807, 0x05, 0x05, .u32, .rw, 2, .num 25000, .between 100 10000000⟩,
  ⟨0x3800, 0x3807, 0x06, 0x06, .u32, .rw, 2, .num 500000, .between 1000 1000000000⟩,
  ⟨0x3800, 0x3807, 0x07, 0x07, .u32, .rw, 2, .num 100000, .between 100 10000000⟩,
  ⟨0x3800, 0x3807, 0x08, 0x08, .u16, .rw, 2, .num 1000, .multiples 100 1000 2⟩,
  ⟨0x3800, 0x3807, 0x09, 0x09, .u16, .rw, 2, .num 5, .between 1 100⟩,
  ⟨0x3800, 0x3807, 0x0A, 0x0A, .u8, .rw, 2, .num 12, .between 0 15⟩,
  ⟨0x3800, 0x3807, 0x0B, 0x0B, .i32, .rw, 2, .num (-2147483648), .between (-2147483648) 2147483647⟩,
  ⟨0x3800, 0x3807, 0x0C, 0x0C, .i32, .rw, 2, .num 2147483647, .between (-2147483648) 2147483647⟩,
  ⟨0x3800, 0x3807, 0x0D, 0x0D, .u8, .rw, 2, .num 0, .between 0 3⟩,
  ⟨0x3800, 0x3807, 0x0E, 0x0E, .u8, .rw, 2, .num 0, .between 0 1⟩,
  ⟨0x3800, 0x3807, 0x0F, 0x0F, .u32, .rw, 2, .num 2000, .between 10 100000⟩,
  ⟨0x3800, 0x3807, 0x10, 0x10, .u32, .rw, 2, .num 200, .between 10 1000⟩,
  ⟨0x3800, 0x3807, 0x11, 0x11, .i32, .rw, 2, .num 0, .between (-2147483648) 2147483647⟩,
  ⟨0x3800, 0x3807, 0x12, 0x12, .u32, .rw, 2, .num 200000, .between 100 2147483647⟩,
  ⟨0x3800, 0x3807, 0x13, 0x13, .u16, .rw, 2, .num 64, .between 4 4096⟩,
  ⟨0x3800, 0x3807, 0x14, 0x14, .u16, .rw, 2, .num 600, .between 0 1023⟩,
  ⟨0x3800, 0x3807, 0x15, 0x15, .u8, .rw, 2, .num 30, .between 0 100⟩,
  ⟨0x3800, 0x3807, 0x16, 0x16, .u16, .rw, 2, .num 500, .between 0 60000⟩,
  ⟨0x3800, 0x3807, 0x17, 0x17, .u16, .rw, 2, .num 900, .between 0 1023⟩]

/-- Objects of chapter 15, part 1. -/
def Catalog.axes1 : List Row := [
  ⟨0x3800, 0x3807, 0x18, 0x18, .u16, .rw, 2, .num 10, .between 1 1023⟩,
  ⟨0x3800, 0x3807, 0x19, 0x19, .u16, .rw, 2, .num 3000, .between 0 4095⟩,
  ⟨0x3800, 0x3807, 0x1A, 0x1A, .u16, .rw, 2, .num 200, .between 0 1000⟩,
  ⟨0x3800, 0x3807, 0x1B, 0x1B, .u16, .rw, 2, .num 50, .between 5 5000⟩,
  ⟨0x3800, 0x3807, 0x1C, 0x1C, .u16, .rw, 2, .num 100, .between 0 10000⟩,
  ⟨0x3810, 0x3817, 0x00, 0x00, .u8, .ro, 0, .num 8, .any⟩,
  ⟨0x3810, 0x3817, 0x01, 0x01, .u8, .ro, 0, .num 0, .any⟩,
  ⟨0x3810, 0x3817, 0x02, 0x02, .i32, .ro, 0, .num 0, .any⟩,
  ⟨0x3810, 0x3817, 0x03, 0x03, .i32, .ro, 0, .num 0, .any⟩,
  ⟨0x3810, 0x3817, 0x04, 0x04, .u16, .ro, 0, .num 0, .any⟩,
  ⟨0x3810, 0x3817, 0x05, 0x05, .u16, .ro, 0, .num 0, .any⟩,
  ⟨0x3810, 0x3817, 0x06, 0x06, .u8, .ro, 0, .num 0, .any⟩,
  ⟨0x3810, 0x3817, 0x07, 0x07, .u8, .ro, 0, .num 0, .any⟩,
  ⟨0x3810, 0x3817, 0x08, 0x08, .i32, .ro, 0, .num 0, .any⟩,
  ⟨0x3820, 0x3827, 0x00, 0x00, .u8, .ro, 0, .num 2, .any⟩,
  ⟨0x3820, 0x3827, 0x01, 0x01, .i32, .cmd, 1, .num 0, .any⟩,
  ⟨0x3820, 0x3827, 0x02, 0x02, .u8, .cmd, 1, .num 0, .between 1 3⟩,
  ⟨0x3840, 0x3847, 0x00, 0x00, .u8, .ro, 0, .num 10, .any⟩,
  ⟨0x3840, 0x3847, 0x01, 0x01, .u64, .ro, 0, .num 0, .any⟩,
  ⟨0x3840, 0x3847, 0x02, 0x02, .u64, .ro, 0, .num 0, .any⟩,
  ⟨0x3840, 0x3847, 0x03, 0x03, .u64, .ro, 0, .num 0, .any⟩,
  ⟨0x3840, 0x3847, 0x04, 0x04, .u64, .ro, 0, .num 0, .any⟩,
  ⟨0x3840, 0x3847, 0x05, 0x05, .u64, .ro, 0, .num 0, .any⟩,
  ⟨0x3840, 0x3847, 0x06, 0x06, .u64, .ro, 0, .num 0, .any⟩]

/-- Objects of chapter 15, part 2. -/
def Catalog.axes2 : List Row := [
  ⟨0x3840, 0x3847, 0x07, 0x07, .u64, .ro, 0, .num 0, .any⟩,
  ⟨0x3840, 0x3847, 0x08, 0x08, .u64, .ro, 0, .num 0, .any⟩,
  ⟨0x3840, 0x3847, 0x09, 0x09, .u64, .ro, 0, .num 0, .any⟩,
  ⟨0x3840, 0x3847, 0x0A, 0x0A, .u64, .ro, 0, .num 0, .any⟩]

/-- Objects of chapter 16, part 0. -/
def Catalog.metering0 : List Row := [
  ⟨0x3A00, 0x3A00, 0x00, 0x00, .u32, .rw, 2, .num 0, .between 0 4294967295⟩,
  ⟨0x3A01, 0x3A01, 0x00, 0x00, .u16, .rw, 2, .num 60, .between 10 3600⟩,
  ⟨0x3A02, 0x3A02, 0x00, 0x00, .u8, .rw, 2, .num 1, .between 0 3⟩,
  ⟨0x3A03, 0x3A03, 0x00, 0x00, .u16, .rw, 2, .num 15, .between 10 30⟩,
  ⟨0x3A04, 0x3A04, 0x00, 0x00, .i32, .rw, 2, .num 0, .between (-86400) 86400⟩,
  ⟨0x3A05, 0x3A05, 0x00, 0x00, .u8, .ro, 0, .num 8, .any⟩,
  ⟨0x3A05, 0x3A05, 0x01, 0x08, .u32, .rw, 2, .num 0, .any⟩,
  ⟨0x3A06, 0x3A06, 0x00, 0x00, .u8, .ro, 0, .num 0, .any⟩,
  ⟨0x3A07, 0x3A07, 0x00, 0x00, .ft, .ro, 0, .num 0, .any⟩,
  ⟨0x3A10, 0x3A2F, 0x00, 0x00, .u8, .ro, 0, .num 12, .any⟩,
  ⟨0x3A10, 0x3A2F, 0x01, 0x01, .u16, .rw, 2, .num 5000, .between 10 60000⟩,
  ⟨0x3A10, 0x3A2F, 0x02, 0x02, .bool, .rw, 2, .num 0, .between 0 1⟩,
  ⟨0x3A10, 0x3A2F, 0x03, 0x03, .u16, .rw, 2, .num 20, .between 1 1000⟩,
  ⟨0x3A10, 0x3A2F, 0x04, 0x04, .u32, .rw, 2, .num 1, .between 1 4294967295⟩,
  ⟨0x3A10, 0x3A2F, 0x05, 0x05, .u32, .rw, 2, .num 1, .between 1 4294967295⟩,
  ⟨0x3A10, 0x3A2F, 0x06, 0x06, .u8, .rw, 2, .num 1, .between 1 16⟩,
  ⟨0x3A10, 0x3A2F, 0x07, 0x07, .u16, .rw, 2, .num 60, .between 1 3600⟩,
  ⟨0x3A10, 0x3A2F, 0x08, 0x08, .u8, .rw, 1, .num 0, .between 0 128⟩,
  ⟨0x3A10, 0x3A2F, 0x09, 0x09, .u64, .ro, 0, .num 0, .any⟩,
  ⟨0x3A10, 0x3A2F, 0x0A, 0x0A, .u64, .ro, 0, .num 0, .any⟩,
  ⟨0x3A10, 0x3A2F, 0x0B, 0x0B, .u64, .ro, 0, .num 0, .any⟩,
  ⟨0x3A10, 0x3A2F, 0x0C, 0x0C, .u8, .ro, 0, .num 0, .any⟩,
  ⟨0x3A40, 0x3A41, 0x00, 0x00, .u8, .ro, 0, .num 2, .any⟩,
  ⟨0x3A40, 0x3A40, 0x01, 0x02, .u8, .ro, 0, .num 0, .any⟩]

/-- Objects of chapter 16, part 1. -/
def Catalog.metering1 : List Row := [
  ⟨0x3A41, 0x3A41, 0x01, 0x02, .u32, .ro, 0, .num 0, .any⟩,
  ⟨0x3A50, 0x3A50, 0x00, 0x00, .u8, .ro, 0, .num 7, .any⟩,
  ⟨0x3A50, 0x3A50, 0x01, 0x01, .u64, .ro, 0, .num 0, .any⟩,
  ⟨0x3A50, 0x3A50, 0x02, 0x02, .u64, .ro, 0, .num 0, .any⟩,
  ⟨0x3A50, 0x3A50, 0x03, 0x03, .u64, .ro, 0, .num 0, .any⟩,
  ⟨0x3A50, 0x3A50, 0x04, 0x04, .u64, .ro, 0, .num 0, .any⟩,
  ⟨0x3A50, 0x3A50, 0x05, 0x05, .u64, .ro, 0, .num 0, .any⟩,
  ⟨0x3A50, 0x3A50, 0x06, 0x06, .u64, .ro, 0, .num 0, .any⟩,
  ⟨0x3A50, 0x3A50, 0x07, 0x07, .u64, .ro, 0, .num 0, .any⟩,
  ⟨0x4400, 0x4400, 0x00, 0x00, .u8, .rw, 0, .num 0, .between 0 255⟩,
  ⟨0x4401, 0x4401, 0x00, 0x00, .oct 16 16, .rw, 2, .oct (zeros 16), .any⟩,
  ⟨0x4402, 0x4402, 0x00, 0x00, .oct 32 32, .ro, 0, .oct (zeros 32), .any⟩]

/-- Objects of chapter 17, part 0. -/
def Catalog.pair0 : List Row := [
  ⟨0x3C00, 0x3C00, 0x00, 0x00, .bool, .rw, 3, .num 0, .between 0 1⟩,
  ⟨0x3C01, 0x3C01, 0x00, 0x00, .u32, .wl, 3, .num 0, .between 1 4294967294⟩,
  ⟨0x3C02, 0x3C02, 0x00, 0x00, .u8, .ro, 0, .num 0, .any⟩,
  ⟨0x3C03, 0x3C03, 0x00, 0x00, .u8, .ro, 0, .num 0, .any⟩,
  ⟨0x3C04, 0x3C04, 0x00, 0x00, .u8, .rw, 2, .num 5, .between 2 50⟩,
  ⟨0x3C05, 0x3C05, 0x00, 0x00, .u16, .rw, 2, .num 10, .between 1 600⟩,
  ⟨0x3C06, 0x3C06, 0x00, 0x00, .u8, .rw, 2, .num 20, .between 5 100⟩,
  ⟨0x3C07, 0x3C07, 0x00, 0x00, .u16, .rw, 2, .num 10, .between 2 120⟩,
  ⟨0x3C08, 0x3C08, 0x00, 0x00, .u32, .rw, 2, .num 1000, .between 100 50000⟩,
  ⟨0x3C09, 0x3C09, 0x00, 0x00, .u16, .ro, 0, .num 1, .any⟩,
  ⟨0x3C0A, 0x3C0A, 0x00, 0x00, .i64, .ro, 0, .num 0, .any⟩,
  ⟨0x3C0B, 0x3C0B, 0x00, 0x00, .u64, .ro, 0, .num 0, .any⟩,
  ⟨0x3C0C, 0x3C0C, 0x00, 0x00, .u64, .ro, 0, .num 0, .any⟩,
  ⟨0x3C10, 0x3C10, 0x00, 0x00, .u8, .cmd, 1, .num 0, .between 1 2⟩,
  ⟨0x3C11, 0x3C11, 0x00, 0x00, .ft, .ro, 0, .num 0, .any⟩,
  ⟨0x3C20, 0x3C20, 0x00, 0x00, .u8, .ro, 0, .num 18, .any⟩,
  ⟨0x3C20, 0x3C20, 0x01, 0x01, .u64, .ro, 0, .num 0, .any⟩,
  ⟨0x3C20, 0x3C20, 0x02, 0x02, .u64, .ro, 0, .num 0, .any⟩,
  ⟨0x3C20, 0x3C20, 0x03, 0x03, .u64, .ro, 0, .num 0, .any⟩,
  ⟨0x3C20, 0x3C20, 0x04, 0x04, .u64, .ro, 0, .num 0, .any⟩,
  ⟨0x3C20, 0x3C20, 0x05, 0x05, .u64, .ro, 0, .num 0, .any⟩,
  ⟨0x3C20, 0x3C20, 0x06, 0x06, .u64, .ro, 0, .num 0, .any⟩,
  ⟨0x3C20, 0x3C20, 0x07, 0x07, .u64, .ro, 0, .num 0, .any⟩,
  ⟨0x3C20, 0x3C20, 0x08, 0x08, .u64, .ro, 0, .num 0, .any⟩]

/-- Objects of chapter 17, part 1. -/
def Catalog.pair1 : List Row := [
  ⟨0x3C20, 0x3C20, 0x09, 0x09, .u64, .ro, 0, .num 0, .any⟩,
  ⟨0x3C20, 0x3C20, 0x0A, 0x0A, .u64, .ro, 0, .num 0, .any⟩,
  ⟨0x3C20, 0x3C20, 0x0B, 0x0B, .u64, .ro, 0, .num 0, .any⟩,
  ⟨0x3C20, 0x3C20, 0x0C, 0x0C, .u64, .ro, 0, .num 0, .any⟩,
  ⟨0x3C20, 0x3C20, 0x0D, 0x0D, .u64, .ro, 0, .num 0, .any⟩,
  ⟨0x3C20, 0x3C20, 0x0E, 0x0E, .u64, .ro, 0, .num 0, .any⟩,
  ⟨0x3C20, 0x3C20, 0x0F, 0x0F, .u64, .ro, 0, .num 0, .any⟩,
  ⟨0x3C20, 0x3C20, 0x10, 0x10, .u64, .ro, 0, .num 0, .any⟩,
  ⟨0x3C20, 0x3C20, 0x11, 0x11, .u64, .ro, 0, .num 0, .any⟩,
  ⟨0x3C20, 0x3C20, 0x12, 0x12, .u64, .ro, 0, .num 0, .any⟩]

/-- Objects of chapter 18, part 0. -/
def Catalog.dictionary0 : List Row := [
  ⟨0x1000, 0x1000, 0x00, 0x00, .str 6, .ro, 0, .oct (strBytes "VN9640"), .any⟩,
  ⟨0x1001, 0x1001, 0x00, 0x00, .u64, .ro, 0, .num 0, .any⟩,
  ⟨0x1002, 0x1002, 0x00, 0x00, .u8, .ro, 0, .num 0, .any⟩,
  ⟨0x1008, 0x1008, 0x00, 0x00, .u8, .ro, 0, .num 0, .any⟩,
  ⟨0x1009, 0x1009, 0x00, 0x00, .u8, .ro, 0, .num 0, .any⟩,
  ⟨0x1010, 0x1010, 0x00, 0x00, .u8, .ro, 0, .num 4, .any⟩,
  ⟨0x1010, 0x1010, 0x01, 0x01, .u8, .ro, 0, .num 16, .any⟩,
  ⟨0x1010, 0x1010, 0x02, 0x02, .u8, .ro, 0, .num 4, .any⟩,
  ⟨0x1010, 0x1010, 0x03, 0x03, .u8, .ro, 0, .num 3, .any⟩,
  ⟨0x1010, 0x1010, 0x04, 0x04, .u8, .ro, 0, .num 32, .any⟩,
  ⟨0x1011, 0x1011, 0x00, 0x00, .u16, .ro, 0, .num 0, .any⟩,
  ⟨0x1012, 0x1012, 0x00, 0x00, .u16, .rw, 0, .num 0, .between 0 511⟩,
  ⟨0x1013, 0x1013, 0x00, 0x00, .oct 32 32, .ro, 0, .oct (zeros 32), .any⟩,
  ⟨0x1020, 0x1020, 0x00, 0x00, .u8, .ro, 0, .num 2, .any⟩,
  ⟨0x1020, 0x1020, 0x01, 0x02, .u8, .rw, 3, .num 0, .between 0 3⟩,
  ⟨0x1021, 0x1021, 0x00, 0x00, .u16, .rw, 2, .num 300, .between 30 3600⟩,
  ⟨0x1040, 0x1040, 0x00, 0x00, .u8, .ro, 0, .num 9, .any⟩,
  ⟨0x1040, 0x1040, 0x01, 0x01, .u64, .ro, 0, .num 0, .any⟩,
  ⟨0x1040, 0x1040, 0x02, 0x02, .u64, .ro, 0, .num 0, .any⟩,
  ⟨0x1040, 0x1040, 0x03, 0x03, .u64, .ro, 0, .num 0, .any⟩,
  ⟨0x1040, 0x1040, 0x04, 0x04, .u64, .ro, 0, .num 0, .any⟩,
  ⟨0x1040, 0x1040, 0x05, 0x05, .u64, .ro, 0, .num 0, .any⟩,
  ⟨0x1040, 0x1040, 0x06, 0x06, .u64, .ro, 0, .num 0, .any⟩,
  ⟨0x1040, 0x1040, 0x07, 0x07, .u64, .ro, 0, .num 0, .any⟩]

/-- Objects of chapter 18, part 1. -/
def Catalog.dictionary1 : List Row := [
  ⟨0x1040, 0x1040, 0x08, 0x08, .u64, .ro, 0, .num 0, .any⟩,
  ⟨0x1040, 0x1040, 0x09, 0x09, .u64, .ro, 0, .num 0, .any⟩,
  ⟨0x1F00, 0x1F00, 0x00, 0x00, .u16, .rw, 0, .num 0, .between 0 483⟩,
  ⟨0x1F01, 0x1F01, 0x00, 0x00, .u32, .ro, 0, .num 0, .any⟩,
  ⟨0x1F02, 0x1F02, 0x00, 0x00, .u16, .ro, 0, .num 65535, .any⟩,
  ⟨0x1F03, 0x1F03, 0x00, 0x00, .u32, .ro, 0, .num 0, .any⟩]

/-- Objects of chapter 19, part 0. -/
def Catalog.recorder0 : List Row := [
  ⟨0x3E00, 0x3E00, 0x00, 0x00, .u8, .ro, 0, .num 5, .any⟩,
  ⟨0x3E00, 0x3E00, 0x01, 0x01, .u64, .ro, 0, .num 0, .any⟩,
  ⟨0x3E00, 0x3E00, 0x02, 0x02, .u64, .ro, 0, .num 0, .any⟩,
  ⟨0x3E00, 0x3E00, 0x03, 0x03, .u64, .ro, 0, .num 0, .any⟩,
  ⟨0x3E00, 0x3E00, 0x04, 0x04, .u8, .ro, 0, .num 63, .any⟩,
  ⟨0x3E00, 0x3E00, 0x05, 0x05, .u32, .ro, 0, .num 0, .any⟩,
  ⟨0x3E01, 0x3E01, 0x00, 0x00, .u8, .rw, 2, .num 1, .between 0 6⟩,
  ⟨0x3E02, 0x3E02, 0x00, 0x00, .u16, .rw, 2, .num 10, .between 1 1000⟩,
  ⟨0x3E03, 0x3E03, 0x00, 0x00, .u8, .ro, 0, .num 0, .any⟩,
  ⟨0x3E10, 0x3E10, 0x00, 0x00, .u64, .rw, 0, .num 0, .any⟩,
  ⟨0x3E11, 0x3E11, 0x00, 0x00, .oct 16 1024, .ro, 0, .oct (zeros 16), .any⟩,
  ⟨0x3E20, 0x3E20, 0x00, 0x00, .u8, .ro, 0, .num 10, .any⟩,
  ⟨0x3E20, 0x3E20, 0x01, 0x01, .u64, .ro, 0, .num 0, .any⟩,
  ⟨0x3E20, 0x3E20, 0x02, 0x02, .u64, .ro, 0, .num 0, .any⟩,
  ⟨0x3E20, 0x3E20, 0x03, 0x03, .u64, .ro, 0, .num 0, .any⟩,
  ⟨0x3E20, 0x3E20, 0x04, 0x04, .u64, .ro, 0, .num 0, .any⟩,
  ⟨0x3E20, 0x3E20, 0x05, 0x05, .u64, .ro, 0, .num 0, .any⟩,
  ⟨0x3E20, 0x3E20, 0x06, 0x06, .u64, .ro, 0, .num 0, .any⟩,
  ⟨0x3E20, 0x3E20, 0x07, 0x07, .u64, .ro, 0, .num 0, .any⟩,
  ⟨0x3E20, 0x3E20, 0x08, 0x08, .u64, .ro, 0, .num 0, .any⟩,
  ⟨0x3E20, 0x3E20, 0x09, 0x09, .u64, .ro, 0, .num 0, .any⟩,
  ⟨0x3E20, 0x3E20, 0x0A, 0x0A, .u64, .ro, 0, .num 0, .any⟩,
  ⟨0x3E30, 0x3E30, 0x00, 0x00, .u8, .ro, 0, .num 2, .any⟩,
  ⟨0x3E30, 0x3E30, 0x01, 0x02, .oct 6 6, .rw, 2, .oct (zeros 6), .any⟩]

/-- Objects of chapter 19, part 1. -/
def Catalog.recorder1 : List Row := [
  ⟨0x3E31, 0x3E31, 0x00, 0x00, .u8, .rw, 2, .num 3, .between 0 7⟩]

/-- Objects of chapter 20, part 0. -/
def Catalog.update0 : List Row := [
  ⟨0x3F00, 0x3F00, 0x00, 0x00, .oct 8 8, .cmd, 2, .oct (zeros 8), .any⟩,
  ⟨0x3F01, 0x3F01, 0x00, 0x00, .oct 9 1024, .cmd, 2, .oct (zeros 9), .any⟩,
  ⟨0x3F02, 0x3F02, 0x00, 0x00, .bool, .cmd, 2, .num 0, .oneOf [1]⟩,
  ⟨0x3F03, 0x3F03, 0x00, 0x00, .bool, .cmd, 2, .num 0, .oneOf [1]⟩,
  ⟨0x3F04, 0x3F04, 0x00, 0x00, .u8, .cmd, 2, .num 0, .between 1 2⟩,
  ⟨0x3F05, 0x3F05, 0x00, 0x00, .bool, .cmd, 2, .num 0, .oneOf [1]⟩,
  ⟨0x3F06, 0x3F06, 0x00, 0x00, .bool, .cmd, 2, .num 0, .oneOf [1]⟩,
  ⟨0x3F08, 0x3F08, 0x00, 0x00, .u8, .ro, 0, .num 0, .any⟩,
  ⟨0x3F09, 0x3F09, 0x00, 0x00, .u16, .ro, 0, .num 65535, .any⟩,
  ⟨0x3F0A, 0x3F0A, 0x00, 0x00, .u32, .ro, 0, .num 0, .any⟩,
  ⟨0x3F0B, 0x3F0B, 0x00, 0x00, .u8, .ro, 0, .num 0, .any⟩,
  ⟨0x3F0C, 0x3F0C, 0x00, 0x00, .u16, .rw, 2, .num 120, .between 30 600⟩,
  ⟨0x3F0D, 0x3F0D, 0x00, 0x00, .u8, .rw, 2, .num 0, .between 0 1⟩,
  ⟨0x3F0E, 0x3F0E, 0x00, 0x00, .bool, .rw, 2, .num 1, .between 0 1⟩,
  ⟨0x3F0F, 0x3F0F, 0x00, 0x00, .u16, .ro, 0, .num 0, .any⟩,
  ⟨0x3F10, 0x3F10, 0x00, 0x00, .u16, .rw, 2, .num 60, .between 10 600⟩,
  ⟨0x3F18, 0x3F18, 0x00, 0x00, .u8, .ro, 0, .num 2, .any⟩,
  ⟨0x3F18, 0x3F18, 0x01, 0x02, .u32, .ro, 0, .num 0, .any⟩,
  ⟨0x3F19, 0x3F19, 0x00, 0x00, .u8, .ro, 0, .num 0, .any⟩,
  ⟨0x3F1A, 0x3F1A, 0x00, 0x00, .u32, .ro, 0, .num 0, .any⟩,
  ⟨0x3F1B, 0x3F1B, 0x00, 0x00, .u32, .ro, 0, .num 0, .any⟩,
  ⟨0x3F1C, 0x3F1C, 0x00, 0x00, .u16, .ro, 0, .num 0, .any⟩,
  ⟨0x3F1D, 0x3F1D, 0x00, 0x00, .u32, .ro, 0, .num 0, .any⟩,
  ⟨0x3F20, 0x3F20, 0x00, 0x00, .u8, .ro, 0, .num 9, .any⟩]

/-- Objects of chapter 20, part 1. -/
def Catalog.update1 : List Row := [
  ⟨0x3F20, 0x3F20, 0x01, 0x01, .u64, .ro, 0, .num 0, .any⟩,
  ⟨0x3F20, 0x3F20, 0x02, 0x02, .u64, .ro, 0, .num 0, .any⟩,
  ⟨0x3F20, 0x3F20, 0x03, 0x03, .u64, .ro, 0, .num 0, .any⟩,
  ⟨0x3F20, 0x3F20, 0x04, 0x04, .u64, .ro, 0, .num 0, .any⟩,
  ⟨0x3F20, 0x3F20, 0x05, 0x05, .u64, .ro, 0, .num 0, .any⟩,
  ⟨0x3F20, 0x3F20, 0x06, 0x06, .u64, .ro, 0, .num 0, .any⟩,
  ⟨0x3F20, 0x3F20, 0x07, 0x07, .u64, .ro, 0, .num 0, .any⟩,
  ⟨0x3F20, 0x3F20, 0x08, 0x08, .u64, .ro, 0, .num 0, .any⟩,
  ⟨0x3F20, 0x3F20, 0x09, 0x09, .u64, .ro, 0, .num 0, .any⟩]

/-- Objects of chapter 21, part 0. -/
def Catalog.background0 : List Row := [
  ⟨0x3F40, 0x3F40, 0x00, 0x00, .u16, .rw, 2, .num 600, .between 60 3600⟩,
  ⟨0x3F41, 0x3F41, 0x00, 0x00, .u32, .rw, 2, .num 86400, .between 3600 604800⟩,
  ⟨0x3F42, 0x3F42, 0x00, 0x00, .u8, .ro, 0, .num 2, .any⟩,
  ⟨0x3F42, 0x3F42, 0x01, 0x02, .ft, .ro, 0, .num 0, .any⟩,
  ⟨0x3F43, 0x3F43, 0x00, 0x00, .u8, .ro, 0, .num 0, .any⟩,
  ⟨0x3F44, 0x3F44, 0x00, 0x00, .u16, .rw, 2, .num 600, .between 60 3600⟩,
  ⟨0x3F45, 0x3F45, 0x00, 0x00, .u8, .rw, 2, .num 50, .between 10 200⟩,
  ⟨0x3F46, 0x3F46, 0x00, 0x00, .u8, .ro, 0, .num 4, .any⟩,
  ⟨0x3F46, 0x3F46, 0x01, 0x04, .i32, .ro, 0, .num 0, .any⟩,
  ⟨0x3F47, 0x3F47, 0x00, 0x00, .u8, .ro, 0, .num 3, .any⟩,
  ⟨0x3F47, 0x3F47, 0x01, 0x01, .i32, .ro, 0, .num 0, .any⟩,
  ⟨0x3F47, 0x3F47, 0x02, 0x02, .i32, .ro, 0, .num 0, .any⟩,
  ⟨0x3F47, 0x3F47, 0x03, 0x03, .i32, .ro, 0, .num 0, .any⟩,
  ⟨0x3F48, 0x3F48, 0x00, 0x00, .u8, .ro, 0, .num 2, .any⟩,
  ⟨0x3F48, 0x3F48, 0x01, 0x02, .i32, .ro, 0, .num 0, .any⟩,
  ⟨0x3F49, 0x3F49, 0x00, 0x00, .u8, .ro, 0, .num 64, .any⟩,
  ⟨0x3F4A, 0x3F4A, 0x00, 0x00, .u32, .rw, 2, .num 100000, .between 10000 1000000⟩,
  ⟨0x3F4B, 0x3F4B, 0x00, 0x00, .u32, .ro, 0, .num 0, .any⟩,
  ⟨0x3F50, 0x3F50, 0x00, 0x00, .u8, .ro, 0, .num 14, .any⟩,
  ⟨0x3F50, 0x3F50, 0x01, 0x02, .u64, .ro, 0, .num 0, .any⟩,
  ⟨0x3F50, 0x3F50, 0x03, 0x04, .u64, .ro, 0, .num 0, .any⟩,
  ⟨0x3F50, 0x3F50, 0x05, 0x06, .u64, .ro, 0, .num 0, .any⟩,
  ⟨0x3F50, 0x3F50, 0x07, 0x07, .u64, .ro, 0, .num 0, .any⟩,
  ⟨0x3F50, 0x3F50, 0x08, 0x08, .u64, .ro, 0, .num 0, .any⟩]

/-- Objects of chapter 21, part 1. -/
def Catalog.background1 : List Row := [
  ⟨0x3F50, 0x3F50, 0x09, 0x09, .u64, .ro, 0, .num 0, .any⟩,
  ⟨0x3F50, 0x3F50, 0x0A, 0x0A, .u64, .ro, 0, .num 0, .any⟩,
  ⟨0x3F50, 0x3F50, 0x0B, 0x0B, .u64, .ro, 0, .num 0, .any⟩,
  ⟨0x3F50, 0x3F50, 0x0C, 0x0C, .u64, .ro, 0, .num 0, .any⟩,
  ⟨0x3F50, 0x3F50, 0x0D, 0x0D, .u64, .ro, 0, .num 0, .any⟩,
  ⟨0x3F50, 0x3F50, 0x0E, 0x0E, .u64, .ro, 0, .num 0, .any⟩,
  ⟨0x3F60, 0x3F60, 0x00, 0x00, .u8, .ro, 0, .num 4, .any⟩,
  ⟨0x3F60, 0x3F60, 0x01, 0x04, .oct 6 6, .rw, 2, .oct (zeros 6), .any⟩,
  ⟨0x3F61, 0x3F61, 0x00, 0x00, .oct 64 64, .ro, 0, .oct (zeros 64), .any⟩]

/-- Objects of chapter 22, part 0. -/
def Catalog.power0 : List Row := [
  ⟨0x1100, 0x1100, 0x00, 0x00, .u8, .ro, 0, .num 2, .any⟩,
  ⟨0x1101, 0x1101, 0x00, 0x00, .u8, .cmd, 2, .num 0, .oneOf [3, 4, 8, 9]⟩,
  ⟨0x1102, 0x1102, 0x00, 0x00, .u16, .ro, 0, .num 0, .any⟩,
  ⟨0x1103, 0x1103, 0x00, 0x00, .u8, .cmd, 2, .num 0, .between 1 2⟩,
  ⟨0x1104, 0x1104, 0x00, 0x00, .u8, .rw, 2, .num 8, .oneOf [3, 4, 8]⟩,
  ⟨0x1105, 0x1105, 0x00, 0x00, .u16, .ro, 0, .num 0, .any⟩,
  ⟨0x1106, 0x1106, 0x00, 0x00, .u32, .ro, 0, .num 0, .any⟩,
  ⟨0x1107, 0x1107, 0x00, 0x00, .u16, .rw, 2, .num 300, .between 10 3600⟩,
  ⟨0x1110, 0x1110, 0x00, 0x00, .u8, .ro, 0, .num 9, .any⟩,
  ⟨0x1110, 0x1110, 0x01, 0x09, .u16, .ro, 0, .num 0, .any⟩,
  ⟨0x1120, 0x1120, 0x00, 0x00, .u8, .ro, 0, .num 5, .any⟩,
  ⟨0x1120, 0x1120, 0x01, 0x01, .u64, .ro, 0, .num 0, .any⟩,
  ⟨0x1120, 0x1120, 0x02, 0x02, .u64, .ro, 0, .num 0, .any⟩,
  ⟨0x1120, 0x1120, 0x03, 0x03, .u64, .ro, 0, .num 0, .any⟩,
  ⟨0x1120, 0x1120, 0x04, 0x04, .u64, .ro, 0, .num 0, .any⟩,
  ⟨0x1120, 0x1120, 0x05, 0x05, .u64, .ro, 0, .num 0, .any⟩]

/-- Objects of chapter 23, part 0. -/
def Catalog.security0 : List Row := [
  ⟨0x1200, 0x1200, 0x00, 0x00, .oct 1024 1024, .ro, 0, .oct (zeros 1024), .any⟩,
  ⟨0x1201, 0x1201, 0x00, 0x00, .u8, .ro, 0, .num 0, .any⟩,
  ⟨0x1202, 0x1202, 0x00, 0x00, .u8, .ro, 0, .num 3, .any⟩,
  ⟨0x1202, 0x1202, 0x01, 0x03, .u8, .ro, 0, .num 0, .any⟩,
  ⟨0x1210, 0x1210, 0x00, 0x00, .oct 1024 1024, .wl, 3, .oct (zeros 1024), .any⟩,
  ⟨0x1211, 0x1211, 0x00, 0x00, .arr 8 64, .rw, 3, .oct (zeros 2), .any⟩,
  ⟨0x1212, 0x1212, 0x00, 0x00, .u8, .rw, 3, .num 0, .between 0 3⟩,
  ⟨0x1220, 0x1220, 0x00, 0x00, .u8, .rw, 3, .num 1, .between 1 2⟩,
  ⟨0x1221, 0x1221, 0x00, 0x00, .u8, .ro, 0, .num 0, .any⟩,
  ⟨0x1230, 0x1230, 0x00, 0x00, .oct 48 48, .ro, 0, .oct (zeros 48), .any⟩,
  ⟨0x1231, 0x1231, 0x00, 0x00, .oct 96 96, .cmd, 3, .oct (zeros 96), .any⟩,
  ⟨0x1232, 0x1232, 0x00, 0x00, .u8, .ro, 0, .num 0, .any⟩,
  ⟨0x1238, 0x1238, 0x00, 0x00, .u8, .cmd, 0, .num 0, .oneOf [0x5A]⟩,
  ⟨0x1250, 0x1250, 0x00, 0x00, .u8, .ro, 0, .num 2, .any⟩,
  ⟨0x1250, 0x1250, 0x01, 0x01, .u64, .ro, 0, .num 0, .any⟩,
  ⟨0x1250, 0x1250, 0x02, 0x02, .u64, .ro, 0, .num 0, .any⟩]

/-- The rows whose indices begin with an octet. -/
def Catalog.page (octet : Nat) : List Row :=
  match octet with
  | 0x10 => Catalog.dictionary0 ++ Catalog.dictionary1
  | 0x11 => Catalog.power0
  | 0x12 => Catalog.security0
  | 0x1F => Catalog.dictionary1
  | 0x20 => Catalog.fieldTime0 ++ Catalog.fieldTime1 ++ Catalog.ptp0 ++ Catalog.ptp1 ++ Catalog.ptp2 ++ Catalog.ptp3
  | 0x24 => Catalog.gnss0 ++ Catalog.gnss1 ++ Catalog.channels0 ++ Catalog.channels1 ++ Catalog.integrity0 ++ Catalog.integrity1
  | 0x28 => Catalog.solve0 ++ Catalog.solve1 ++ Catalog.solve2
  | 0x2C => Catalog.pipeline0
  | 0x2D => Catalog.tracks0 ++ Catalog.tracks1
  | 0x2E => Catalog.tasks0 ++ Catalog.tasks1
  | 0x2F => Catalog.scheduler0
  | 0x30 => Catalog.air0 ++ Catalog.air1 ++ Catalog.air2 ++ Catalog.air3
  | 0x34 => Catalog.stop0
  | 0x36 => Catalog.net0 ++ Catalog.net1 ++ Catalog.net2
  | 0x38 => Catalog.axes0 ++ Catalog.axes1 ++ Catalog.axes2
  | 0x3A => Catalog.metering0 ++ Catalog.metering1
  | 0x3C => Catalog.pair0 ++ Catalog.pair1
  | 0x3E => Catalog.recorder0 ++ Catalog.recorder1
  | 0x3F => Catalog.update0 ++ Catalog.update1 ++ Catalog.background0 ++ Catalog.background1
  | 0x40 => Catalog.tracks1
  | 0x41 => Catalog.tracks1
  | 0x42 => Catalog.tracks1
  | 0x43 => Catalog.tasks1
  | 0x44 => Catalog.metering1
  | 0x50 => Catalog.architecture0
  | _ => []

/-- Does a row cover object `o` (index × 256 + subindex)? -/
def Row.covers (r : Row) (o : Nat) : Bool :=
  decide (r.i0 ≤ o / 256) && decide (o / 256 ≤ r.i1) && decide (r.s0 ≤ o % 256) && decide (o % 256 ≤ r.s1)

/-- The catalogue row of an object (R566: none, if no chapter assigns it). -/
def Catalog.row? (o : Nat) : Option Row := (Catalog.page (o / 65536)).find? fun r => r.covers o

/-- The default of an object; 0 where the catalogue has none. -/
def Catalog.dflt (o : Nat) : Val :=
  match Catalog.row? o with
  | some r => r.dflt
  | none => .num 0

/-- The rate limit of a code (R610): none, one record per interval of so many CK_TIME ticks where the home chapter
states one, or the default limit of 0x3E02. -/
inductive Limit where
  | free
  | once (ticks : Nat)
  | default
  deriving DecidableEq, Repr

/-- An event code with its severity (R600) and its rate limit (R610). -/
structure EventRow where
  code : Nat
  sev : Nat
  limit : Limit
  deriving DecidableEq, Repr

/-- Event codes, part 0 (the event tables of the home chapters). -/
def Catalog.events0 : List EventRow := [
  ⟨0x1001, 2, .default⟩ /- MODE_CHANGED -/,
  ⟨0x1002, 2, .default⟩ /- UNIT_STARTED -/,
  ⟨0x1005, 3, .default⟩ /- VBAT_LOW -/,
  ⟨0x1006, 3, .once 30000000000⟩ /- DIE_TEMP_HIGH -/,
  ⟨0x1040, 4, .default⟩ /- SPEC_BLOCKED -/,
  ⟨0x1050, 5, .default⟩ /- UNIT_FAULT -/,
  ⟨0x1063, 3, .once 30000000000⟩ /- DICT_MALFORMED -/,
  ⟨0x1064, 1, .default⟩ /- GROUP_DISCARDED -/,
  ⟨0x1065, 4, .default⟩ /- CHANGE_NOT_APPLIED -/,
  ⟨0x2001, 2, .default⟩ /- TIME_STATE_CHANGED -/,
  ⟨0x2002, 3, .free⟩ /- TIME_STEPPED -/,
  ⟨0x2003, 2, .free⟩ /- TIME_SET -/,
  ⟨0x2004, 5, .default⟩ /- REF10_LOST -/,
  ⟨0x2005, 3, .once 30000000000⟩ /- INCREMENT_CLAMPED -/,
  ⟨0x2006, 3, .default⟩ /- COMPARATOR_LATE -/,
  ⟨0x2011, 3, .default⟩ /- PTP_DOMAIN_SUSPECT -/,
  ⟨0x2012, 2, .default⟩ /- PTP_DOMAIN_CLEARED -/,
  ⟨0x2013, 1, .default⟩ /- PTP_PORT_STATE -/,
  ⟨0x2014, 3, .once 30000000000⟩ /- TS_QUEUE_GAP -/,
  ⟨0x2015, 3, .once 30000000000⟩ /- TIO_CAPTURE_LOST -/,
  ⟨0x2016, 2, .default⟩ /- TIO_REARMED -/,
  ⟨0x3001, 3, .default⟩ /- RECOVERY_STARTED -/,
  ⟨0x3002, 2, .default⟩ /- RECOVERY_ENDED -/,
  ⟨0x3003, 4, .default⟩ /- CHAIN_EXCLUDED -/,
  ⟨0x3004, 4, .default⟩ /- ANTENNA_FAULT -/,
  ⟨0x3005, 2, .default⟩ /- ANTENNA_RESTORED -/,
  ⟨0x3007, 3, .once 30000000000⟩ /- ADC_SATURATION -/,
  ⟨0x3010, 3, .once 30000000000⟩ /- CHANNELS_SHORT -/,
  ⟨0x3011, 3, .once 30000000000⟩ /- ACQ_QUEUE_FULL -/,
  ⟨0x3012, 2, .default⟩ /- BANK_MAP_CHANGED -/,
  ⟨0x3013, 3, .once 30000000000⟩ /- NCO_LATE -/,
  ⟨0x3020, 2, .default⟩ /- SIGNAL_EXCLUDED -/,
  ⟨0x3021, 1, .default⟩ /- SIGNAL_REINSTATED -/,
  ⟨0x3022, 3, .default⟩ /- CHAIN_CHECK_FAILED -/,
  ⟨0x3023, 3, .default⟩ /- GNSS_TIME_INVALID -/,
  ⟨0x3024, 2, .default⟩ /- GNSS_TIME_VALID -/,
  ⟨0x3025, 3, .default⟩ /- CHECKS_LATE -/,
  ⟨0x3026, 4, .default⟩ /- ARRIVAL_COMMON -/,
  ⟨0x3027, 3, .default⟩ /- EPHEMERIS_REJECTED -/,
  ⟨0x4001, 2, .default⟩ /- SURVEY_COMPLETE -/]

/-- Event codes, part 1 (the event tables of the home chapters). -/
def Catalog.events1 : List EventRow := [
  ⟨0x4002, 2, .default⟩ /- REF_POSITION_COMMITTED -/,
  ⟨0x4003, 3, .default⟩ /- FIX_LOST -/,
  ⟨0x4004, 3, .once 30000000000⟩ /- FIELD_OBS_DROPPED -/,
  ⟨0x4005, 4, .default⟩ /- BASE_STALE -/,
  ⟨0x4006, 2, .default⟩ /- FILTER_RESET -/,
  ⟨0x5001, 3, .once 500000000⟩ /- STAGE_LATE -/,
  ⟨0x5002, 3, .once 30000000000⟩ /- INGEST_OVERFLOW -/,
  ⟨0x5003, 3, .once 30000000000⟩ /- POSITION_STALE -/,
  ⟨0x5004, 2, .default⟩ /- PLAN_DISCARDED -/,
  ⟨0x5005, 1, .once 30000000000⟩ /- UNKNOWN_SOURCE -/,
  ⟨0x5010, 3, .once 30000000000⟩ /- RES_TABLE_FULL -/,
  ⟨0x5011, 2, .default⟩ /- RESERVATION_HELD -/,
  ⟨0x5012, 1, .default⟩ /- HOLD_RELEASED -/,
  ⟨0x5013, 3, .once 30000000000⟩ /- ROUTE_INVALID -/,
  ⟨0x5014, 3, .default⟩ /- TABLE_EDIT_REFUSED -/,
  ⟨0x5015, 3, .once 30000000000⟩ /- MARGIN_EXCEEDED -/,
  ⟨0x5016, 4, .default⟩ /- GATE_FAULT_HOLD -/,
  ⟨0x5020, 1, .default⟩ /- TASK_AWARDED -/,
  ⟨0x5021, 2, .default⟩ /- TASK_REQUEUED -/,
  ⟨0x5022, 3, .default⟩ /- TASK_FAILED -/,
  ⟨0x5023, 1, .once 30000000000⟩ /- REPORT_IGNORED -/,
  ⟨0x5024, 3, .default⟩ /- TASK_EDIT_REFUSED -/,
  ⟨0x5030, 3, .once 30000000000⟩ /- STORE_FULL -/,
  ⟨0x5031, 3, .once 30000000000⟩ /- OPERAND_DUPLICATE -/,
  ⟨0x5032, 3, .once 30000000000⟩ /- INSTANCE_EXPIRED -/,
  ⟨0x6001, 2, .default⟩ /- MACHINE_ASSOCIATED -/,
  ⟨0x6002, 3, .default⟩ /- MACHINE_ADRIFT -/,
  ⟨0x6003, 2, .default⟩ /- JOIN_REFUSED -/,
  ⟨0x6004, 2, .default⟩ /- CHANNEL_EXCLUDED -/,
  ⟨0x6005, 1, .default⟩ /- CHANNEL_REINSTATED -/,
  ⟨0x6006, 3, .once 30000000000⟩ /- EXCLUSION_NO_SPARE -/,
  ⟨0x6007, 3, .once 30000000000⟩ /- FRAMES_DROPPED -/,
  ⟨0x6008, 1, .default⟩ /- JOIN_ABANDONED -/,
  ⟨0x7001, 7, .free⟩ /- STOP_ENTERED -/,
  ⟨0x7002, 7, .free⟩ /- STOP_RELEASED -/,
  ⟨0x7003, 4, .default⟩ /- STOP_DISCREPANCY -/,
  ⟨0x7004, 3, .once 30000000000⟩ /- STOP_COMMAND_REJECTED -/,
  ⟨0x7005, 4, .default⟩ /- STOP_STATE_DIFFERS -/,
  ⟨0x7006, 7, .free⟩ /- STOPOUT_FAULT -/,
  ⟨0x8001, 2, .default⟩ /- LINK_CHANGED -/]

/-- Event codes, part 2 (the event tables of the home chapters). -/
def Catalog.events2 : List EventRow := [
  ⟨0x8002, 3, .once 30000000000⟩ /- ETH_FRAMES_DROPPED -/,
  ⟨0x8003, 3, .once 30000000000⟩ /- RX_OVERFLOW -/,
  ⟨0x8004, 3, .once 30000000000⟩ /- ROUTE_UNRESOLVED -/,
  ⟨0x8005, 4, .once 30000000000⟩ /- CAN_BUS_OFF -/,
  ⟨0x8006, 3, .default⟩ /- CAN_ERROR_PASSIVE -/,
  ⟨0x8007, 3, .once 30000000000⟩ /- CAN_TX_OVERFLOW -/,
  ⟨0x8009, 3, .default⟩ /- ADDRESS_CONFLICT -/,
  ⟨0x9001, 4, .default⟩ /- AXIS_FAULT -/,
  ⟨0x9002, 2, .default⟩ /- AXIS_HOMED -/,
  ⟨0x9003, 4, .default⟩ /- HOMING_FAILED -/,
  ⟨0x9004, 2, .default⟩ /- DECEL_SUBSTITUTED -/,
  ⟨0x9005, 3, .default⟩ /- GATE_MOVE_DROPPED -/,
  ⟨0x9006, 1, .once 30000000000⟩ /- CURRENT_BOOSTED -/,
  ⟨0xA001, 3, .once 30000000000⟩ /- TALLY_RATE_REJECTED -/,
  ⟨0xA002, 3, .default⟩ /- MAINS_LOST -/,
  ⟨0xA003, 4, .default⟩ /- INTERVAL_LOST -/,
  ⟨0xA004, 2, .default⟩ /- MAINS_RESTORED -/,
  ⟨0xA005, 4, .default⟩ /- SAVE_FAILED -/,
  ⟨0xA006, 2, .default⟩ /- ACCOUNT_CHANGED -/,
  ⟨0xA007, 1, .default⟩ /- ACCOUNT_WRAPPED -/,
  ⟨0xB001, 2, .default⟩ /- PAIR_STATE_CHANGED -/,
  ⟨0xB002, 2, .default⟩ /- PAIR_SYNCED -/,
  ⟨0xB003, 4, .default⟩ /- DIGEST_MISMATCH -/,
  ⟨0xB004, 4, .default⟩ /- TAKEOVER -/,
  ⟨0xB005, 2, .default⟩ /- HANDOVER_DONE -/,
  ⟨0xB006, 3, .default⟩ /- HANDOVER_ABANDONED -/,
  ⟨0xB007, 3, .default⟩ /- HEARTBEAT_LOST -/,
  ⟨0xB008, 1, .default⟩ /- HEARTBEAT_RESTORED -/,
  ⟨0xB009, 5, .default⟩ /- ORPHAN_ENTERED -/,
  ⟨0xB00A, 4, .default⟩ /- SEAM_FAULT -/,
  ⟨0xB00B, 4, .default⟩ /- OWN_CONFLICT -/,
  ⟨0xB00C, 4, .default⟩ /- PAIR_CONFIG_MISMATCH -/,
  ⟨0xB00D, 3, .once 30000000000⟩ /- LINK_ERRORS -/,
  ⟨0xB00E, 3, .default⟩ /- PAIR_TIME_OFFSET -/,
  ⟨0xB00F, 3, .default⟩ /- AXIS_DIVERGED -/,
  ⟨0xB010, 3, .default⟩ /- YIELDED -/,
  ⟨0xC001, 1, .default⟩ /- UPDATE_SESSION_OPENED -/,
  ⟨0xC002, 2, .default⟩ /- UPDATE_REFUSED -/,
  ⟨0xC003, 3, .default⟩ /- UPDATE_SESSION_LOST -/,
  ⟨0xC004, 4, .default⟩ /- IMAGE_REJECTED -/]

/-- Event codes, part 3 (the event tables of the home chapters). -/
def Catalog.events3 : List EventRow := [
  ⟨0xC005, 2, .default⟩ /- IMAGE_READY -/,
  ⟨0xC006, 2, .default⟩ /- ACTIVATION_STARTED -/,
  ⟨0xC007, 2, .default⟩ /- IMAGE_CONFIRMED -/,
  ⟨0xC008, 4, .default⟩ /- FALLBACK -/,
  ⟨0xC009, 2, .default⟩ /- SETTINGS_MIGRATED -/,
  ⟨0xC00A, 3, .free⟩ /- SETTINGS_DISCARDED -/,
  ⟨0xC00B, 2, .default⟩ /- HAMPER_COPIED -/,
  ⟨0xC00C, 4, .default⟩ /- HAMPER_COPY_FAILED -/,
  ⟨0xD001, 4, .default⟩ /- RINSE_UNCORRECTABLE -/,
  ⟨0xD002, 3, .default⟩ /- REPEATED_CORRECTION -/,
  ⟨0xD003, 3, .default⟩ /- RINSE_PASS_OVERDUE -/,
  ⟨0xD004, 3, .default⟩ /- CALIBRATION_FAILED -/,
  ⟨0xD005, 2, .default⟩ /- FLASH_SECTOR_REPLACED -/,
  ⟨0xD006, 4, .default⟩ /- FLASH_SPARES_LOW -/,
  ⟨0xE001, 4, .default⟩ /- BOOT_COPY_INVALID -/,
  ⟨0xE002, 3, .once 30000000000⟩ /- AUTH_FAILED -/,
  ⟨0xE003, 6, .default⟩ /- TAMPER -/,
  ⟨0xE004, 2, .default⟩ /- ROLLBACK_FLOOR_RAISED -/,
  ⟨0xE005, 2, .default⟩ /- ROOT_KEY_REVOKED -/,
  ⟨0xE006, 6, .default⟩ /- DEBUG_UNLOCKED -/,
  ⟨0xE007, 6, .default⟩ /- OWNER_RECOVERED -/,
  ⟨0xE008, 2, .default⟩ /- OWNER_PROVISIONED -/,
  ⟨0xF001, 3, .free⟩ /- RECORDS_DROPPED -/,
  ⟨0xF002, 2, .free⟩ /- RECORDS_SUPPRESSED -/,
  ⟨0xF003, 4, .free⟩ /- RECORDS_LOST -/,
  ⟨0xF004, 4, .default⟩ /- RING_SECTOR_BAD -/,
  ⟨0xF005, 1, .default⟩ /- RECORDER_STARTED -/]

/-- Every event code. -/
def Catalog.events : List EventRow := Catalog.events0 ++ Catalog.events1 ++ Catalog.events2 ++ Catalog.events3

/-- The row of an event code; a code outside the tables never occurs (R599). -/
def Catalog.event (c : Nat) : EventRow := (Catalog.events.find? fun r => r.code == c).getD ⟨c, 1, .default⟩

/-- The runs of counters whose values add into 0x5001 (first index, last index, first and last subindex, nibble k). -/
def Catalog.errorRuns : List (Nat × Nat × Nat × Nat × Nat) := [
  (0x1040, 0x1040, 5, 5, 1), (0x1040, 0x1040, 8, 9, 1), (0x1120, 0x1120, 2, 2, 1), (0x1120, 0x1120, 5, 5, 1),
  (0x2010, 0x2010, 4, 6, 2), (0x2060, 0x2060, 2, 2, 2), (0x2060, 0x2060, 5, 6, 2), (0x2060, 0x2060, 9, 9, 2),
  (0x2420, 0x2424, 1, 5, 3), (0x2450, 0x2450, 3, 8, 3), (0x2450, 0x2450, 10, 11, 3), (0x2480, 0x2480, 1, 12, 3),
  (0x2840, 0x2840, 2, 6, 4), (0x2840, 0x2840, 9, 9, 4), (0x2840, 0x2840, 11, 11, 4), (0x2C10, 0x2C10, 3, 4, 5),
  (0x2C10, 0x2C10, 6, 11, 5), (0x2C10, 0x2C10, 15, 15, 5), (0x2D40, 0x2D40, 8, 9, 5), (0x2D40, 0x2D40, 11, 11, 5),
  (0x2D40, 0x2D40, 13, 13, 5), (0x2E40, 0x2E40, 5, 5, 5), (0x2E40, 0x2E40, 9, 10, 5), (0x2F40, 0x2F40, 3, 5, 5),
  (0x3030, 0x3030, 3, 8, 6), (0x3030, 0x3030, 10, 12, 6), (0x3030, 0x3030, 14, 15, 6), (0x3030, 0x3030, 17, 17, 6),
  (0x3430, 0x3430, 6, 9, 7), (0x3640, 0x3643, 3, 5, 8), (0x3640, 0x3643, 7, 8, 8), (0x3640, 0x3643, 10, 14, 8),
  (0x3640, 0x3643, 17, 17, 8), (0x3670, 0x3671, 4, 7, 8), (0x3840, 0x3847, 3, 3, 9), (0x3840, 0x3847, 7, 9, 9),
  (0x3A10, 0x3A2F, 11, 11, 10), (0x3A50, 0x3A50, 3, 3, 10), (0x3A50, 0x3A50, 5, 6, 10), (0x3C20, 0x3C20, 3, 3, 11),
  (0x3C20, 0x3C20, 6, 6, 11), (0x3C20, 0x3C20, 14, 16, 11), (0x3E20, 0x3E20, 3, 3, 15), (0x3E20, 0x3E20, 5, 5, 15),
  (0x3E20, 0x3E20, 7, 7, 15), (0x3F20, 0x3F20, 3, 3, 12), (0x3F20, 0x3F20, 6, 7, 12), (0x3F50, 0x3F50, 3, 7, 13),
  (0x3F50, 0x3F50, 10, 10, 13), (0x3F50, 0x3F50, 12, 12, 13), (0x3F50, 0x3F50, 14, 14, 13), (0x1250, 0x1250, 1, 2, 14)]

/-- The nibble k of the sum 0x5001.0k that a counter adds into, if any (R48 and the "Objects" rules). -/
def Catalog.errorNibble (o : Nat) : Option Nat :=
  (Catalog.errorRuns.find? fun r =>
    decide (r.1 ≤ o / 256) && decide (o / 256 ≤ r.2.1) && decide (r.2.2.1 ≤ o % 256) && decide (o % 256 ≤ r.2.2.2.1)).map
      fun r => r.2.2.2.2

end Sys2Proof.Machine
end

