-- ==== Sys2Proof/Machine/Map.lean ====
section
/-!
DEFINITION. Sparse tables as plain data: lists of (key, value) pairs in one canonical form, keys strictly rising and no
entry equal to its key's default, so that equal tables are equal lists.
-/

namespace Sys2Proof.Machine

/-- A sparse table: keys strictly rising, no entry equal to the default (`SMap.wf`). -/
abbrev SMap (α : Type) := List (Nat × α)

/-- The value at a key, or the default. -/
def SMap.getD {α : Type} (d : α) (k : Nat) : SMap α → α
  | [] => d
  | e :: m => if e.1 = k then e.2 else SMap.getD d k m

/-- Remove a key. -/
def SMap.erase {α : Type} (k : Nat) : SMap α → SMap α
  | [] => []
  | e :: m => if e.1 = k then SMap.erase k m else e :: SMap.erase k m

/-- Put a value at a key, keeping the keys rising. -/
def SMap.insert {α : Type} (k : Nat) (v : α) : SMap α → SMap α
  | [] => [(k, v)]
  | e :: m => if k < e.1 then (k, v) :: e :: m else if e.1 = k then (k, v) :: m else e :: SMap.insert k v m

/-- Put a value at a key; the key's default value removes the entry. -/
def SMap.put {α : Type} [DecidableEq α] (d : Nat → α) (k : Nat) (v : α) (m : SMap α) : SMap α :=
  if v = d k then SMap.erase k m else SMap.insert k v m

/-- Is every key of the table at least `lo`, rising, and no value the key's default? -/
def SMap.wfFrom {α : Type} [DecidableEq α] (d : Nat → α) : Nat → SMap α → Bool
  | _, [] => true
  | lo, e :: m => decide (lo ≤ e.1) && decide (e.2 ≠ d e.1) && SMap.wfFrom d (e.1 + 1) m

/-- The canonical form. -/
def SMap.wf {α : Type} [DecidableEq α] (d : Nat → α) (m : SMap α) : Bool := SMap.wfFrom d 0 m

/-- Apply a function to every entry and keep the canonical form. -/
def SMap.mapVals {α : Type} [DecidableEq α] (d : Nat → α) (f : Nat → α → α) : SMap α → SMap α
  | [] => []
  | e :: m => if f e.1 e.2 = d e.1 then SMap.mapVals d f m else (e.1, f e.1 e.2) :: SMap.mapVals d f m

/-- The keys of a table. -/
def SMap.keys {α : Type} (m : SMap α) : List Nat := m.map Prod.fst

/-- How many entries satisfy a test. -/
def SMap.count {α : Type} (p : α → Bool) (m : SMap α) : Nat := (m.filter fun e => p e.2).length

/-- Replace element `i` of a list (nothing, beyond its end). -/
def setAt {α : Type} (l : List α) (i : Nat) (v : α) : List α := l.set i v

/-- Change element `i` of a list by a function. -/
def modAt {α : Type} (l : List α) (i : Nat) (f : α → α) : List α := l.modify i f

end Sys2Proof.Machine
end

