-- ==== Sys2Proof/Machine/State.lean ====
section
/-!
DEFINITION. The state of the VN9640 as plain data: everything the spec gives the unit, chapter by chapter, the queue
of waiting commands, and the state right after reset. Objects of the dictionary that behave as stored values stand in
`settings` (RW and WL), `shown` (RO values that a rule writes) and `counters`, under index × 256 + subindex.
-/

namespace Sys2Proof.Machine

/-! ### Records and the recorder (chapter 19) -/

/-- One event record (R601): its octets are those of `Rec.encode`. `src` is the tick count at which it was made. -/
structure Rec where
  seq   : Nat
  code  : Nat
  sev   : Nat
  era   : Nat
  free  : Bool            -- TIME_FREE: the time state was FREE at TIME
  moved : Bool            -- MOVED (R606)
  time  : FT
  items : List Item
  made  : Nat             -- CK_TIME ticks at creation
  deriving DecidableEq, Repr

/-- The interval of one rate limit (R610): its first tick, the records made in it and those withheld; and those withheld in
earlier intervals that no 0xF002 has reported yet (R611). -/
structure RateCell where
  start : Nat
  made  : Nat
  held  : Nat
  prev  : Nat
  deriving DecidableEq, Repr

/-- The event recorder (R599 to R617, R738). -/
structure RecorderSt where
  staged    : List Rec           -- staging buffer in PD_AON, oldest first
  ring      : List (Nat × List Rec) -- sectors of the general ring: octets used and records, the last one being written
  safety    : List Rec           -- SAFETY area, oldest first
  nextSeq   : Nat                -- next SEQ to allocate, in PD_BKP
  era       : Nat                -- time era, in PD_BKP and flash (R609)
  sectors   : Nat                -- sectors of the general ring in service
  rates     : SMap RateCell      -- rate limits, by code × 2^40 + scope
  since     : SMap Nat           -- counts "since the last record", by code × 2^40 + scope × 2^8 + item
  dropped   : Nat                -- records dropped in the present second (R607)
  dropSev   : Nat                -- highest severity dropped in it
  stream    : List Rec           -- records waiting to be streamed (R615)
  skipped   : Nat                -- records that left staging before they were sent, since the previous datagram
  deriving DecidableEq, Repr

/-! ### What leaves the unit -/

/-- What leaves the unit at a command. The list `State.out` of these is the model's own log (assumption 3): the spec
gives the unit no such store. -/
inductive Out where
  /-- A result code answered to a dictionary write that a row of its own stands for (R571). -/
  | answer (port sess obj code : Nat)
  /-- The answer to a dictionary read that a row of its own stands for: result code and octets. -/
  | value (port sess obj code : Nat) (v : List Byte)
  /-- A message of the dictionary service, inside a DTLS record (R585): port, session, source address (R430), message. -/
  | dtls (port sess : Nat) (source msg : List Byte)
  /-- A DTLS alert that ends a handshake or a session (R584, R692). -/
  | alert (port sess : Nat)
  /-- A CAN FD frame: port, identifier, octets. -/
  | can (port ident : Nat) (msg : List Byte)
  /-- A classical CAN frame (R434): port, identifier, octets. -/
  | canClassical (port ident : Nat) (msg : List Byte)
  /-- An Ethernet frame: port, octets from the destination address to the FCS (R431). -/
  | eth (port : Nat) (frame : List Byte)
  /-- An SPI transaction with a transceiver (R347): port, octets from the opcode on. -/
  | spi (port : Nat) (octets : List Byte)
  /-- A pulse on AIRn_RST_L (R349). -/
  | airReset (port : Nat)
  /-- A Field Air frame on air: port, channel, PSDU with its FCS (R361). -/
  | air (port chan : Nat) (psdu : List Byte)
  /-- A frame of the Akris link on a lane, with header and CRC (R535). -/
  | link (lane : Nat) (frame : List Byte)
  /-- A comparator edge: comparator, owner code, target, late. -/
  | edge (k owner : Nat) (target : FT) (late : Bool)
  /-- The stop strobe on AIRn_STROBE of the ports of a mask (R387). -/
  | strobe (mask : Nat)
  /-- An edge of PPS_OUT with its fine delay in units of 250 ps and the level it leaves (R168, R169). -/
  | pps (at_ : FT) (fine : Nat) (level : Bool)
  /-- A request of the operating record streams: the trace datagram (R342): sink, records. -/
  | trace (sink : List Byte) (count : Nat)
  deriving DecidableEq, Repr

/-! ### The input log (chapter 07, R231 to R233, R541) -/

/-- An input: its log entry number (R541), source code, stamp and data octets. `commit` tells apart the commits whose
writes are logged (R291: the writes of one commit are applied together); it is 0 for every other source. -/
structure LogEntry where
  num    : Nat
  source : Nat
  stamp  : FT
  data   : List Byte
  commit : Nat
  deriving DecidableEq, Repr

/-- INGEST and SORT (R231 to R236). -/
structure IngestSt where
  held     : List LogEntry   -- inputs stamped and not yet logged, in the order of R232, at most 256
  unsorted : List LogEntry   -- logged inputs that SORT has not classified
  next     : Nat             -- next log entry number, modulo 2^32
  outbox   : List LogEntry   -- logged inputs not yet sent to the peer (R541)
  after    : Option Nat      -- first entry sorted whose stamp lies after the latest snapshot (R553 section 1)
  deriving DecidableEq, Repr

/-! ### Field Time (chapter 02) -/

/-- The time states of R64, in the order of their encodings 1 to 5. -/
inductive TimeState where
  | lockedGnss | lockedPtpA | lockedPtpB | holdover | free
  deriving DecidableEq, Repr

/-- The encoding of R64. -/
def TimeState.code : TimeState → Nat
  | .lockedGnss => 1 | .lockedPtpA => 2 | .lockedPtpB => 3 | .holdover => 4 | .free => 5

/-- The discipline sources in the order of preference (R58). -/
inductive Src where
  | gnss | ptpA | ptpB
  deriving DecidableEq, Repr

/-- A forward step (R61) or an initial alignment (R68) decided and pending until Field Time reaches the second `sec`
(R740). `delta` is in units of 2^-32 ns. -/
structure PendingStep where
  src   : Src
  sec   : Nat
  delta : Int
  align : Bool
  deriving DecidableEq, Repr

/-- One Field Time comparator (R73, R74): the owner code of 0x2020, the LATE flag, the armed target and the rearm
period in ns (0: single). -/
structure Comparator where
  owner  : Nat
  late   : Bool
  target : Option FT
  period : Nat
  deriving DecidableEq, Repr

/-- The Field Time block (R51 to R84, R740). -/
structure TimeSt where
  now        : FT
  ticks      : Nat                 -- CK_TIME edges since power-on (rate limits and durations, R610)
  hb         : Nat                 -- CK_HB counts since power-on (R78, R81)
  freq       : Int                 -- frequency term, units of 2^-32 ns
  phase      : Int                 -- phase term
  nextTerms  : Option (Int × Int)  -- terms that take effect on the next CK_TIME edge (R57)
  state      : TimeState
  selected   : Option Src
  everSelected : Bool              -- some source was selected since reset (R63)
  aligned    : Bool                -- the initial alignment of R68 is done
  served     : Bool                -- the unit entered SOLO, ACTIVE or STANDBY since reset (R68)
  remaining  : Int                 -- phase still to be slewed, units of 2^-32 ns (0x2003)
  holdStart  : FT                  -- when holdover began (R65)
  estimate   : Nat                 -- 0x2004, ns
  pending    : Option PendingStep
  pendingSet : Option Nat          -- accepted owner time-set: whole seconds V (R67)
  gnssSuspect : Bool               -- GNSS marked suspect by R60
  gnssDelta  : Int                 -- latest offset of GNSS time, units of 2^-32 ns
  validGnss  : Option Nat          -- tick since which GNSS has been valid (R59)
  validA     : Option Nat          -- likewise PTP domain A
  validB     : Option Nat          -- likewise PTP domain B
  comparators : List Comparator    -- the 32 comparators
  refLost    : Bool                -- PLL control words frozen (R82)
  deriving DecidableEq, Repr

/-! ### GNSS (chapters 03, 04, 05) -/

/-- The chain states of R107, in the order of their encodings 0 to 5. -/
inductive ChainState where
  | off | start | normal | adapt | settle | excluded
  deriving DecidableEq, Repr

/-- The encoding of 0x240F bits 2:0. -/
def ChainState.code : ChainState → Nat
  | .off => 0 | .start => 1 | .normal => 2 | .adapt => 3 | .settle => 4 | .excluded => 5

/-- A Lint trap: the fields of its trap word (R98), STATE 0 OFF, 1 ADAPTING, 2 HELD; consecutive blocks with its bins
within 3 dB of the median, and the tick since which its interferer has been below 0x2409 − 6 dB (R101). -/
structure Trap where
  state : Nat
  depth : Nat
  width : Nat
  peak  : Nat
  freq  : Int
  run   : Nat
  low   : Option Nat
  deriving DecidableEq, Repr

/-- One RF chain (R87 to R109). -/
structure Chain where
  state     : ChainState
  cause     : Nat              -- exclusion cause: 0 none, 1 episode, 2 antenna
  exhausted : Bool             -- TRAPS_EXHAUSTED
  gain      : Nat              -- gain word, 0.5 dB
  gRef      : Int              -- G_ref, units of 1/36,000 dB (R93)
  fresh     : Bool             -- its start-up adaptation has not ended: G_ref has no initial value yet (R93)
  gains     : List (Nat × Nat) -- gain words of the last 24 h: tick since which in force, word; newest first (R93)
  gainSum   : Nat              -- gain words of the blocks of the present fleet cycle, and their number (R104)
  gainCount : Nat
  ji        : Nat
  jamRun    : Nat              -- consecutive slot-0 evaluations at or above 0x2407 (R105)
  triggers  : Nat              -- cause mask collected since the last slot 0 (R108)
  episode   : Bool             -- a recovery episode is open
  began     : Nat              -- tick at which it, or START, began
  since     : Nat              -- tick of entry into the present state
  cand      : Option Int       -- candidate bin that the latest average showed (R102), and the tick at which it appeared
  candTick  : Nat
  restarts  : Nat
  ready     : Bool             -- SETTLE is over; NORMAL at the next slot 0
  traps     : List Trap
  notch     : List Trap        -- the held set that measurements are corrected for (R103)
  deriving DecidableEq, Repr

/-- One antenna port (R94 to R97). -/
structure AntPort where
  status   : Nat               -- 0x2402
  closed   : Bool              -- the supply switch
  lowSince : Option Nat        -- tick since which the current has been below 3 mA
  shorts   : List Nat          -- ticks of the SHORT events of the last 60 s
  deriving DecidableEq, Repr

/-- The channel states of R132, in the order of their encodings 0 to 5. -/
inductive ChanState where
  | idle | search | pullIn | track | locked | reacquire
  deriving DecidableEq, Repr

/-- The encoding of R144. -/
def ChanState.code : ChanState → Nat
  | .idle => 0 | .search => 1 | .pullIn => 2 | .track => 3 | .locked => 4 | .reacquire => 5

/-- NCO words on their way to a dump boundary (R126): carrier, code, code phase shift in samples. -/
structure NcoWords where
  carrier : Int
  code    : Int
  shift   : Int
  deriving DecidableEq, Repr

/-- One tracking channel (R115 to R136). An IDLE channel holds a signal only while it waits to ask for its search again
(R130). Code and carrier phase stand as at its latest dump boundary. -/
structure Chan where
  state    : ChanState
  signal   : Nat
  sv       : Nat
  gloK     : Nat               -- as W0 45:42 of R142
  entry    : Nat               -- tick of entry into the present state
  cn0      : Nat
  doppler  : Int               -- Hz
  lock     : Nat               -- LOCK_TIME
  slip     : Bool
  fails    : Nat               -- failed searches in a row
  weak     : Option Nat        -- tick since which C/N0 has been below 0x2439
  refused  : Option Nat        -- fleet cycle in which the full queue turned its request away (R130)
  carrier  : Int               -- F_c and F_k in force
  code     : Int
  next     : Option NcoWords   -- words of the next boundary, and of the one after it
  later    : Option NcoWords
  phase    : Nat               -- carrier phase accumulator, 32 bits, and cycle count, 32 bits (R123)
  cycles   : Nat
  samples  : Nat               -- samples accumulated into it
  chips    : Nat               -- chips within the primary code, and 32-bit fraction (R124)
  frac     : Nat
  periods  : Nat               -- primary code periods completed
  tow      : Option Nat        -- transmit time at the boundary, ms of the week (GLONASS: of the day), once known (R142, R146)
  half     : Bool              -- the half-cycle ambiguity is resolved
  offM     : Int               -- code offset of tap M in 1/64 chip (R121)
  hist     : List Taps         -- the latest 1,000 dumps, newest first
  due      : Nat               -- of them, those that no loop update has processed
  cohs     : List (Nat × Int × Int) -- coherent sums of the present state, newest first: interval in ms, I, Q (R135)
  loop     : List Int          -- the carrier loop's own memory
  deriving DecidableEq, Repr

/-- What the checks keep of a signal on a chain (R158 to R161). -/
structure Sig where
  excluded  : Bool
  check     : Nat              -- the check that excluded it
  passes    : Nat              -- consecutive epochs passed
  times     : List Nat         -- ticks of its exclusions, newest first, at most three
  multipath : Bool
  clean     : Nat              -- seconds for which both multipath metrics have stayed below their limits
  cmc       : List Int         -- pseudorange minus carrier range of its latest 3,600 epochs, newest first, 2^-20 m
  deriving DecidableEq, Repr

/-- A search request (R127): its channel, REACQUIRE or SEARCH, the Doppler it is centred on. -/
structure Search where
  chan    : Nat
  again   : Bool
  doppler : Int
  deriving DecidableEq, Repr

/-- A search on an engine (R127 to R129): its request, half the number of Doppler bins beside the centre, bin width in Hz, T_coh
in ms, n, the chain captured, whether on the pilot, and the tick at which it is complete. -/
structure Engine where
  req   : Search
  side  : Nat
  width : Nat
  tcoh  : Nat
  sums  : Nat
  chain : Nat
  pilot : Bool
  done  : Nat
  deriving DecidableEq, Repr

/-- The ephemerides of a satellite (R156): the one in use, and the latest that differs from it with the tick at which it was
first decoded. -/
structure Ephemeris where
  used : Option (List Byte)
  cand : Option (List Byte × Nat)
  deriving DecidableEq, Repr

/-- A navigation record (R147). -/
structure NavRec where
  seq    : Nat
  signal : Nat
  sv     : Nat
  chain  : Nat
  fail   : Bool
  first  : FT
  length : Nat
  row    : Nat
  data   : List Byte
  deriving DecidableEq, Repr

/-- PPS_OUT and its message (R167 to R177): the pulse due and what its message predicted, in units of 2^-32 ns. -/
structure PpsSt where
  due       : Option FT        -- D of the pulse that comparator 1 is armed for
  predicted : Int
  prevQ     : Int              -- q of the previous pulse, 0 if it was suppressed
  width     : Nat              -- 0x2472 and 0x2473 in force for it (R173)
  falling   : Bool
  active    : Bool             -- the ball is at its active level
  seq       : Nat
  announced : Bool             -- the latest message carried STEP_AT_PULSE
  surprise  : Bool             -- a step or set that its message did not announce
  deriving DecidableEq, Repr

/-- The GNSS baseband. -/
structure GnssSt where
  chains   : List Chain
  ports    : List AntPort      -- ANT_A, ANT_B
  bankMap  : Nat               -- the bank map in force
  chans    : SMap Chan         -- channels that are not as after reset
  queue    : List Search       -- oldest first, at most 64
  engines  : List (Option Engine)
  barred   : List (Nat × Nat)  -- chain × 65536 + signal × 256 + satellite unavailable to allocation, until a tick
  sigs     : SMap Sig          -- what the checks keep, by chain × 65536 + signal × 256 + satellite
  ephs     : SMap Ephemeris    -- by constellation × 256 + satellite
  meas     : SMap MeasRec      -- latest record of each channel
  epoch    : Nat               -- fleet cycle of the latest epoch
  recorded : List Nat          -- channels recorded at it
  prev     : SMap MeasRec      -- the records of the epoch one fleet cycle before it
  released : Bool              -- its records have been released (R151, R152)
  nav      : List NavRec       -- newest first, at most 1,024
  navNext  : Nat               -- SEQ of the next navigation record
  clockRun : Nat               -- consecutive epochs beyond the limit of C6
  clock    : Option (Nat × Nat × Int) -- latest GNSS time solution: fleet cycle, tick, offset from Field Time in 2^-32 ns
  bands    : List (Nat × Int × Int) -- LB-only and UB-only clock offsets of the last 3,600 s: tick, offsets (C4)
  used     : Nat               -- satellites in the GNSS time solution of the latest epoch
  pps      : PpsSt
  deriving DecidableEq, Repr

/-! ### Dataflow scheduler and decision trace (chapter 10) -/

/-- One operand in the matching store (R323): its slot, whether the slot is a reserved one of its priority (R324), its
instance and place, the stamp of its post, and the speculation it belongs to (R328). -/
structure Operand where
  slot     : Nat
  reserved : Bool
  template : Nat
  key      : Nat
  index    : Nat
  cls      : Nat
  places   : Nat                -- operand count n of its template
  stamp    : FT
  spec     : Option Nat
  deriving DecidableEq, Repr

/-- An operation: ready, or running on a core (R330, R331). -/
structure Operation where
  template : Nat
  key      : Nat
  cls      : Nat
  prio     : Nat                -- ready queue it stands in (R334)
  ready    : FT
  slot     : Nat                -- slot of its last operand
  spec     : Option Nat
  deriving DecidableEq, Repr

/-- A core at its scheduler port: state as 0x2F04, the tick since which it is blocked, what it runs and since when. -/
structure Core where
  state  : Nat
  since  : Nat
  op     : Option Operation
  handed : FT
  handedHb : Nat                -- CK_HB count at the handing (R335)
  deriving DecidableEq, Repr

/-- A record of the decision trace: words W0 and W1 (R339, R340). -/
structure TraceRec where
  w0 : Nat
  w1 : Nat
  deriving DecidableEq, Repr

/-- The scheduler (R321 to R344). -/
structure SchedSt where
  store     : List Operand
  ready     : List Operation
  cores     : List Core
  high      : Nat               -- 0x2F02
  trace     : List TraceRec     -- newest first, at most 65,536
  head      : Nat               -- 0x2F30
  sent      : Nat               -- number of the next record to be streamed (R342)
  specNext  : Nat               -- number of the next speculation
  withdrawn : List Nat          -- withdrawn speculations (R329)
  deriving DecidableEq, Repr

/-! ### Stopping the fleet (chapter 12) -/

/-- An accepted release (R399, R400): acceptance instant, t_r, route and key slot. -/
structure Release where
  accepted : FT
  due      : FT
  route    : Nat
  slot     : Nat
  deriving DecidableEq, Repr

/-- The stop path (R384 to R406). A level is `true` at stop level (low). -/
structure StopSt where
  latch       : Bool
  mask        : Nat              -- bits of R385
  discrepancy : Bool
  outFault    : Bool             -- STOPOUT_FAULT
  release     : Option Release
  inA         : Bool
  inB         : Bool
  key         : Bool
  bothStop    : Bool             -- both inputs stood at stop level together since DISCREPANCY was set
  firstRun    : Option Nat       -- CK_HB count at which the first of the two then returned to run level
  apart       : Option Nat       -- CK_HB count since which the two differ, until that is a discrepancy (R390)
  since       : FT               -- 0x3404
  setTick     : Nat              -- tick at which the latch was set
  faultTick   : Nat              -- tick of the latest STOPOUT fault (R405)
  lastResult  : Nat              -- 0x3403
  counters    : List Nat         -- 0x3421, last accepted COUNTER per key slot, in PD_BKP
  stored      : List Nat         -- copy of it in the secure store (R395)
  logged      : Nat × Nat        -- stop state as last logged (R553 section 9): state, mask
  quietUntil  : FT               -- no STOP frame in a slot that begins earlier (R398)
  safeTick    : Nat              -- tick of entry into SAFE
  strobeHb    : Nat              -- CK_HB count of entry into SAFE, then of the latest strobe there (R406)
  deriving DecidableEq, Repr

/-! ### Ethernet and CAN FD (chapter 13) -/

/-- An entry of an ARP cache (R428): address, MAC and the tick of its making. -/
structure ArpEntry where
  ip    : List Byte
  mac   : List Byte
  since : Nat
  deriving DecidableEq, Repr

/-- A next hop that ARP has not resolved (R429): requests sent, the tick of the latest, and the one datagram held for it: its
class (R432), whether it leaves from the role address (R430), its destination, its IPv4 packet. -/
structure ArpWait where
  hop   : List Byte
  tries : Nat
  since : Nat
  cls   : Nat
  role  : Bool
  dst   : List Byte
  pkt   : List Byte
  deriving DecidableEq, Repr

/-- A frame that waits to be transmitted (R432): what leaves, and its length in octets with the FCS. -/
structure TxItem where
  out  : Out
  size : Nat
  deriving DecidableEq, Repr

/-- A datagram in reassembly (R421): its key (source, identification, protocol), first fragment's tick, the fragments by
offset, and the length of its data once the last fragment is in. -/
structure Reassembly where
  key   : List Byte
  since : Nat
  parts : List (Nat × List Byte)
  total : Option Nat
  deriving DecidableEq, Repr

/-- One Ethernet port (R415 to R433). -/
structure EthPort where
  link   : Nat                 -- LINK_STATUS (0x3601)
  queues : List (List Nat)     -- octets occupied by each frame of queues 0–7, oldest first
  frags  : List Reassembly
  arp    : List ArpEntry
  waits  : List ArpWait
  icmpStart : Nat              -- tick at which the present second of echo replies began
  icmpCount : Nat              -- echo replies sent in it
  tx     : List (List TxItem)  -- transmit queues of classes 0 to 3, oldest first (R432)
  busy   : Nat                 -- tick at which the frame in transmission ends
  deriving DecidableEq, Repr

/-- One CAN FD port (R434 to R439). -/
structure CanPort where
  state  : Nat                 -- 0x3665
  errors : Nat                 -- 0x3666
  seq    : Nat                 -- SEQ of the next status frame
  node   : Nat                 -- settings in force (R439)
  nominal : Nat
  data   : Nat
  rx     : Nat                 -- frames in the receive buffer (R436)
  queue  : List (Nat × List Byte) -- frames that wait to be sent while the port is off the bus: identifier, octets
  deriving DecidableEq, Repr

/-- The network ports. -/
structure NetSt where
  eth  : List EthPort
  can  : List CanPort
  garp : Nat                   -- gratuitous ARP requests of the live role identity still to be sent (R427)
  garpAt : Nat                 -- tick of the latest of them
  deriving DecidableEq, Repr

/-! ### Network time and timed I/O (chapter 14) -/

/-- An entry of a timestamp queue (R457). `kind` 1 receive stamp, 2 transmit stamp, 3 gap marker. -/
structure TsEntry where
  kind    : Nat
  domSel  : Nat
  msgType : Nat
  domNum  : Nat
  seqId   : Nat
  gap     : Nat
  portNum : Nat
  clockId : Nat
  stamp   : FT
  deriving DecidableEq, Repr

/-- A PTP exchange in progress at a slave or peer-delay port: a message number, the own transmit and receive stamps, the
stamp the other side gave, and the correction so far, waiting for the message that completes it. -/
structure PtpWait where
  port   : Nat
  seqId  : Nat
  sent   : FT
  got    : FT
  remote : FT
  corr   : Int
  deriving DecidableEq, Repr

/-- The peer delay of one port in a peer-to-peer domain: exchange in progress, its mean, the tick of the latest. -/
structure PeerPort where
  wait  : Option PtpWait
  delay : Int
  last  : Option Nat
  deriving DecidableEq, Repr

/-- A foreign master that a port has heard (R442): its port identity, the dataset of its latest Announce, the ticks of its
latest two. -/
structure Foreign where
  clock   : Nat
  portNum : Nat
  data    : GmData
  times   : List Nat
  deriving DecidableEq, Repr

/-- One PTP domain (R448 to R455). Offsets and delays are in units of 2^-32 ns. -/
structure PtpDomain where
  states    : List Nat            -- portState of ETH0 … ETH3 (0x2044, 0x2045)
  gm        : Option GmData
  parent    : Nat × Nat           -- clockIdentity and portNumber of the master it follows
  offset    : Int                 -- Δ of R451
  filtered  : Int                 -- the servo's filtered offsetFromMaster
  delay     : Int                 -- mean path delay (end-to-end)
  cause     : Nat                 -- suspect cause, 0 none (R452, R453)
  jumpRun   : Nat                 -- consecutive innovations beyond 0x2048
  goodSince : Option Nat          -- tick since which the domain is valid with every innovation within 0x2048 (R454)
  lastSync  : Option Nat          -- tick of the last complete Sync measurement
  syncLog   : Int                 -- the master's logSyncInterval
  lastDelay : Option Nat          -- tick of its latest measurement
  waitSync  : Option PtpWait      -- two-step Sync awaiting its Follow_Up
  waitDelay : Option PtpWait      -- Delay_Req sent, awaiting its Delay_Resp
  peers     : List PeerPort       -- peer delays of ETH0 … ETH3
  syncT1    : FT                  -- the master's origin stamp of the latest Sync, corrections added
  syncT2    : FT                  -- own receive stamp of the latest Sync
  seqSync   : Nat                 -- sequenceId of the next Sync sent
  seqReq    : Nat                 -- sequenceId of the next Delay_Req or Pdelay_Req sent
  seqAnn    : Nat                 -- sequenceId of the next Announce sent
  servo     : List Int            -- what the servo keeps between measurements (R451)
  foreign   : List (List Foreign) -- foreign masters of ETH0 … ETH3
  heard     : List Nat            -- tick of the latest Announce at ETH0 … ETH3, or of entering LISTENING
  deriving DecidableEq, Repr

/-- One entry of a capture queue (R467). -/
structure CapEntry where
  stamp : FT
  edge  : Nat
  lost  : Nat
  seq   : Nat
  deriving DecidableEq, Repr

/-- One timed I/O pin (R460 to R468). -/
structure TioPin where
  running : Bool
  active  : Bool                -- the pattern is in its active phase
  held    : Bool                -- the output stage holds the ball inactive until the next active edge (R463)
  late    : Bool                -- late since the last read (0x2080 + k .08)
  left    : Nat                 -- pulses left; 0 with `endless`
  endless : Bool
  next    : Option FT           -- next active edge
  off     : Option FT           -- inactive edge of the pulse that is active
  queue   : List CapEntry
  lost    : Nat                 -- edges lost since the previous entry
  seq     : Nat                 -- edges stamped since capture mode was entered
  lastEdge : Option FT          -- previous edge of the pin
  deriving DecidableEq, Repr

/-- Network time (R442 to R459) and timed I/O (R460 to R468). -/
structure PtpSt where
  domA    : PtpDomain
  domB    : PtpDomain
  crossRun : Nat                -- consecutive cross-check failures (R455)
  queues  : List (List TsEntry) -- timestamp queues of ETH0 … ETH3, oldest first
  utcValid : Bool               -- currentUtcOffsetValid (R449)
  tio     : List TioPin         -- TIO0 … TIO15
  deriving DecidableEq, Repr

/-! ### Gate axes (chapter 15) -/

/-- The axis states of R475, in the order of their encodings 0 to 6. -/
inductive AxisState where
  | disabled | unhomed | homing | idle | moving | stopping | fault
  deriving DecidableEq, Repr

/-- The encoding of 0x3810 + n .01. -/
def AxisState.code : AxisState → Nat
  | .disabled => 0 | .unhomed => 1 | .homing => 2 | .idle => 3 | .moving => 4 | .stopping => 5 | .fault => 6

/-- Where a ramp ends at standstill (R475). -/
inductive Landing where
  | idle
  | unhomed
  | fault (cause : Nat)
  deriving DecidableEq, Repr

/-- A gate move (R489): position 0–3 and start. -/
structure GateMove where
  pos   : Nat
  start : FT
  deriving DecidableEq, Repr

/-- What a plan does: a move to its target (R477), a ramp to standstill (R492, R493), or the creep of a homing, at one speed
without a ramp (R482). -/
inductive PlanKind where
  | move | ramp | creep
  deriving DecidableEq, Repr

/-- The motion of an axis since `start`, along the line from `origin` to `target`: the ideal distance covered, velocity and
acceleration at `start`, and the limits. Distances count in units of 5 × 10⁻¹⁹ step, velocities in 10⁻⁹ steps/s, the initial
acceleration in 10⁻¹⁸ steps/s². -/
structure Plan where
  kind    : PlanKind
  start   : FT
  byTicks : Option Nat         -- the tick of `start`, for a plan that counts CK_TIME ticks (R493)
  origin  : Int
  target  : Int
  done    : Nat
  speed   : Nat
  acc     : Int
  vmax    : Nat
  accel   : Nat
  decel   : Nat
  jerk    : Nat
  profile : Nat
  deriving DecidableEq, Repr

/-- The phases of a homing sequence (R482). -/
inductive HomePhase where
  | none | fast | decelerating | creep
  deriving DecidableEq, Repr

/-- The current of an axis (R485): none while the driver is off, hold, or run. -/
inductive Current where
  | off | hold | run
  deriving DecidableEq, Repr

/-- One gate axis (R471 to R497). -/
structure Axis where
  state    : AxisState
  cause    : Nat
  pos      : Int               -- counter at standstill, steps; while a plan runs the counter is the plan's
  target   : Int               -- 0x3810 + n .08
  current  : Current
  raise    : Nat               -- codes by which IREF stands above I_RUN (R486)
  load     : Nat               -- filtered load
  inputs   : Nat               -- bits 0–2: HOME, LIM_P, LIM_N active after filter and polarity
  landing  : Landing
  ramping  : Bool              -- a stop ramp runs (STOPPING, or a homing being stopped)
  plan     : Option Plan
  changed  : Option FT         -- the boundary at which committed limits act on the move (R480)
  start    : Option (FT × Int) -- accepted TARGET that waits for its start instant (R479)
  armed    : List GateMove     -- armed gate moves, in order of start
  phase    : HomePhase
  homeFrom : Int               -- counter at the start of the homing
  enPos    : Int               -- counter at which EN last rose (R482 method 1)
  peakIref : Nat               -- highest IREF code and load since the last rise from I_RUN
  peakLoad : Nat
  lastStep : Option Nat        -- tick of the last step, until IREF is at hold (R485)
  boosted  : Option Nat        -- tick of the last step of the boost (R486)
  loadHigh : Option Nat        -- tick since which the filtered load exceeds LOAD_THRESH
  en       : Bool              -- AXn_EN
  dir      : Bool              -- AXn_DIR
  diverged : Bool              -- R548
  deriving DecidableEq, Repr

/-! ### Nodes, segments, reservations (chapter 08) -/

/-- A node entry (R256). -/
structure Node where
  east  : Int
  north : Int
  up    : Int
  valid : Bool
  kind  : Nat
  tag   : Nat
  deriving DecidableEq, Repr

/-- A segment entry (R257); `inc` holds the eight INC fields as (USED, segment). -/
structure Seg where
  valid     : Bool
  closed    : Bool
  oneWay    : Bool
  src       : Nat
  dst       : Nat
  length    : Nat
  speed     : Nat
  halfWidth : Nat
  gated     : Bool
  gateAxis  : Nat
  gatePos   : Nat
  tag       : Nat
  inc       : List (Bool × Nat)
  deriving DecidableEq, Repr

/-- STATE of a reservation entry (R260). -/
inductive ResState where
  | free | speculative | confirmed | held
  deriving DecidableEq, Repr

/-- A reservation entry (R260); windows in the millisecond count of R261. -/
structure Resv where
  state   : ResState
  cause   : Nat
  machine : Nat
  seg     : Nat
  leg     : Nat
  start   : Nat
  stop    : Nat
  deriving DecidableEq, Repr

/-- A decision-side dictionary write as logged (R231, R541): the commit it belongs to, its object, the entry selected
at its staging, and its octets. -/
structure Edit where
  commit : Nat
  stamp  : FT
  obj    : Nat
  sel    : Nat
  value  : List Byte
  deriving DecidableEq, Repr

/-- A leg entered at the snapshot and not yet checked (R270, R276): the machine, its LEG, its entries in route order and
the number of its speculation. -/
structure Leg where
  machine : Nat
  leg     : Nat
  entries : List Nat
  spec    : Nat
  deriving DecidableEq, Repr

/-- Nodes, segments, reservations and what RESERVE keeps (R256 to R296). -/
structure TracksSt where
  nodes    : SMap Node
  segs     : SMap Seg
  res      : SMap Resv
  edits    : List Edit             -- TABLE_EDIT inputs not yet taken by a snapshot
  legs     : List Leg              -- legs under check, in the order of R277
  open_    : Bool                  -- the conflict check of the present cycle has not ended
  checked  : List Leg              -- legs that the latest check confirmed (R253)
  moves    : List (Nat × GateMove) -- gate moves handed to COMPOSE
  gateHold : List Nat              -- axes whose faults hold their segments (R285)
  planned  : List Nat              -- planned positions, 0x2D20 + g .07 bits 1:0
  seen     : Nat × List Nat        -- cycle, and machine × 8 + cause recorded under 0x5011 in it (R289)
  freed    : List (Nat × Nat)      -- releases of HELD entries not yet recorded: machine, how (0 by rule, 1 by command) (R289)
  deriving DecidableEq, Repr

/-! ### Tasks (chapter 09) -/

/-- STATE of a task (R298). -/
inductive TaskState where
  | empty | waiting | open_ | awarded | running | done | failed | cancelled
  deriving DecidableEq, Repr

/-- The encoding of R298. -/
def TaskState.code : TaskState → Nat
  | .empty => 0 | .waiting => 1 | .open_ => 2 | .awarded => 3 | .running => 4 | .done => 5 | .failed => 6
  | .cancelled => 7

/-- A task entry (R298) and what ALLOT keeps of it: the start of the timer of 0x2E01 and the snapshots under stop before
it (R307), the entry into a final state, and the machines barred until an instant (R305). -/
structure Task where
  state     : TaskState
  prio      : Nat
  kind      : Nat
  machine   : Nat
  startNode : Nat
  endNode   : Nat
  classes   : Nat
  retries   : Nat
  expire    : Bool
  release   : Nat
  work      : Nat
  deadline  : Nat
  energy    : Nat
  tag       : Nat
  param     : Nat
  award     : Nat
  progress  : Nat
  cause     : Nat
  route     : List Nat             -- route of the award (R314)
  timer     : Option (FT × Nat)
  final     : FT
  bars      : List (Nat × FT)
  deriving DecidableEq, Repr

/-- A task report as queued by SORT (R234, R317). -/
structure Report where
  machine  : Nat
  task     : Nat
  award    : Nat
  code     : Nat
  progress : Nat
  stamp    : FT
  deriving DecidableEq, Repr

/-- A revocation under repetition (R316): machine, unit octets, cycles left. -/
structure Revoke where
  machine : Nat
  task    : Nat
  body    : List Byte
  left    : Nat
  deriving DecidableEq, Repr

/-- The task table and what ALLOT keeps (R298 to R320). -/
structure TasksSt where
  tasks   : SMap Task
  saved   : SMap Task              -- copy in the settings area (R302)
  tau     : SMap Nat               -- τ of the segments where it differs from the nominal time (R308)
  edits   : List Edit              -- inputs not yet taken by a snapshot
  reports : List Report
  inEdits : List Edit              -- inputs of the snapshots that no ALLOT run has applied (R304)
  inReports : List Report
  due     : Bool                   -- the ALLOT run of the present cycle has not completed
  revokes : List Revoke
  passages : List (Nat × Nat)      -- segment and measured time of passages ended since the last run (R308)
  deriving DecidableEq, Repr

/-! ### Machines (chapters 06, 07, 11) -/

/-- A position record (R219). `status` holds bits 2:0, the three flags stand apart. -/
structure PosRec where
  machine : Nat
  status  : Nat
  aged    : Bool
  long    : Bool
  newFix  : Bool
  epoch   : Nat
  east    : Int
  north   : Int
  up      : Int
  velE    : Int
  velN    : Int
  velU    : Int
  sigH    : Nat
  sigU    : Nat
  nsat    : Nat
  ratio   : Nat
  age     : Nat
  deriving DecidableEq, Repr

/-- A position as the snapshot sees it (R239): the end of its uplink slot, its epoch instant, the record and whether it
is a stand-in. -/
structure Fix where
  end_    : FT
  epochAt : FT
  pos     : PosRec
  standIn : Bool
  deriving DecidableEq, Repr

/-- A STATUS entry (R371). -/
structure StatusIn where
  battery : Nat
  flags   : Nat
  sleep   : Nat
  stamp   : FT
  snaps   : Nat                    -- snapshots under stop before its stamp (R307)
  fresh   : Bool                   -- no snapshot has taken it
  deriving DecidableEq, Repr

/-- A ROUTE entry (R371), with the source code of its frame for R277. -/
structure RouteIn where
  speed  : Nat
  segs   : List Nat
  stamp  : FT
  source : Nat
  fresh  : Bool
  deriving DecidableEq, Repr

/-- A run of positions inside a segment's corridor (R308): the node it was entered by, first and last epoch in ms. -/
structure PassRun where
  seg   : Nat
  entry : Option Nat
  first : Nat
  last  : Nat
  deriving DecidableEq, Repr

/-- The link states of R377, in the order of 0x3022 bits 1:0. -/
inductive LinkState where
  | absent | joining | associated | adrift
  deriving DecidableEq, Repr

/-- The encoding of 0x3022 bits 1:0. -/
def LinkState.code : LinkState → Nat
  | .absent => 0 | .joining => 1 | .associated => 2 | .adrift => 3

/-- A Field Obs at the Solve engine (R237): end of its slot, its epoch's cycle number, what it holds, and whether its stand-in
was used. -/
structure SolveWait where
  end_    : FT
  cycle   : Nat
  obs     : Obs
  standIn : Bool
  deriving DecidableEq, Repr

/-- One machine, 1 to 128: the Solve filter (R210 to R217), the Field Air link (R373 to R379), its latest entries and
what RESERVE and ALLOT keep of it. -/
structure Machine where
  rtk      : Solver
  spec     : Nat                   -- number of the speculation open for its provisional fix, 0 none
  newSpec  : Nat                   -- and for provisional newcomers (R217)
  stale    : Bool                  -- inside a run of epochs without base observables (R206)
  lastEpoch : Option Nat
  lastObs  : FT
  wait     : Option SolveWait
  exchange : Option FT             -- end of the slot of its latest exchange (R215), until that is evaluated
  provOpened : Nat
  provConfirmed : Nat
  provWithdrawn : Nat
  sent     : Option PosRec         -- last position record sent (R237)
  fixes    : List Fix              -- newest first, at most three
  snap     : Option Fix            -- as the latest snapshot holds it
  status   : List StatusIn         -- STATUS entries not yet behind a snapshot, newest first, and the last it took (R239)
  snapStatus : Option StatusIn
  pairFall : List (Nat × Nat)      -- battery fall (0.1 %) and ns of the STATUS pairs that no ALLOT run has used (R309)
  pairFix  : Option Fix            -- position at the snapshot that took the latest STATUS
  route    : List RouteIn          -- the same of ROUTE
  snapRoute : Option RouteIn
  leg      : Nat
  drain    : Option Nat            -- D_k, none while it stands at 0x2E12
  runs     : List PassRun
  link     : LinkState
  port     : Nat
  slot     : Nat
  period   : Nat
  change   : Option (Nat × Nat)    -- new PERIOD and EFFECTIVE (R378)
  contact  : FT
  epsilon  : Int                   -- units of 2^-32 ns
  missed   : Nat
  seq      : Nat                   -- 0x100 none
  rssi     : Int
  joinSent : Option Nat            -- cycle in which its JOIN_RESP was sent
  snapLink : LinkState             -- as the latest snapshot holds it
  deriving DecidableEq, Repr

/-! ### The pipeline (chapter 07) -/

/-- A downlink unit (R367): its type, machine, REF of R542, body, the instant it reached LAUNCH and the last instant at
which its slot may begin. -/
structure DownUnit where
  kind    : Nat
  machine : Nat
  ref     : Nat
  body    : List Byte
  since   : FT
  limit   : FT
  deriving DecidableEq, Repr

/-- What an ALLOT run changes, as it was before (R243, R253): the tasks, and D_k and the STATUS pairs of every machine. -/
structure AllotUndo where
  tasks  : TasksSt
  drains : List (Option Nat × List (Nat × Nat))
  deriving DecidableEq, Repr

/-- The pipeline (R227 to R255). -/
structure PipeSt where
  snapAt   : FT                    -- instant of the latest snapshot, t₀ + 80 ms
  planning : Bool                  -- the per-cycle path of the present cycle runs
  assoc    : List Nat              -- machines ASSOCIATED at the snapshot
  composed : List DownUnit         -- per-cycle units handed to LAUNCH for the next cycle
  moves    : List (Nat × GateMove) -- gate moves handed to LAUNCH
  launch   : List (List DownUnit)  -- units LAUNCH holds for AIR0 … AIR7
  quiet    : Option Nat            -- the cycle that releases nothing (R251)
  stopOn   : Bool                  -- stop state of the decision side
  stopSnaps : Nat                  -- snapshots at which it was active (R307)
  stopSnap  : Bool                 -- was it active at the latest snapshot (R307)?
  slack    : List Int              -- 0x2C08.01 … .07
  withheld : Option Nat            -- cycle whose per-cycle units a replayed marker withholds (R253)
  undo     : Option AllotUndo      -- on a unit that follows: what the latest ALLOT run changed, as it was (R253)
  void     : Option FT             -- S of the discontinuity being prepared (R250)
  commits  : Nat                   -- commits of decision-side writes so far
  bases    : List BaseEpoch        -- base observables of the last ten epochs released, newest first (R206)
  released : Option FT             -- latest release of a stop as logged (R375)
  deriving DecidableEq, Repr

/-! ### Field Air (chapter 11) -/

/-- A JOIN_RESP in a port's queue (R372, R377). -/
structure JoinResp where
  eui    : Nat
  status : Nat
  port   : Nat
  machine : Nat                    -- 0 unless accepted
  slot   : Nat
  period : Nat
  queued : FT
  deriving DecidableEq, Repr

/-- A remap pair (R365, R380): excluded channel, spare, the instant it was made. -/
structure RemapPair where
  chan  : Nat
  spare : Nat
  made  : FT
  deriving DecidableEq, Repr

/-- A frame in buffer 0 of a transceiver that the edge of AIRn_TXEN will send (R346, R357): its channel, its PSDU, and whether it
is a STOP frame of STATE 1. -/
structure AirTx where
  chan : Nat
  psdu : List Byte
  stop : Bool
  deriving DecidableEq, Repr

/-- One Field Air port's own part. -/
structure AirPort where
  seq     : Nat                    -- SEQ of the next frame sent (R366)
  queue   : List JoinResp
  responded : Bool                 -- the previous join cycle had JOIN_MODE 2
  answer  : Option Nat             -- cycle whose JOIN_MODE is 2 (R364)
  got     : List (Nat × Bool)      -- UP slots that brought an accepted or duplicate frame: ASN, and was it logged? newest first
  backlog : List (Nat × List Byte) -- RTCM octets still to be sent: place in the stream, octets (R370)
  armed   : Option AirTx           -- the frame that the port's comparator will send
  judged  : Option Nat             -- ASN of the slot whose receive deadline was judged last (R357)
  deriving DecidableEq, Repr

/-- Field Air (R346 to R383). -/
structure AirSt where
  ports   : List AirPort
  remap   : List RemapPair
  pending : Option (Nat × List RemapPair)   -- PENDING_CYCLE and the complete remap from it
  resting : List (Nat × FT)                 -- spares at rest, until when
  windows : SMap (List Bool)                -- per channel, newest first: did the expected uplink fail?
  changes : List (Nat × Nat × Val)          -- committed radio settings not yet in force: cycle, object, value
  deriving DecidableEq, Repr

/-! ### The reference position and RTCM (chapter 06) -/

/-- A commit of 0x2804 that has been accepted and not applied (R187): its value and its writer's role, port and session. -/
structure RefCommit where
  value : Nat
  role  : Nat
  port  : Nat
  sess  : Nat
  deriving DecidableEq, Repr

/-- Reference corrections (R180 to R197). -/
structure CorrSt where
  pending : Option RefCommit
  sum     : Int × Int × Int        -- ANT_A single-point solutions of the survey, 0.1 mm, and their number (R183)
  count   : Nat
  blockSum : Int × Int × Int       -- those of the present 300 s block
  blockCount : Nat
  blocks  : List (Int × Int × Int) -- means of its 300 s blocks, newest first
  rover   : Solver                 -- the ANT_B base observables as a rover (R184)
  baselines : List (Nat × Int × Int × Int) -- fixed baselines of the last 60 s: tick, X, Y, Z in 0.1 mm; newest first
  fixedSince : Option Nat          -- tick since which the ANT_B baseline has been FIXED without a break (R184)
  cycles  : List (Nat × Int × Nat) -- whole cycles taken off the phases sent: signal and satellite, cycles, epoch (R192)
  stream  : Nat                    -- octets of the RTCM output stream since power-on (R370)
  station : Bool                   -- the station message is due whatever its interval (R187)
  deriving DecidableEq, Repr

/-! ### The redundant pair (chapter 17) -/

/-- The pair states of 0x3C03, in the order of their encodings 0 to 7. -/
inductive PairState where
  | start | active | transfer | synced | outgoing | orphan | solo | incoming
  deriving DecidableEq, Repr

/-- The encoding of 0x3C03 bits 2:0. -/
def PairState.code : PairState → Nat
  | .start => 0 | .active => 1 | .transfer => 2 | .synced => 3 | .outgoing => 4 | .orphan => 5 | .solo => 6
  | .incoming => 7

/-- The own loop (0x3C09 bits 1:0). -/
inductive Drive where
  | off | free | own
  deriving DecidableEq, Repr

/-- The encoding of 0x3C09 bits 1:0. -/
def Drive.code : Drive → Nat
  | .off => 0 | .free => 1 | .own => 2

/-- The reading of the peer loop (R525). -/
inductive Reading where
  | fault | free | own
  deriving DecidableEq, Repr

/-- The encoding of 0x3C09 bits 7:6. -/
def Reading.code : Reading → Nat
  | .fault => 0 | .free => 1 | .own => 2

/-- A link frame kept until acknowledged (R537). -/
structure LinkFrame where
  lseq    : Nat
  kind    : Nat
  payload : List Byte
  deriving DecidableEq, Repr

/-- A planned handover (R557, R558). -/
structure Handover where
  at_   : Option FT         -- s, once found
  since : Nat               -- tick of acceptance
  goAt  : Nat               -- tick of HANDOVER GO
  acked : Bool
  deriving DecidableEq, Repr

/-- The pair and Seam (R519 to R564, R741). -/
structure PairSt where
  pos        : Nat               -- POS strap: 0 A, 1 B
  state      : PairState
  drive      : Drive
  peer       : Reading
  compliance : Nat
  output     : Bool              -- output stage enabled
  hbA        : Bool
  hbB        : Bool
  hbOut      : Bool              -- heartbeat B runs
  faulted    : Bool              -- an uncorrectable error in control has stopped both heartbeats
  lanes      : Nat               -- lanes with block lock, bit 0 lane 0, bit 1 lane 1
  apart      : Bool              -- TIME_APART
  apartRun   : Nat               -- consecutive heartbeats beyond 0x3C08
  nearRun    : Nat               -- consecutive heartbeats within it
  offset     : Int               -- 0x3C0A, ps
  peerState  : Nat               -- PAIR_STATE of the latest heartbeat
  peerFlags  : Nat               -- FLAGS of the latest heartbeat
  echoTx     : FT                -- TX_TIME of the latest heartbeat received
  echoRx     : FT                -- own Field Time of its receipt
  mismatch   : Bool              -- HELLO disagrees (R538)
  peerDs     : Nat               -- DS_VERSION of the latest HELLO
  seenA      : Bool              -- heartbeat A was present since reset
  seenB      : Bool              -- likewise heartbeat B
  txSeq      : Nat               -- next LSEQ sent
  rxSeq      : Nat               -- next LSEQ expected
  unacked    : List LinkFrame
  lane       : Nat               -- lane of the next frame sent
  ackAt      : Nat               -- tick at which ACK last advanced, or frames were sent again, or the oldest was sent
  beatHb     : Nat               -- CK_HB count at the latest HEARTBEAT_A
  downAt     : Nat               -- tick at which the link went down (R554)
  complete   : FT                -- COMPLETE of the latest LOG
  expect     : Nat               -- next ENTRY expected
  ownDigest  : Option (Nat × Nat)    -- cycle, D(n) of the latest cycle formed
  peerDigest : Option (Nat × Nat)    -- cycle, digest of the latest CONFIRM with FLAGS bit 0
  compared   : Option Nat            -- latest cycle compared or found late
  transferId : Nat
  requested  : Option Nat            -- tick of the request of a state transfer
  freezing   : Option (Nat × Nat)    -- TRANSFER_ID of a request to serve, and the cycle of its snapshot
  image      : List Byte             -- octets of the state image received so far
  imageTotal : Nat
  imageCycle : Nat                   -- CYCLE of the image loaded
  kept       : List LogEntry         -- entries received since the request of a transfer
  digestSent : Option Nat            -- cycle of the digest the peer sent last
  loaded     : Bool                  -- the image is whole; SYNCED at the next digest that matches
  handover   : Option Handover
  giveUp     : Option FT             -- s of the handover this unit is to receive
  yield      : Bool                  -- yield accepted; FREE at the next slot start
  placed     : List (List Nat)       -- placement records for the next CONFIRM (R542): ASN, PORT, OUTCOME, TYPE, MACHINE, REF
  deriving DecidableEq, Repr

/-! ### Dictionary, sessions, change record, pin claims (chapter 18) -/

/-- A write staged in a group (R573): object, octets, and the select values that governed it at its staging. -/
structure StagedWrite where
  obj   : Nat
  value : List Byte
  sel   : Nat
  deriving DecidableEq, Repr

/-- An open group (R577). -/
structure Group where
  ident  : Nat
  writes : List StagedWrite
  opened : Nat                       -- tick of GROUP_OPEN
  deriving DecidableEq, Repr

/-- One dictionary service session (R584, R589): numbers 1 to 8. -/
structure Session where
  num    : Nat
  port   : Nat
  role   : Nat
  onRole : Bool                      -- the session came to the role address (R427, R584)
  last   : Option (Nat × List Byte)  -- REQ_ID and kept response (R589)
  group  : Option Group
  nextGroup : Nat
  since  : Nat                       -- tick of the last message
  deriving DecidableEq, Repr

/-- An open CAN transfer (R591). -/
structure CanXfer where
  write  : Bool
  obj    : Nat
  group  : Nat
  size   : Nat
  data   : List Byte                 -- octets received so far, or octets still to be sent
  toggle : Nat                       -- toggle expected next
  answer : List Byte                 -- previous answer, repeated for a repeated toggle
  since  : Nat                       -- tick of the last frame of the transfer (R592)
  deriving DecidableEq, Repr

/-- A CAN port's side of the dictionary (R592). -/
structure CanDict where
  xfer  : Option CanXfer
  group : Option Group
  nextGroup : Nat
  wrote : Nat         -- tick of the latest WRITE over the port (R626)
  deriving DecidableEq, Repr

/-- A change record entry (R582). PARAM 0xFF marks a void entry. -/
structure ChangeEntry where
  param  : Nat
  role   : Nat
  port   : Nat
  sess   : Nat
  time   : FT
  digest : List Byte
  deriving DecidableEq, Repr

/-- The dictionary service (R565 to R598). -/
structure DictSt where
  sessions : List Session
  can      : List CanDict            -- CAN0, CAN1
  changes  : List ChangeEntry        -- the change record, entry 0 first (fuses)
  claims   : SMap Nat                -- claim words of the balls that features hold (R594)
  turning  : SMap Nat                -- tick from which a ball whose function changed is driven by the new one (R717)
  refusedBall   : Nat                -- 0x1F02
  refusedHolder : Nat                -- 0x1F03
  deriving DecidableEq, Repr

/-! ### Metering (chapter 16) -/

/-- A pending pulse (R503): its stamp, the tariff period and the HOLDER at it. -/
structure PendPulse where
  stamp  : FT
  period : Nat
  holder : Nat
  deriving DecidableEq, Repr

/-- A tally channel (R501 to R503): the previous accepted pulse, the stamps of accepted pulses of the last 3,600 s (newest
first), the pending pulses (oldest first). -/
structure Tally where
  last    : Option FT
  recent  : List FT
  waiting : List PendPulse
  deriving DecidableEq, Repr

/-- STATE of an account (R505). -/
inductive AccState where
  | empty | open_ | closed
  deriving DecidableEq, Repr

/-- The encoding of R505. -/
def AccState.code : AccState → Nat
  | .empty => 0 | .open_ => 1 | .closed => 2

/-- An account: its configuration (R505) and its reading (R506). -/
structure Account where
  state   : AccState
  channel : Nat
  mask    : Nat
  machine : Nat
  unit    : Nat
  tag     : Nat
  opening : Nat
  acc     : Nat
  rem     : Nat
  wraps   : Nat
  pulses  : Nat
  deriving DecidableEq, Repr

/-- An EMPTY account. -/
def Account.blank : Account :=
  { state := .empty, channel := 0, mask := 0, machine := 0, unit := 0, tag := 0, opening := 0, acc := 0, rem := 0,
    wraps := 0, pulses := 0 }

/-- One mains input (R514, R515): PRESENT; crossings in a row within the timeout; the last crossing; the last 16, newest
first; LOST since a mains-loss save. -/
structure Mains where
  present : Bool
  run     : Nat
  last    : Option FT
  times   : List FT
  saved   : Bool
  deriving DecidableEq, Repr

/-- A copy of the metering state (R511). -/
structure SaveCopy where
  seq      : Nat
  mask     : Nat
  cause    : FT
  accounts : SMap Account
  waiting  : List (Nat × List PendPulse)
  counts   : SMap U64          -- .09, .0A and .0B of each channel
  deriving DecidableEq, Repr

/-- Metering (R499 to R518). -/
structure MeterSt where
  tallies  : SMap Tally
  accounts : SMap Account
  mains    : List Mains
  saving   : Option SaveCopy   -- the save in progress
  started  : Nat               -- tick of its cause
  copy     : Option SaveCopy   -- the good copy with the highest sequence number
  next     : Nat               -- sequence number of the next save
  deriving DecidableEq, Repr

/-! ### Firmware update (chapter 20) -/

/-- The update states of R629, in the order of their encodings 0 to 7. -/
inductive UpdState where
  | idle | receiving | verifying | applying | staged | ready | activating | trial
  deriving DecidableEq, Repr

/-- The encoding of R629. -/
def UpdState.code : UpdState → Nat
  | .idle => 0 | .receiving => 1 | .verifying => 2 | .applying => 3
  | .staged => 4 | .ready => 5 | .activating => 6 | .trial => 7

/-- An image in the flash: what of the header of R619 the rules read, its octets, and whether it is marked fallen back
(R636). -/
structure Image where
  kind     : Nat
  version  : Nat
  ds       : Nat
  schema   : Nat
  minBoot  : Nat
  content  : List Byte            -- the resulting image
  fallen   : Bool
  deriving DecidableEq, Repr

/-- A settings area (R638): its newest generation, the generations it holds, and the node and segment tables as they stood
when it was left for fallback (R639). No generation: erased. -/
structure SettingsArea where
  gen     : Nat
  schema  : Nat
  version : Nat
  content : SMap Val
  used    : Nat
  nodes   : SMap Node
  segs    : SMap Seg
  deriving DecidableEq, Repr

/-- Field update (R618 to R643) and what the flash keeps for it (R622). -/
structure UpdateSt where
  state    : UpdState
  holder   : Option (Nat × Nat)   -- port and session of the lock holder
  kind     : Nat                  -- KIND of the open
  total    : Nat
  hamper   : List Byte            -- octets received so far (0x3F0A is their number)
  staged   : Option Image         -- verified image in the Hamper (KIND 1 or 2)
  cause    : Nat                  -- 0x3F0B
  banks    : List (Option Image)  -- runtime images of bank 0 and bank 1
  active   : Nat                  -- active bank
  boot     : List (Option Image)  -- boot firmware copies 0, 1
  trim     : List (Option Image)  -- trim table copies 0, 1
  bootUse  : Nat                  -- boot copy in service
  trimUse  : Nat                  -- trim copy in service
  method   : Nat                  -- of the latest activation: 0 cluster handover, 1 restart
  out      : Option Nat           -- cluster withdrawn now
  done     : List Nat             -- clusters that run the inactive bank's image
  trialStart : Nat                -- tick of entry into TRIAL
  confirmed  : Bool               -- 0x3F05 written since entry into TRIAL
  struck     : Bool               -- an uncorrectable error in control since entry into ACTIVATING
  cleanRun   : Nat                -- cycles in a row without a stage late (R634 condition 2)
  pieceAt    : Nat                -- tick of the open or of the latest piece (R626)
  matchRun   : Nat                -- digest comparisons matched in a row (condition 3)
  ownRun     : Nat                -- cycles in a row in which the unit held OWN (condition 3)
  areas    : List SettingsArea    -- settings areas 0–3
  area     : Nat                  -- area in use
  oldArea  : Option Nat           -- area held for fallback
  fresh    : List Nat             -- KINDs copied under R630 at this start (R687)
  deriving DecidableEq, Repr

/-! ### Background work (chapter 21) -/

/-- One Rinse pass (R646 to R650). -/
structure RinsePass where
  start    : FT             -- Field Time at which the pass (or its restart) began
  tick     : Nat            -- tick at which it began
  at_      : Nat            -- next burst
  period   : Nat            -- period in force, s
  overdue  : Bool
  corrected : List Nat      -- addresses corrected in the present pass
  previous : List Nat       -- addresses corrected in the previous pass
  deriving DecidableEq, Repr

/-- A sample for the oscillator model (R652): its tick, the analog die temperature in 0.1 °C, the frequency term. -/
structure OscSample where
  tick : Nat
  temp : Int
  freq : Int
  deriving DecidableEq, Repr

/-- Background work (R644 to R661). -/
structure BackgroundSt where
  sram      : RinsePass
  ddr       : RinsePass
  calFails  : List Nat      -- failed runs in a row of the six activities of R651
  calStale  : Nat           -- 0x3F43
  calValues : List Int      -- value in force of the six activities (latest good run)
  gloBias   : List Int      -- GLONASS FDMA inter-frequency delay of chains 0–3, ps (R651)
  chainDelay : List Int     -- calibrated group delay of chains 0–3, ps (0x3F46)
  chainTarget : List Int    -- values that chainDelay moves to, at most 10 ps an epoch
  oscC1     : Int
  oscC2     : Int
  oscTref   : Int
  oscSamples : List OscSample -- samples of the last 7 days, newest first (R652)
  oscApplied : Int          -- Δf last added to the frozen frequency term, units of 2^-32 ns per tick
  tempLogic : Int           -- 0x3F48.01, 0.1 °C
  tempAnalog : Int          -- 0x3F48.02
  erases    : SMap Nat      -- erase count by sector (bank × 2^16 + sector)
  remap     : SMap Nat      -- remapping table: sector ↦ spare + 1
  spares    : Nat           -- free spare sectors (0x3F49)
  retired   : List Nat      -- sectors retired with no spare left
  telSeq    : Nat           -- SEQ of the telemetry frame
  telSums   : List U64      -- values of 0x5001.01 … .0F at the previous frame
  telLatest : List Byte     -- 0x3F61
  deriving DecidableEq, Repr

/-! ### Power, reset and modes (chapter 22) -/

/-- The modes of R673, in the order of their encodings 0 to 11. -/
inductive Mode where
  | off | backup | boot | survey | solo | active | standby | handover | maintain | test | safe | orphan
  deriving DecidableEq, Repr

/-- The encoding of R673. -/
def Mode.code : Mode → Nat
  | .off => 0 | .backup => 1 | .boot => 2 | .survey => 3 | .solo => 4 | .active => 5
  | .standby => 6 | .handover => 7 | .maintain => 8 | .test => 9 | .safe => 10 | .orphan => 11

/-- Power domains, reset and modes (R662 to R683). -/
structure PowerSt where
  mode      : Mode
  cause     : Nat              -- 0x1102
  inReset   : Bool
  left      : Option (Mode × Bool) -- mode that the reset left, and whether the latch was clear: not yet recorded
  below     : Nat              -- bit i: supply i of 0x1110 below its threshold (R666)
  resetPin  : Bool             -- SYS_RESET_L held low
  levels    : List Nat         -- 0x1110.01 … .09, mV
  bootStep  : Nat              -- step of R670 reached
  bootStart : Nat              -- tick at which BOOT began to count (R671)
  bootTried : Nat              -- tick at which the boot ROM last verified the copies in vain (R685)
  bootWait  : Nat              -- tick from which 0x1107 runs (R671, R672)
  bootTime  : Nat              -- 0x1106, ms
  hamperCopied : Bool
  pendingMode : Option Nat     -- accepted request (target code of R675)
  domains   : Nat              -- 0x1105
  bkpValid  : Bool             -- validity word of PD_BKP (R663)
  bkpTime   : FT               -- backup time counter (R70)
  faultTick : Option Nat       -- tick at which 0x1050 was recorded in a pair (R669)
  deriving DecidableEq, Repr

/-! ### Security (chapter 23) -/

/-- The secure store, the fuses of security and the debug port (R684 to R701). -/
structure SecuritySt where
  owner     : List Byte       -- owner credential; empty before provisioning
  revoked   : Nat             -- 0x1201
  floors    : List Nat        -- rollback floors of KIND 1, 2, 3
  tamper    : Bool            -- TAMPER_L asserted
  tamperHeld : Bool           -- asserted without a break since the last reset (R695)
  tamperStatus : Nat          -- bits 1 and 2 of 0x1221
  nonce     : Option Nat      -- number of the nonce drawn and not yet used (R698)
  nonces    : Nat             -- nonces drawn so far
  debug     : Bool            -- 0x1232
  stopKeys  : List (List Byte) -- stop key slots 0–3, empty when unset (R413)
  deriving DecidableEq, Repr

/-- The whole block. `pending` is the queue of waiting commands, first in, first out. -/
structure State where
  /-- Commands that wait, oldest first. -/
  pending : List Instr
  /-- What left the unit, newest first (the model's own log, assumption 3). -/
  out : List Out
  /-- Every U64 counter of the dictionary, by object; absent is 0. -/
  counters : SMap U64
  /-- Committed RW values, by object; absent is the catalogue's default. -/
  settings : SMap Val
  /-- Values in force of the settings that take effect later than their commit, by object; absent is the default. -/
  effective : SMap Val
  /-- RO values that a rule writes, by object; absent is the catalogue's default. -/
  shown : SMap Val
  /-- The event recorder. -/
  rcd : RecorderSt
  /-- Field Time. -/
  time : TimeSt
  /-- Network time and timed I/O. -/
  ptp : PtpSt
  /-- Sessions, groups, change record, pin claims. -/
  dict : DictSt
  /-- Field update. -/
  upd : UpdateSt
  /-- Background work. -/
  bg : BackgroundSt
  /-- Power domains, reset and modes. -/
  power : PowerSt
  /-- Security. -/
  sec : SecuritySt
  /-- The model's own counter of free values drawn (DESIGN CHOICE, assumption 5). -/
  freeCount : Nat
  /-- INGEST, the input log and SORT's queue. -/
  ingest : IngestSt
  /-- The stop path. -/
  stop : StopSt
  /-- AX0 to AX7. -/
  axes : List Axis
  /-- The pair and Seam. -/
  pair : PairSt
  /-- Ethernet and CAN FD ports. -/
  net : NetSt
  /-- The dataflow scheduler and the decision trace. -/
  sched : SchedSt
  /-- Nodes, segments, reservations. -/
  tracks : TracksSt
  /-- The task table and ALLOT. -/
  tasks : TasksSt
  /-- Machines 1 to 128. -/
  machines : List Machine
  /-- The fleet pipeline. -/
  pipe : PipeSt
  /-- Field Air. -/
  air : AirSt
  /-- Reference position and RTCM. -/
  corr : CorrSt
  /-- Antenna ports, RF chains, channels, measurements, PPS_OUT. -/
  gnss : GnssSt
  /-- Metering. -/
  meter : MeterSt
  deriving DecidableEq, Repr

/-- The recorder at reset (R616). Assumption 4 names the values of PD_BKP and flash that the spec leaves to history. -/
def RecorderSt.init : RecorderSt :=
  { staged := [], ring := [(0, [])], safety := [], nextSeq := 1, era := 0, sectors := 63, rates := [], since := [],
    dropped := 0, dropSev := 0, stream := [], skipped := 0 }

/-- The comparators at reset: the two fixed claims of R74; comparator 0 is armed at the first 4 ms boundary. -/
def Comparator.initial : List Comparator :=
  [⟨1, false, some ⟨0, 4000000, 0⟩, 4000000⟩, ⟨2, false, none, 0⟩] ++ List.replicate 30 ⟨0, false, none, 0⟩

/-- Field Time at reset with PD_BKP without power (R70): zero, FREE, nominal increment (R54, R83). -/
def TimeSt.init : TimeSt :=
  { now := ⟨0, 0, 0⟩, ticks := 0, hb := 0, freq := 0x2_0000_0000, phase := 0, nextTerms := none, state := .free,
    selected := none, everSelected := false, aligned := false, served := false, remaining := 0,
    holdStart := ⟨0, 0, 0⟩, estimate := 0, pending := none, pendingSet := none, gnssSuspect := false, gnssDelta := 0,
    validGnss := none, validA := none, validB := none, comparators := Comparator.initial, refLost := false }

/-- A PTP domain at reset: every port in portState 3 (0x2044), no grandmaster, Δ 0 (R469). -/
def PtpDomain.init : PtpDomain :=
  { states := [3, 3, 3, 3], gm := none, parent := (0, 0), offset := 0, filtered := 0, delay := 0, cause := 0, jumpRun := 0,
    goodSince := none, lastSync := none, syncLog := -3, lastDelay := none, waitSync := none, waitDelay := none,
    peers := List.replicate 4 ⟨none, 0, none⟩, syncT1 := ⟨0, 0, 0⟩, syncT2 := ⟨0, 0, 0⟩, seqSync := 0, seqReq := 0, seqAnn := 0,
    servo := [], foreign := [[], [], [], []], heard := [0, 0, 0, 0] }

/-- A timed I/O pin at reset: not running, its queue empty (R469). -/
def TioPin.init : TioPin :=
  { running := false, active := false, held := false, late := false, left := 0, endless := false, next := none,
    off := none, queue := [], lost := 0, seq := 0, lastEdge := none }

/-- Network time at reset. -/
def PtpSt.init : PtpSt :=
  { domA := .init, domB := .init, crossRun := 0, queues := [[], [], [], []], utcValid := false,
    tio := List.replicate 16 .init }

/-- The dictionary service at reset: no session, no change record entry, no ball held by a feature (R597). -/
def DictSt.init : DictSt :=
  { sessions := [], can := [⟨none, none, 1, 0⟩, ⟨none, none, 1, 0⟩], changes := [], claims := [], turning := [],
    refusedBall := 0xFFFF, refusedHolder := 0 }

/-- An image of every kind at version 0, its octets a constant of the unit: what the factory put into the flash, which the
spec does not give (assumption 4). -/
def Image.factory (kind : Nat) : Image :=
  { kind := kind, version := 0, ds := 0, schema := 0, minBoot := 0, content := Config.factoryImage kind, fallen := false }

/-- An erased settings area. -/
def SettingsArea.erased : SettingsArea :=
  { gen := 0, schema := 0, version := 0, content := [], used := 0, nodes := [], segs := [] }

/-- Firmware update at reset: IDLE, no holder, nothing in the Hamper (R642). -/
def UpdateSt.init : UpdateSt :=
  { state := .idle, holder := none, kind := 0, total := 0, hamper := [], staged := none, cause := 0,
    banks := [some (.factory 3), none], active := 0, boot := [some (.factory 1), some (.factory 1)],
    trim := [some (.factory 2), some (.factory 2)], bootUse := 0, trimUse := 0, method := 0, out := none, done := [],
    trialStart := 0, pieceAt := 0, confirmed := false, struck := false, cleanRun := 0, matchRun := 0, ownRun := 0,
    areas := List.replicate 4 .erased, area := 0, oldArea := none, fresh := [] }

/-- A Rinse pass at its first word (R646). -/
def RinsePass.init (period : Nat) : RinsePass :=
  { start := ⟨0, 0, 0⟩, tick := 0, at_ := 0, period := period, overdue := false, corrected := [], previous := [] }

/-- Background work at reset (R660). -/
def BackgroundSt.init : BackgroundSt :=
  { sram := .init 600, ddr := .init 86400, calFails := [0, 0, 0, 0, 0, 0], calStale := 0,
    calValues := [0, 0, 0, 0, 0, 0], gloBias := [0, 0, 0, 0], chainDelay := [0, 0, 0, 0], chainTarget := [0, 0, 0, 0], oscC1 := 0, oscC2 := 0,
    oscTref := 0, oscSamples := [], oscApplied := 0, tempLogic := 0, tempAnalog := 0, erases := [], remap := [],
    spares := 64, retired := [], telSeq := 0, telSums := List.replicate 15 0, telLatest := zeros 64 }

/-- Power and modes right after reset: BOOT at step 1 (R670), supplies at their nominal voltages (assumption 4). -/
def PowerSt.init : PowerSt :=
  { mode := .boot, cause := 0, inReset := false, left := none, below := 0, resetPin := false,
    levels := [750, 800, 900, 1100, 600, 1800, 3300, 1800, 3000], bootStep := 1, bootStart := 0, bootTried := 0, bootWait := 0, bootTime := 0,
    hamperCopied := false, pendingMode := none, domains := 0x3CF, bkpValid := false, bkpTime := ⟨0, 0, 0⟩,
    faultTick := none }

/-- Security as the unit leaves manufacture: no owner credential, no revoked slot, floors 0 (R694, R700). -/
def SecuritySt.init : SecuritySt :=
  { owner := [], revoked := 0, floors := [0, 0, 0], tamper := false, tamperHeld := false, tamperStatus := 0,
    nonce := none, nonces := 0, debug := false, stopKeys := [[], [], [], []] }

/-- A trap at reset: OFF (R98). -/
def Trap.init : Trap := { state := 0, depth := 0, width := 0, peak := 0, freq := 0, run := 0, low := none }

/-- A chain at reset: OFF. -/
def Chain.init : Chain :=
  { state := .off, cause := 0, exhausted := false, gain := 0, gRef := 0, fresh := true, gains := [], gainSum := 0, gainCount := 0, ji := 0, jamRun := 0,
    triggers := 0, episode := false, began := 0, since := 0, cand := none, candTick := 0, restarts := 0, ready := false,
    traps := List.replicate 8 .init, notch := [] }

/-- An antenna port at reset: its supply ON and not yet classified (R95). -/
def AntPort.init : AntPort := { status := 0, closed := true, lowSince := none, shorts := [] }

/-- A channel at reset: IDLE (R144). -/
def Chan.init : Chan :=
  { state := .idle, signal := 0, sv := 0, gloK := 0, entry := 0, cn0 := 0, doppler := 0, lock := 0, slip := false, fails := 0,
    weak := none, refused := none, carrier := 0, code := 0, next := none, later := none, phase := 0, cycles := 0,
    samples := 0, chips := 0, frac := 0, periods := 0, tow := none, half := false, offM := 0, hist := [], due := 0,
    cohs := [], loop := [] }

/-- A signal that no check has touched. -/
def Sig.init : Sig :=
  { excluded := false, check := 0, passes := 0, times := [], multipath := false, clean := 0, cmc := [] }

/-- PPS_OUT at reset: inactive, no message yet (R171). -/
def PpsSt.init : PpsSt :=
  { due := none, predicted := 0, prevQ := 0, width := 100, falling := false, active := false, seq := 0,
    announced := false, surprise := false }

/-- The baseband at reset: every chain OFF, the default bank map (R116). -/
def GnssSt.init : GnssSt :=
  { chains := List.replicate 4 .init, ports := List.replicate 2 .init, bankMap := 0xFEAA5400, chans := [], queue := [],
    engines := [none, none], barred := [], sigs := [], ephs := [], meas := [], epoch := 0, recorded := [], prev := [],
    released := true, nav := [], navNext := 0, clockRun := 0, clock := none, bands := [], used := 0, pps := .init }

/-- The scheduler at reset: the store and every ready queue empty (R336), PD_CPU's cores off until BOOT starts them. -/
def SchedSt.init : SchedSt :=
  { store := [], ready := [], cores := List.replicate 16 ⟨0, 0, none, ⟨0, 0, 0⟩, 0⟩, high := 0, trace := [], head := 0,
    sent := 0, specNext := 1, withdrawn := [] }

/-- INGEST at reset: nothing held or logged (R668). -/
def IngestSt.init : IngestSt := { held := [], unsorted := [], next := 0, outbox := [], after := none }

/-- The stop path at reset (R385, R412): latch set, mask bit 5; the inputs at run level, the key counters zero
(assumption 4). -/
def StopSt.init : StopSt :=
  { latch := true, mask := 0x20, discrepancy := false, outFault := false, release := none, inA := false, inB := false,
    key := false, bothStop := false, firstRun := none, apart := none, since := ⟨0, 0, 0⟩, setTick := 0, faultTick := 0, lastResult := 0,
    counters := [0, 0, 0, 0], stored := [0, 0, 0, 0], logged := (1, 0x20), quietUntil := ⟨0, 0, 0⟩, safeTick := 0, strobeHb := 0 }

/-- An axis at reset: mode 0, so DISABLED (R475, 0x3810), everything at the object's default. -/
def Axis.init : Axis :=
  { state := .disabled, cause := 0, pos := 0, target := 0, current := .off, raise := 0, load := 0, inputs := 0,
    landing := .idle, ramping := false, plan := none, changed := none, start := none, armed := [], phase := .none,
    homeFrom := 0, enPos := 0, peakIref := 0, peakLoad := 0, lastStep := none, boosted := none, loadHigh := none, en := false,
    dir := false, diverged := false }

/-- The pair at reset: 0x3C00 is 0 and the unit is in BOOT, so the state reads START (0x3C03) and the loop FREE
(0x3C09). POS A is assumption 4. -/
def PairSt.init : PairSt :=
  { pos := 0, state := .start, drive := .free, peer := .fault, compliance := 0, output := false, hbA := false,
    hbB := false, hbOut := false, faulted := false, lanes := 0, apart := false, apartRun := 0, nearRun := 0, offset := 0, peerState := 0, peerFlags := 0,
    echoTx := ⟨0, 0, 0⟩, echoRx := ⟨0, 0, 0⟩, mismatch := false, peerDs := 0, seenA := false, seenB := false, txSeq := 0, rxSeq := 0, unacked := [],
    lane := 0, ackAt := 0, beatHb := 0, downAt := 0,
    complete := ⟨0, 0, 0⟩, expect := 0, ownDigest := none, peerDigest := none, compared := none, transferId := 0,
    requested := none, freezing := none, image := [], imageTotal := 0, imageCycle := 0,
    kept := [], digestSent := none, loaded := false, handover := none,
    giveUp := none, yield := false, placed := [] }

/-- An Ethernet port at reset: link down, queues empty (R668). -/
def EthPort.init : EthPort :=
  { link := 0, queues := List.replicate 8 [], frags := [], arp := [], waits := [], icmpStart := 0, icmpCount := 0,
    tx := [[], [], [], []], busy := 0 }

/-- A CAN port at reset: off, its settings at their defaults. -/
def CanPort.init : CanPort := { state := 0, errors := 0, seq := 0, node := 1, nominal := 2, data := 1, rx := 0, queue := [] }

/-- The network ports at reset. -/
def NetSt.init : NetSt := { eth := List.replicate 4 .init, can := List.replicate 2 .init, garp := 0, garpAt := 0 }

/-- Nodes, segments and reservations at reset: every reservation FREE (R265); the tables as manufactured, empty
(assumption 4). -/
def TracksSt.init : TracksSt :=
  { nodes := [], segs := [], res := [], edits := [], legs := [], open_ := false, checked := [], moves := [], gateHold := [],
    planned := List.replicate 8 0, seen := (0, []), freed := [] }

/-- The task table at reset: nothing saved (R302). -/
def TasksSt.init : TasksSt :=
  { tasks := [], saved := [], tau := [], edits := [], reports := [], inEdits := [], inReports := [], due := false,
    revokes := [], passages := [] }

/-- A machine at reset: ABSENT, no filter, no entries (R302, R377). -/
def Machine.init : Machine :=
  { rtk := .init, spec := 0, newSpec := 0, stale := false, lastEpoch := none, lastObs := ⟨0, 0, 0⟩, wait := none,
    exchange := none, provOpened := 0, provConfirmed := 0, provWithdrawn := 0, sent := none, fixes := [], snap := none, status := [],
    snapStatus := none, pairFall := [], pairFix := none, route := [], snapRoute := none, leg := 0, drain := none,
    runs := [], link := .absent, port := 0, slot := 0, period := 0, change := none, contact := ⟨0, 0, 0⟩, epsilon := 0,
    missed := 0, seq := 0x100, rssi := 0, joinSent := none, snapLink := .absent }

/-- The pipeline at reset: the stop latch is set, so the decision side starts under stop. -/
def PipeSt.init : PipeSt :=
  { snapAt := ⟨0, 0, 0⟩, planning := false, assoc := [], composed := [], moves := [], launch := List.replicate 8 [],
    quiet := none, stopOn := true, stopSnaps := 0, stopSnap := true, slack := List.replicate 7 0x7FFFFFFF, withheld := none, undo := none, void := none, commits := 0,
    bases := [],
    released := none }

/-- Field Air at reset: identity remap, nothing queued. -/
def AirSt.init : AirSt :=
  { ports := List.replicate 8 ⟨0, [], false, none, [], [], none, none⟩, remap := [], pending := none, resting := [],
    windows := [], changes := [] }

/-- Corrections at reset. -/
def CorrSt.init : CorrSt :=
  { pending := none, sum := (0, 0, 0), count := 0, blockSum := (0, 0, 0), blockCount := 0, blocks := [], rover := .init,
    baselines := [], fixedSince := none, cycles := [], stream := 0, station := false }

/-- A channel without pulses. -/
def Tally.init : Tally := { last := none, recent := [], waiting := [] }

/-- A mains input at reset: LOST while enabled (R514). -/
def Mains.init : Mains := { present := false, run := 0, last := none, times := [], saved := false }

/-- Metering at reset: no copy in the save area (assumption 4). -/
def MeterSt.init : MeterSt :=
  { tallies := [], accounts := [], mains := [.init, .init], saving := none, started := 0, copy := none, next := 1 }

/-- The machine right after reset (R70, R83, R385, R668, R670 and the Default columns): see assumption 4 for the
values the spec does not give. -/
def State.reset : State :=
  { pending := [],
    out := [],
    counters := [],
    settings := [],
    effective := [],
    shown := [],
    rcd := .init,
    time := .init,
    ptp := .init,
    dict := .init,
    upd := .init,
    bg := .init,
    power := .init,
    sec := .init,
    freeCount := 0,
    ingest := .init,
    stop := .init,
    axes := List.replicate 8 .init,
    pair := .init,
    net := .init,
    sched := .init,
    tracks := .init,
    tasks := .init,
    machines := List.replicate 128 .init,
    pipe := .init,
    air := .init,
    corr := .init,
    gnss := .init,
    meter := .init }

/-- Faults. The spec lets no command stop the block: errors are dropped and counted (R41) or answered by leaving
service (R43, R44), both of which are next states. -/
inductive Fault where
  /-- Raised by no meaning; it keeps the type inhabited. Safe: no claim can rest on it. -/
  | none
  deriving DecidableEq, Repr

/-- Refusals. -/
inductive Refusal where
  /-- Raised by `exec` for a row that has no meaning yet. Safe: the model stops. -/
  | notModelled (mnemonic : String)
  deriving DecidableEq, Repr

end Sys2Proof.Machine
end

