-- ==== Sys2Proof/Machine/Ops.lean ====
section
/-!
DEFINITION. The named operations every meaning is built from: Field Time arithmetic (R51, R52, R71), dictionary values
(R565 to R571), counters (R48), event records with their threshold, rate limits and staging (R600 to R611), and what
leaves the unit.
-/

namespace Sys2Proof

/-! ### Field Time -/

/-- A time in units of 2^-32 ns. -/
def FT.units (t : FT) : Nat := (t.sec * 1000000000 + t.nsec) * 4294967296 + t.frac

/-- The time of so many units of 2^-32 ns; SEC wraps modulo 2^64 (R51, R54). -/
def FT.ofUnits (u : Nat) : FT :=
  ⟨u / 4294967296 / 1000000000 % 2 ^ 64, u / 4294967296 % 1000000000, u % 4294967296⟩

/-- Is the time well-formed (R51, R53)? -/
def FT.wf (t : FT) : Bool :=
  decide (t.sec < 2 ^ 64) && decide (t.nsec < 1000000000) && decide (t.frac < 4294967296)

/-- Earlier or equal. -/
def FT.le (a b : FT) : Bool := decide (FT.units a ≤ FT.units b)

/-- Earlier. -/
def FT.lt (a b : FT) : Bool := decide (FT.units a < FT.units b)

/-- `t` moved by a signed number of units; never before the epoch. -/
def FT.addUnits (t : FT) (d : Int) : FT := FT.ofUnits ((FT.units t : Int) + d).toNat

/-- `t` plus nanoseconds. -/
def FT.addNs (t : FT) (ns : Nat) : FT := FT.ofUnits (FT.units t + ns * 4294967296)

/-- `b − a` in whole nanoseconds, 0 if `b` is earlier. -/
def FT.nsSince (a b : FT) : Nat := (FT.units b - FT.units a) / 4294967296

/-- Nanoseconds since the epoch, whole. -/
def FT.ns (t : FT) : Nat := t.sec * 1000000000 + t.nsec

/-- The time of a nanosecond count. -/
def FT.ofNs (n : Nat) : FT := ⟨n / 1000000000 % 2 ^ 64, n % 1000000000, 0⟩

/-- The 128-bit number of R52. -/
def FT.toNum (t : FT) : Nat := t.sec * 2 ^ 64 + t.nsec * 2 ^ 32 + t.frac

/-- The time a 128-bit number of R52 spells (its reserved bits are dropped). -/
def FT.ofNum (n : Nat) : FT := ⟨n / 2 ^ 64, n / 2 ^ 32 % 2 ^ 30, n % 2 ^ 32⟩

/-- The 16 octets of an FT value (R52). -/
def FT.bytes (t : FT) : List Byte := leBytes 16 (FT.toNum t)

/-- Absolute slot number (R71), modulo 2^64. -/
def FT.asn (t : FT) : Nat := (t.sec * 250 + t.nsec / 4000000) % 2 ^ 64

/-- Slot index within the slotframe (R71). -/
def FT.slot (t : FT) : Nat := FT.asn t % 25

/-- Fleet cycle number (R71), modulo 2^64. -/
def FT.cycle (t : FT) : Nat := (t.sec * 10 + t.nsec / 100000000) % 2 ^ 64

/-- Start of the fleet cycle that holds `t`. -/
def FT.cycleStart (t : FT) : FT := ⟨t.sec, t.nsec / 100000000 * 100000000, 0⟩

/-- The first slot 0 that begins at or after `t`. -/
def FT.slot0From (t : FT) : FT :=
  if t = FT.cycleStart t then t else FT.addNs (FT.cycleStart t) 100000000

/-- The first whole second after `t`. -/
def FT.nextSecond (t : FT) : FT := ⟨(t.sec + 1) % 2 ^ 64, 0, 0⟩

/-- Start of the slot that holds `t`. -/
def FT.slotStart (t : FT) : FT := ⟨t.sec, t.nsec / 4000000 * 4000000, 0⟩

/-! ### Values and elements -/

/-- A value as a number; an octet string counts as 0. -/
def Val.int : Val → Int
  | .num n => n
  | .oct _ => 0

/-- A value as octets; a number has none. -/
def Val.bytes : Val → List Byte
  | .num _ => []
  | .oct bs => bs

/-- Octets of one element (R602). -/
def Item.length : Item → Nat
  | .bool _ => 2 | .u8 _ => 2 | .u16 _ => 3 | .u32 _ => 5 | .u64 _ => 9
  | .i32 _ => 5 | .i64 _ => 9 | .ft _ => 17 | .oct bs => 2 + bs.length

/-- The number of a writer's session as R582 records it: 9 and 10 for the CAN ports. -/
def Writer.session (w : Writer) : Nat :=
  if w.port.val = 0 then 9 else if w.port.val = 1 then 10 else w.sess.val

end Sys2Proof

namespace Sys2Proof.Machine

/-! ### Control -/

/-- Apply a change when a condition holds. -/
def when (b : Bool) (f : State → State) (s : State) : State := if b then f s else s

/-- Apply a change for every element of a list, in order. -/
def each {α : Type} (l : List α) (f : α → State → State) (s : State) : State := l.foldl (fun s a => f a s) s

/-! ### Durations -/

/-- Units of 2^-32 ns as whole picoseconds (truncated toward zero). -/
def unitsToPs (u : Int) : Int := Int.tdiv (u * 1000) 4294967296

/-- Nanoseconds as units of 2^-32 ns. -/
def nsUnits (n : Int) : Int := n * 4294967296

/-- CK_TIME ticks of so many seconds, at the nominal 2 ns per tick (R610). -/
def secTicks (n : Nat) : Nat := n * 500000000

/-- The tick since which a condition holds, once it has been tested again. -/
def since (holds : Bool) (tick : Nat) (t : Option Nat) : Option Nat := if holds then some (t.getD tick) else none

/-- CK_TIME ticks of so many milliseconds. -/
def msTicks (n : Nat) : Nat := n * 500000

/-- Field Time now. -/
def State.now (s : State) : FT := s.time.now

/-- The tick count. -/
def State.ticks (s : State) : Nat := s.time.ticks

/-! ### Dictionary values -/

/-- The committed value of a setting. -/
def State.setting (s : State) (o : Nat) : Val := SMap.getD (Catalog.dflt o) o s.settings

/-- The committed value of a numeric setting, as a natural number. -/
def State.cfg (s : State) (o : Nat) : Nat := (s.setting o).int.toNat

/-- The committed value of a signed setting. -/
def State.cfgI (s : State) (o : Nat) : Int := (s.setting o).int

/-- The committed octets of a setting. -/
def State.cfgOct (s : State) (o : Nat) : List Byte := (s.setting o).bytes

/-- Is a sink object in use (R174, R196, R342, R611, R657): its address, octets 0 to 3, not zero? -/
def State.sinkUsed (s : State) (o : Nat) : Bool := (s.cfgOct o).take 4 != zeros 4

/-- The value in force of a setting that takes effect later than its commit. -/
def State.eff (s : State) (o : Nat) : Nat := (SMap.getD (Catalog.dflt o) o s.effective).int.toNat

/-- Likewise, signed. -/
def State.effI (s : State) (o : Nat) : Int := (SMap.getD (Catalog.dflt o) o s.effective).int

/-- Commit a value. -/
def State.setCfg (o : Nat) (v : Val) (s : State) : State :=
  { s with settings := SMap.put Catalog.dflt o v s.settings }

/-- The settings of the indices `lo … hi` come into force: the entries of `effective` in that run are replaced by the
committed ones. -/
def adoptRun (lo hi : Nat) (settings effective : SMap Val) : SMap Val :=
  let out := effective.filter fun e => decide (e.1 / 256 < lo) || decide (hi < e.1 / 256)
  let inn := settings.filter fun e => decide (lo ≤ e.1 / 256) && decide (e.1 / 256 ≤ hi)
  inn.foldl (fun m e => SMap.insert e.1 e.2 m) out

/-- The committed settings of the indices `lo … hi` take effect now. -/
def State.adopt (lo hi : Nat) (s : State) : State := { s with effective := adoptRun lo hi s.settings s.effective }

/-- The value an RO object holds. -/
def State.shownVal (s : State) (o : Nat) : Val := SMap.getD (Catalog.dflt o) o s.shown

/-- The value an RO object holds, as a number. -/
def State.shownNat (s : State) (o : Nat) : Nat := (s.shownVal o).int.toNat

/-- Write the value of an RO object. -/
def State.setShown (o : Nat) (v : Val) (s : State) : State :=
  { s with shown := SMap.put Catalog.dflt o v s.shown }

/-- Write a number to an RO object. -/
def State.show (o : Nat) (n : Int) (s : State) : State := s.setShown o (.num n)

/-! ### Counters -/

/-- Add to one counter, modulo 2^64. -/
def bumpOne (o n : Nat) (m : SMap U64) : SMap U64 :=
  SMap.put (fun _ => 0#64) o (SMap.getD 0#64 o m + BitVec.ofNat 64 n) m

/-- Add to a counter and to the sum 0x5001.0k it adds into (R48). -/
def bump (o n : Nat) (m : SMap U64) : SMap U64 :=
  match Catalog.errorNibble o with
  | some k => bumpOne (0x500100 + k) n (bumpOne o n m)
  | none => bumpOne o n m

/-- Increment a counter of the dictionary by `n`. -/
def State.countN (o n : Nat) (s : State) : State := { s with counters := bump o n s.counters }

/-- Increment a counter of the dictionary. -/
def State.count (o : Nat) (s : State) : State := s.countN o 1

/-- The value of a counter. -/
def State.counter (s : State) (o : Nat) : U64 := SMap.getD 0#64 o s.counters

/-! ### Records -/

/-- Octets of a record, a multiple of 8 (R601). -/
def Rec.length (r : Rec) : Nat := (32 + (r.items.map Item.length).sum + 7) / 8 * 8

/-- Octets of a list of records. -/
def recsLength (l : List Rec) : Nat := (l.map Rec.length).sum

/-- Remove the oldest records of severity at most `sev` until `need` octets are free; answers what stays, what went and
the octets still wanted (R606, R607). -/
def displace (sev : Nat) : Nat → List Rec → List Rec × List Rec × Nat
  | need, [] => ([], [], need)
  | need, r :: rs =>
    if 0 < need ∧ r.sev ≤ sev then
      let d := displace sev (need - r.length) rs
      (d.1, r :: d.2.1, d.2.2)
    else
      let d := displace sev need rs
      (r :: d.1, d.2.1, d.2.2)

/-- Room in the staging buffer for a severity: the last 4 KiB takes only SAFETY records (R604). -/
def stagingRoom (sev : Nat) : Nat := if sev = 7 then 65536 else 61440

/-- Note dropped records (R607). -/
def RecorderSt.drop (n sev : Nat) (r : RecorderSt) : RecorderSt :=
  { r with dropped := r.dropped + n, dropSev := max r.dropSev sev }

/-- Highest severity of a list of records. -/
def maxSev (l : List Rec) : Nat := l.foldl (fun m r => max m r.sev) 0

/-- Stage a new record (R604, R607): the state of the recorder and the number of records dropped. Displaced records that
have not been streamed leave the stream as skipped (R615). -/
def stage (x : Rec) (r : RecorderSt) : RecorderSt × Nat :=
  let used := recsLength r.staged
  if used + x.length ≤ stagingRoom x.sev then ({ r with staged := r.staged ++ [x] }, 0)
  else
    let d := displace x.sev (used + x.length - stagingRoom x.sev) r.staged
    if d.2.2 = 0 then
      let gone := r.stream.filter fun y => d.2.1.any fun z => z.seq == y.seq
      (({ r with staged := d.1 ++ [x], skipped := r.skipped + gone.length,
                 stream := r.stream.filter fun y => !gone.contains y } : RecorderSt).drop d.2.1.length (maxSev d.2.1),
        d.2.1.length)
    else (r.drop 1 x.sev, 1)

/-- The key of a rate limit. -/
def rateKey (code scope : Nat) : Nat := code * 2 ^ 40 + scope

/-- A rate cell before its first record. -/
def RateCell.fresh : RateCell := ⟨0, 0, 0, 0⟩

/-- The rate limit's verdict on a record at a tick (R610): made or withheld, and the cell after. -/
def rateVerdict (limit : Limit) (dflt tick : Nat) (c : RateCell) : Bool × RateCell :=
  match limit with
  | .free => (true, c)
  | .once n =>
    if c.made = 0 ∨ n ≤ tick - c.start then (true, ⟨tick, 1, 0, 0⟩) else (false, { c with held := c.held + 1 })
  | .default =>
    if c.made = 0 ∨ 500000000 ≤ tick - c.start then (true, ⟨tick, 1, 0, c.prev + c.held⟩)
    else if c.made < dflt then (true, { c with made := c.made + 1 })
    else (false, { c with held := c.held + 1 })

/-- What a record needs of the rest of the state. -/
structure RecEnv where
  minSev : Nat
  dflt   : Nat
  free   : Bool
  tick   : Nat
  streamSev : Nat
  streaming : Bool

/-- Create a record if it passes the threshold and its rate limit (R600, R603, R610, R611). `mk` gives the items from
the number of records of this code and scope withheld since the last one. -/
def recordStep (e : RecEnv) (code scope : Nat) (time : FT) (mk : Nat → List Item)
    (r : RecorderSt) (m : SMap U64) : RecorderSt × SMap U64 :=
  let row := Catalog.event code
  if row.sev = 7 ∨ e.minSev ≤ row.sev then
    let c := SMap.getD RateCell.fresh (rateKey code scope) r.rates
    let v := rateVerdict row.limit e.dflt e.tick c
    let r := { r with rates := SMap.put (fun _ => RateCell.fresh) (rateKey code scope) v.2 r.rates }
    if v.1 then
      let x : Rec := ⟨r.nextSeq, code, row.sev, r.era, e.free, false, time, mk c.held, e.tick⟩
      let r := { r with nextSeq := r.nextSeq + 1,
                        stream := if e.streaming && decide (e.streamSev ≤ row.sev) then r.stream ++ [x] else r.stream }
      let d := stage x r
      (d.1, bump 0x3E2009 (d.1.skipped - r.skipped) (bump 0x3E2003 d.2 (bump 0x3E2001 1 m)))
    else (r, bump 0x3E2004 1 m)
  else (r, bump 0x3E200A 1 m)

/-- Is either record sink in use (R615)? -/
def State.streaming (s : State) : Bool :=
  s.sinkUsed 0x3E3001 || s.sinkUsed 0x3E3002

/-- The record environment of a state. -/
def State.recEnv (s : State) : RecEnv :=
  ⟨s.cfg 0x3E0100, s.cfg 0x3E0200, s.time.state == .free, s.time.ticks, s.cfg 0x3E3100, s.streaming⟩

/-- Record a happening of Field Time `t`. -/
def State.recordAt (t : FT) (code scope : Nat) (mk : Nat → List Item) (s : State) : State :=
  let d := recordStep s.recEnv code scope t mk s.rcd s.counters
  { s with rcd := d.1, counters := d.2 }

/-- Record a happening of now. -/
def State.record (code : Nat) (items : List Item) (s : State) : State := s.recordAt s.now code 0 fun _ => items

/-- Record a happening of now under a rate limit with a scope. -/
def State.recordIn (scope code : Nat) (items : List Item) (s : State) : State :=
  s.recordAt s.now code scope fun _ => items

/-- Record a happening of now whose last item counts `n` happenings and those of the records withheld since the last
record of the code and scope. -/
def State.recordSince (scope code n : Nat) (items : List Item) (s : State) : State :=
  s.recordAt s.now code scope fun held => items ++ [.u32 (min (held + n) 0xFFFFFFFF)]

/-- The key of a count "since the last record". -/
def sinceKey (code scope i : Nat) : Nat := (rateKey code scope) * 256 + i

/-- Counts since the last record of a code and scope. -/
def RecorderSt.sinceCounts (code scope n : Nat) (r : RecorderSt) : List Nat :=
  (List.range n).map fun i => SMap.getD 0 (sinceKey code scope i) r.since

/-- Replace the counts since the last record. -/
def RecorderSt.setSince (code scope : Nat) (l : List Nat) (r : RecorderSt) : RecorderSt :=
  let put := fun (m : SMap Nat) (e : Nat × Nat) => SMap.put (fun _ => 0) (sinceKey code scope e.2) e.1 m
  { r with since := (l.zip (List.range l.length)).foldl put r.since }

/-- Record a happening of now whose last items are several counts since the last record of the code and scope, each
raised by its element of `adds`. -/
def State.recordRows (scope code : Nat) (items : List Item) (adds : List Nat) (s : State) : State :=
  let l := List.zipWith (· + ·) (s.rcd.sinceCounts code scope adds.length) adds
  let t := s.recordAt s.now code scope fun _ => items ++ l.map fun n => .u32 (min n 0xFFFFFFFF)
  { t with rcd := t.rcd.setSince code scope (if t.rcd.nextSeq = s.rcd.nextSeq then l else l.map fun _ => 0) }

/-- Raise counts since the last record without recording: happenings that a later record of the code carries. -/
def State.noteSince (scope code : Nat) (adds : List Nat) (s : State) : State :=
  { s with rcd := s.rcd.setSince code scope (List.zipWith (· + ·) (s.rcd.sinceCounts code scope adds.length) adds) }

/-! ### What leaves the unit, roles, refusals -/

/-- Something leaves the unit. -/
def State.emit (o : Out) (s : State) : State := { s with out := o :: s.out }

/-- The sinks in use among `base + 1 … base + n`. -/
def State.sinksInUse (base n : Nat) (s : State) : Nat :=
  (((List.range n).map (base + 1 + ·)).filter s.sinkUsed).length

/-- The role of a writer (R568): that of its session, or 0x1020 of its CAN port; a session that is not open has none
above OBSERVER. -/
def State.roleOf (w : Writer) (s : State) : Nat :=
  if w.port.val = 0 then s.cfg 0x102001
  else if w.port.val = 1 then s.cfg 0x102002
  else match s.dict.sessions.find? fun x => x.num == w.sess.val with
    | some x => x.role
    | none => 0

/-- Answer a write that stands alone in its commit, and count the commit (R576, 0x1040.02, 0x1040.03). -/
def State.answer (w : Writer) (obj code : Nat) (s : State) : State :=
  (s.emit (.answer w.port.val w.sess.val obj code)).count (if code ≤ 1 then 0x104002 else 0x104003)

/-- The first refusal of a list of cases, in order; 0 where none applies. -/
def firstCase : List (Bool × Nat) → Nat
  | [] => 0
  | c :: cs => if c.1 then c.2 else firstCase cs

/-- A free value (assumption 5): the number the spec leaves open. -/
def State.free (s : State) : Nat := Config.freeValue s.freeCount

/-- Advance to the next free value. -/
def State.drawn (s : State) : State := { s with freeCount := s.freeCount + 1 }

/-- Is power domain `d` of R662 (table order) on? -/
def State.domainOn (d : Nat) (s : State) : Bool := s.power.domains.testBit d

/-- Is the unit one of a pair (0x3C00)? -/
def State.inPair (s : State) : Bool := s.cfg 0x3C0000 == 1

/-! ### Timeouts (R79, R80) -/

/-- Have so many ticks passed since tick `t`? A timeout whose time has not passed does nothing. -/
def State.passed (t dur : Nat) (s : State) : Bool := decide (t + dur ≤ s.ticks)

/-- Does an arrival wait in the queue? What waits arrives on this tick, since Field Time moves on an empty queue only, and R80
has arrivals judged before timeouts: a timeout then does nothing, and is judged again when its row is sent again
(assumption 1). -/
def State.arriving (p : Instr → Bool) (s : State) : Bool := s.pending.any p

/-- A timeout of `dur` ticks from tick `t`, which an arrival that satisfies `p` cancels (R79, R80). -/
def State.timedOut (t dur : Nat) (p : Instr → Bool) (s : State) : Bool := s.passed t dur && !s.arriving p

/-- Has a Field Time deadline, so many ns after a stamp, been reached? -/
def State.ripe (stamp : FT) (ns : Nat) (s : State) : Bool := FT.le (FT.addNs stamp ns) s.now

/-- Have so many CK_HB counts passed since count `c` (R78)? -/
def State.hbPassed (c n : Nat) (s : State) : Bool := decide (c + n ≤ s.time.hb)

end Sys2Proof.Machine
end

