-- ==== Sys2Proof/Machine/Comparators.lean ====
section
/-!
DEFINITION. The 32 Field Time comparators (R73 to R77): claims, arming, firing and what a time step does to them.
-/

namespace Sys2Proof.Machine

/-- One CK_TIME edge: a waiting increment takes effect, the counter advances, the slew is used up by the phase term. CK_HB is
independent of CK_TIME (R81), so on which edges of the one the other counts is open (assumption 6). -/
def TimeSt.tick (t : TimeSt) : TimeSt :=
  let terms := t.nextTerms.getD (t.freq, t.phase)
  let left := if 0 < t.remaining ∧ 0 < terms.2 then max 0 (t.remaining - terms.2)
    else if t.remaining < 0 ∧ terms.2 < 0 then min 0 (t.remaining - terms.2)
    else t.remaining
  { t with now := FT.addUnits t.now (terms.1 + terms.2), ticks := t.ticks + 1,
           hb := if Config.hbEdge t.ticks then t.hb + 1 else t.hb, freq := terms.1, phase := terms.2,
           nextTerms := none, remaining := left }

/-- Field Time at the next tick. -/
def State.nextTick (s : State) : FT := s.time.tick.now

/-- Comparator `k`. -/
def State.comparator (s : State) (k : Nat) : Comparator := s.time.comparators.getD k ⟨0, false, none, 0⟩

/-- Change comparator `k`. -/
def State.modComparator (k : Nat) (f : Comparator → Comparator) (s : State) : State :=
  { s with time.comparators := modAt s.time.comparators k f }

/-- Comparators unclaimed (0x2021). -/
def State.comparatorsFree (s : State) : Nat := (s.time.comparators.filter fun c => c.owner == 0).length

/-- The comparator that an owner code holds, if any. -/
def State.comparatorOf (s : State) (owner : Nat) : Option Nat :=
  s.time.comparators.findIdx? fun c => c.owner == owner

/-- Give an owner the lowest comparator that is free (R74); a caller checks first that one is (R75). -/
def State.claimComparator (owner : Nat) (s : State) : State :=
  match s.comparatorOf owner with
  | some _ => s
  | none =>
    match s.time.comparators.findIdx? fun c => c.owner == 0 with
    | some k => s.modComparator k fun _ => ⟨owner, false, none, 0⟩
    | none => s

/-- Release an owner's comparator (R74); the two fixed claims are never released. -/
def State.releaseComparator (owner : Nat) (s : State) : State :=
  { s with time.comparators := s.time.comparators.map fun c =>
      if c.owner == owner && decide (2 < owner) then ⟨0, false, none, 0⟩ else c }

/-- A comparator fires (R73): its edge leaves, and it rearms if it is periodic. -/
def Comparator.fired (late : Bool) (c : Comparator) : Comparator :=
  { c with late := c.late || late,
           target := match c.target with
             | some t => if c.period = 0 then none else some (FT.addNs t c.period)
             | none => none }

/-! ### The edges of PPS_OUT (R168, R169) -/

/-- The fine delay code for a remainder in units of 2^-32 ns (R168): nearest to r / 250 ps, exactly 125 ps going to the lower
code. 250 ps is 2^30 units. -/
def fineCode (r : Int) : Int := clamp 0 8 ((r + 536870911) / 1073741824)

/-- The quantisation error q = F × 250 ps − r. -/
def quantError (r : Int) : Int := fineCode r * 1073741824 - r

/-- The remainder r = D − t_k. -/
def pulseRemainder (d now : FT) : Int := (FT.units d : Int) - FT.units now

/-- Is PPS_OUT held at its inactive level (R171)? -/
def State.ppsHeld (s : State) : Bool :=
  !s.domainOn 5 || match s.power.mode with
    | .off => true | .backup => true | .boot => true | _ => false

/-- Comparator 1 has fired on the tick `tk` (R168, R169, R177): the active edge of a pulse that is due, which arms the
inactive edge, else the inactive edge, with code 0. While the output is held (R171) the pulse is dropped: no edge. -/
def State.ppsFires (tk : FT) (s : State) : State :=
  let p := s.gnss.pps
  if s.ppsHeld then { s with gnss.pps := { p with due := none, active := false } }
  else
    match p.due with
    | some d =>
      let r := pulseRemainder d tk
      let q := quantError r
      let s : State := { s with gnss.pps := { p with due := none, prevQ := q, active := true } }
      (((s.emit (.pps tk (fineCode r).toNat (!p.falling))).count 0x24800D).countN 0x248010 (b2n (q != p.predicted))).modComparator
        1 fun c => { c with target := some (FT.addNs d (p.width * 1000000)), period := 0 }
    | none =>
      let t : State := { s with gnss.pps := { p with active := false } }
      if p.active then t.emit (.pps tk 0 p.falling) else t

/-- The level of PPS_OUT, true for high (R169, R171): active and inactive level as the polarity of the latest message says. -/
def State.ppsPin (s : State) : Bool := (s.gnss.pps.active && !s.ppsHeld) != s.gnss.pps.falling

/-- The edge of AIRn_TXEN (R24, R346, R350, R357): the frame in buffer 0 goes on air, if the output stage and the port are enabled
and it is a frame for the stop state that now holds (R381); SEQ counts a frame sent (R366). -/
def State.airFires (n : Nat) (s : State) : State :=
  match (s.air.ports[n]?).bind AirPort.armed with
  | none => s
  | some f =>
    let sent := s.pair.output && (s.eff 0x300000).testBit n && f.stop == s.stop.latch
    let t : State := { s with air.ports := modAt s.air.ports n fun p =>
      { p with armed := none, seq := if sent then (p.seq + 1) % 256 else p.seq } }
    if sent then (t.emit (.air n f.chan f.psdu)).count 0x303001 else t

/-- What a comparator's edge does beyond its pin: comparator 1 places an edge of PPS_OUT, a Field Air port sends its frame. -/
def State.ownerFires (owner : Nat) (at_ : FT) (s : State) : State :=
  if owner = 2 then s.ppsFires at_
  else if 0x100 ≤ owner ∧ owner < 0x108 then s.airFires (owner - 0x100)
  else s

/-- Comparator `k` fires late at `at_` (R76, R77): flag, counter, record and edge; comparator 1 places its edge of PPS_OUT. -/
def State.fireLate (k : Nat) (target at_ : FT) (s : State) : State :=
  let owner := (s.comparator k).owner
  let t := (((s.modComparator k (Comparator.fired true)).count 0x201005).record 0x2006
    [.u16 owner, .ft target, .ft at_]).emit (.edge k owner target true)
  t.ownerFires owner at_

/-- Arm comparator `k` (R73, R76): a target too close fires on the next tick. -/
def State.armComparator (k : Nat) (target : FT) (period : Nat) (s : State) : State :=
  let s := s.modComparator k fun c => { c with target := some target, period := period }
  if FT.lt target (FT.addNs s.now 8) then s.fireLate k target s.nextTick else s

/-- Arm the comparator of an owner, if it holds one. -/
def State.armOwner (owner : Nat) (target : FT) (period : Nat) (s : State) : State :=
  match s.comparatorOf owner with
  | some k => s.armComparator k target period
  | none => s

/-- Disarm the comparator of an owner. -/
def State.disarmOwner (owner : Nat) (s : State) : State :=
  match s.comparatorOf owner with
  | some k => s.modComparator k fun c => { c with target := none, period := 0 }
  | none => s

/-- A forward step or a set moves Field Time to `new` on the tick that would have read `old` (R72, R77): every armed target
that it skips fires late (a TIO output by `State.tioJumped`), and the inactive edge of a pulse whose active edge it skipped
with it. A target that a backward set leaves ahead stays armed, and a comparator that has fired does not fire again.
DESIGN CHOICE (assumption 25): the spec does not say whether a target equal to the replaced second `old` itself is skipped;
here it is not: that comparator is due on this very tick (R73) and fires by its own COMPARATOR_FIRE, without LATE. -/
def State.skipComparators (old new : FT) (s : State) : State :=
  each (List.range 32 ++ [1]) (fun k s =>
    match (s.comparator k).target with
    | some t => if FT.le t new && FT.lt old t && decide ((s.comparator k).owner < 0x300) then s.fireLate k t new else s
    | none => s) s

/-- The slot tick rearms on the 4 ms grid of the new time (R72, R74). -/
def State.rearmSlotTick (s : State) : State :=
  s.modComparator 0 fun c => { c with target := some (FT.addNs (FT.slotStart s.now) 4000000) }

end Sys2Proof.Machine
end

