-- ==== Sys2Proof/Machine/Claims.lean ====
section
/-!
DEFINITION. Pin ownership (R593 to R596, R703 to R715): ball numbers, the balls of each feature, the claim words and the
claims of a commit; and the comparator claims of a commit (R75).
-/

namespace Sys2Proof.Machine

/-- The number of the ball in row `r`, column `c` (R593). -/
def ball (r c : Nat) : Nat := 22 * r + c - 1

/-- A feature of R594: its code (1 AIR, 2 AX, 3 TAL, 4 TIO, 5 ETH, 6 CAN) and its instance. -/
structure Feature where
  code : Nat
  inst : Nat
  deriving DecidableEq, Repr

/-- The balls of AIRn in AIR signal order (R708, R713). -/
def airBalls (n : Nat) : List Nat :=
  [18, 19, 20, 21].flatMap fun r => [ball r (2 * n + 1), ball r (2 * n + 2)]

/-- The columns of the tally inputs in rows V and W (R708). -/
def tallyColumns : List Nat := [2, 3, 5, 6, 8, 9, 11, 12]

/-- The balls that a feature claims, in ascending order, and the number of their function (R705, R707, R708, R713 to
R715). -/
def Feature.balls (f : Feature) : List Nat × Nat :=
  let n := f.inst
  match f.code with
  | 1 => (airBalls n, 1)
  | 2 =>
    ((List.range 7).map (fun c => ball (6 + n) (c + 1)) ++ [if n < 4 then ball 13 (16 + n) else ball 14 (12 + n)], 1)
  | 3 =>
    if n < 8 then ([ball 16 (tallyColumns.getD n 0)], 1)
    else if n < 16 then ([ball 17 (tallyColumns.getD (n - 8) 0)], 1)
    else if n < 24 then ([(airBalls 6).getD (n - 16) 0], 2)
    else ([(airBalls 7).getD (n - 24) 0], 2)
  | 4 =>
    if n < 6 then ([ball 18 (17 + n)], 1)
    else if n < 8 then ([ball 19 (11 + n)], 1)
    else ([(airBalls 5).getD (n - 8) 0], 2)
  | 5 =>
    if n < 2 then ([18, 19, 21, 22].map (ball (6 + n)), 1)
    else (([0, 1].flatMap fun k => [8, 9, 10, 11, 12, 13].map (ball (2 * n - 2 + k))), 1)
  | _ => ([ball 19 (19 + 2 * n), ball 19 (20 + 2 * n)], 1)

/-- The claim word of a ball held by a feature (R594, R714). -/
def Feature.word (f : Feature) : Nat := 2 ^ 31 + f.code * 65536 + f.inst * 256 + f.balls.2

/-- Is the ball in row `r`, column `c` a supply or VSS ball (R704 to R708)? -/
def supplyBall (r c : Nat) : Bool :=
  if r < 6 then
    if 8 ≤ c ∧ c ≤ 15 then [(1, 13), (2, 14), (3, 14), (4, 14), (4, 15), (5, 14), (5, 15)].contains (r, c)
    else
      [(0, 1), (1, 6), (1, 7), (2, 7), (3, 6), (3, 7), (4, 7), (5, 7)].contains (r, if 16 ≤ c then 23 - c else c)
  else if r < 16 then
    if c ≤ 7 then decide (14 ≤ r)
    else if c ≤ 15 then true
    else match r with
      | 10 => decide (21 ≤ c)
      | 11 => c == 20 || c == 21
      | 12 => decide (18 ≤ c)
      | 13 => decide (20 ≤ c)
      | 14 => c == 21
      | 15 => decide (18 ≤ c)
      | _ => c == 16 || c == 17 || c == 20
  else if r < 18 then !(tallyColumns.contains c || (r == 16 && c == 18))
  else false

/-- The claim word of a ball of fixed function (R594, R714). -/
def fixedWord (b : Nat) : Nat := 0x80FF0000 + (if supplyBall (b / 22) (b % 22 + 1) then 0 else 1)

/-- Every feature (R594). -/
def allFeatures : List Feature :=
  let run := fun (code n : Nat) => (List.range n).map (Feature.mk code)
  run 1 8 ++ run 2 8 ++ run 3 32 ++ run 4 16 ++ run 5 4 ++ run 6 2

/-- Can a feature claim the ball? -/
def featureBall (b : Nat) : Bool := allFeatures.any fun f => f.balls.1.contains b

/-- The object whose value enables a feature (R595). -/
def Feature.obj (f : Feature) : Nat :=
  match f.code with
  | 1 => 0x300000 | 2 => (0x3800 + f.inst) * 256 + 1 | 3 => 0x3A0000 | 4 => (0x2080 + f.inst) * 256 + 1
  | 5 => 0x360000 | _ => 0x366000

/-- Do the committed settings enable a feature? -/
def State.featureOn (f : Feature) (s : State) : Bool :=
  let v := s.cfg f.obj
  match f.code with
  | 2 => v != 0
  | 4 => v != 0
  | _ => v.testBit f.inst

/-- The features enabled, in ascending order of their enabling objects (R596). -/
def State.features (s : State) : List Feature := allFeatures.filter fun f => s.featureOn f

/-- The claim words of the features enabled. -/
def claimWords (l : List Feature) : SMap Nat :=
  l.foldl (fun m f => f.balls.1.foldl (fun m b => SMap.put (fun _ => 0) b f.word m) m) []

/-- Note at a tick how the claim word of a ball changes (R717): a ball released or given to another function is high impedance
for 1 µs; a ball free before this tick is claimed without that. -/
def noteTurn (tick : Nat) (old new m : SMap Nat) (b : Nat) : SMap Nat :=
  if SMap.getD 0 b old = SMap.getD 0 b new then m
  else if SMap.getD 0 b old = 0 ∧ SMap.getD 0 b m ≠ tick + 500 then SMap.erase b m
  else SMap.put (fun _ => 0) b (tick + 500) m

/-- The claims follow the committed settings (R595, R596). -/
def State.claimBalls (s : State) : State :=
  let new := claimWords s.features
  { s with dict.claims := new,
           dict.turning := (s.dict.claims.keys ++ new.keys).foldl (noteTurn s.ticks s.dict.claims new) s.dict.turning }

/-- Is a tally input so newly claimed from another function that its inactive level has not lasted DEBOUNCE (R717)? `debounce` is
in CK_TIME ticks. -/
def State.tallyTurning (k debounce : Nat) (s : State) : Bool :=
  let t := SMap.getD 0 ((Feature.mk 3 k).balls.1.headD 0) s.dict.turning
  t != 0 && decide (s.ticks < t + debounce)

/-- Is an object one that enables features (R595)? -/
def enabling (o : Nat) : Bool :=
  [0x300000, 0x360000, 0x366000, 0x3A0000].contains o ||
    (o % 256 == 1 && ((decide (0x2080 ≤ o / 256) && decide (o / 256 ≤ 0x208F)) ||
      (decide (0x3800 ≤ o / 256) && decide (o / 256 ≤ 0x3807))))

/-- 0x1F01: the claim word of a ball. -/
def State.claimWord (b : Nat) (s : State) : Nat :=
  if featureBall b then SMap.getD 0 b s.dict.claims else fixedWord b

/-- Claims made one by one upon `held`: the first ball that is already held, with its object and its holder's word. -/
def firstClash : List Feature → SMap Nat → Option (Nat × Nat × Nat)
  | [], _ => none
  | f :: l, held =>
    match f.balls.1.find? fun b => SMap.getD 0 b held != 0 with
    | some b => some (f.obj, b, SMap.getD 0 b held)
    | none => firstClash l (f.balls.1.foldl (fun m b => SMap.put (fun _ => 0) b f.word m) held)

/-- The refusal under R595 of a commit that writes the objects `objs` in staged order and would leave the settings of
`t`: the object, the ball and the holder's claim word. -/
def State.claimClash (objs : List Nat) (t s : State) : Option (Nat × Nat × Nat) :=
  let stay := s.features.filter fun f => t.featureOn f
  let fresh := (objs.eraseDups).flatMap fun o => allFeatures.filter fun f => f.obj == o && t.featureOn f && !s.featureOn f
  firstClash fresh (claimWords stay)

/-! ### Comparators (R74, R75) -/

/-- The owner codes of the features that claim a comparator (R74). -/
def State.comparatorOwners (s : State) : List Nat :=
  (s.features.filter fun f => f.code == 1 || f.code == 2 || (f.code == 4 && decide (s.cfg f.obj ≤ 2))).map fun f =>
    (if f.code = 4 then 0x300 else f.code * 0x100) + f.inst

/-- How many comparators the settings claim. -/
def State.comparatorsWanted (s : State) : Nat := s.comparatorOwners.length

/-- A commit that would leave the settings of `t` makes its releases first (R75, R595). -/
def State.comparatorsLeave (t s : State) : State :=
  each (s.comparatorOwners.filter fun o => !t.comparatorOwners.contains o) State.releaseComparator s

end Sys2Proof.Machine
end

