-- ==== Sys2Proof/Machine/Frames.lean ====
section
/-!
DEFINITION. What leaves an Ethernet port: the octets of frames (R12, R426, R430, R431) and the transmit queues (R432).
-/

namespace Sys2Proof

/-! ### Octets in network order (R12) -/

/-- `k` octets at `i` as a number, most significant first. -/
def beField (bs : List Byte) (i k : Nat) : Nat := beNat ((bs.drop i).take k)

/-- The low `k` octets of a number, most significant octet first. -/
def beBytes (k n : Nat) : List Byte := (leBytes k n).reverse

/-- The ones' complement sum of 16-bit words, folded. -/
def onesSum : List Byte → Nat
  | [] => 0
  | [a] => a.toNat * 256
  | a :: b :: l =>
    let t := onesSum l + a.toNat * 256 + b.toNat
    if 0xFFFF < t then t - 0xFFFF else t

/-- The Internet checksum of octets whose checksum field is zero. -/
def inetSum (b : List Byte) : List Byte := beBytes 2 (0xFFFF - onesSum b)

/-- One bit of CRC-32. -/
def crc32Bit (c : Nat) : Nat := if c % 2 = 1 then (c / 2) ^^^ 0xEDB88320 else c / 2

/-- One octet of CRC-32. -/
def crc32Byte (c : Nat) (b : Byte) : Nat :=
  crc32Bit (crc32Bit (crc32Bit (crc32Bit (crc32Bit (crc32Bit (crc32Bit (crc32Bit (c ^^^ b.toNat))))))))

/-- The FCS of a frame, as its four last octets (R431; IEEE 802.3). -/
def fcs (b : List Byte) : List Byte := leBytes 4 ((b.foldl crc32Byte 0xFFFFFFFF) ^^^ 0xFFFFFFFF)

/-- Does a frame end in its FCS? -/
def fcsGood (f : List Byte) : Bool := fcs (f.take (f.length - 4)) == f.drop (f.length - 4)

/-- A frame, tagged with VID `vid` unless that is 0 (R432), filled up to 64 octets, with its FCS (R431). -/
def etherFrame (vid pcp : Nat) (dst src : List Byte) (type : Nat) (payload : List Byte) : List Byte :=
  let tag := if vid = 0 then [] else beBytes 2 0x8100 ++ beBytes 2 (pcp * 8192 + vid)
  let f := dst ++ src ++ tag ++ beBytes 2 type ++ payload
  let g := f ++ zeros (60 - f.length)
  g ++ fcs g

/-- An IPv4 packet without options, DF set, with its header checksum (R431). -/
def ipv4Packet (proto : Nat) (src dst data : List Byte) : List Byte :=
  let head := fun (sum : List Byte) =>
    [0x45#8, Config.ipTos] ++ beBytes 2 (20 + data.length) ++ beBytes 2 Config.ipIdent ++ [0x40#8, 0#8, Config.ipTtl, byte proto] ++
      sum ++ src ++ dst
  head (inetSum (head [0#8, 0#8])) ++ data

/-- A UDP datagram; its checksum is never sent as zero (R431). -/
def udpDatagram (src dst : List Byte) (sport dport : Nat) (payload : List Byte) : List Byte :=
  let n := 8 + payload.length
  let head := fun (sum : List Byte) => beBytes 2 sport ++ beBytes 2 dport ++ beBytes 2 n ++ sum
  let sum := inetSum (src ++ dst ++ [0#8, 17#8] ++ beBytes 2 n ++ head [0#8, 0#8] ++ payload)
  head (if sum = [0#8, 0#8] then [0xFF#8, 0xFF#8] else sum) ++ payload

/-- An ARP packet: operation 1 request or 2 reply. -/
def arpPacket (op : Nat) (srcMac srcIp dstMac dstIp : List Byte) : List Byte :=
  beBytes 2 1 ++ beBytes 2 0x0800 ++ [6#8, 4#8] ++ beBytes 2 op ++ srcMac ++ srcIp ++ dstMac ++ dstIp

/-- The echo reply to an ICMP echo request (R433). -/
def echoReply (icmp : List Byte) : List Byte :=
  let rest := icmp.drop 4
  [0#8, 0#8] ++ inetSum ([0#8, 0#8, 0#8, 0#8] ++ rest) ++ rest

/-- The broadcast address. -/
def broadcastMac : List Byte := List.replicate 6 0xFF#8

end Sys2Proof

namespace Sys2Proof.Machine

/-! ### Ports and identities (R417, R426, R427) -/

/-- Port `p`. -/
def State.ethPort (s : State) (p : Nat) : EthPort := s.net.eth.getD p .init

/-- Change port `p`. -/
def State.modEth (p : Nat) (f : EthPort → EthPort) (s : State) : State := { s with net.eth := modAt s.net.eth p f }

/-- Count under 0x3640 + p. -/
def State.countEth (p sub : Nat) (s : State) : State := s.count ((0x3640 + p) * 256 + sub)

/-- Does ETHp operate (R417)? -/
def State.ethOperates (p : Nat) (s : State) : Bool :=
  (s.cfg 0x360000).testBit p &&
    match s.power.mode with
    | .off => false | .backup => false | .boot => false | _ => true

/-- Is the link of port `p` up? -/
def State.linkUp (p : Nat) (s : State) : Bool :=
  s.ethOperates p && decide ((s.ethPort p).link % 16 ≠ 0) && !(s.ethPort p).link.testBit 5

/-- The unit address of port `p`. -/
def State.unitIp (p : Nat) (s : State) : List Byte := s.cfgOct (0x360401 + p)

/-- The role address of port `p`. -/
def State.roleIp (p : Nat) (s : State) : List Byte := s.cfgOct (0x360701 + p)

/-- Is the role identity of ETHp live (R427)? -/
def State.roleLive (p : Nat) (s : State) : Bool := s.pair.output && (s.roleIp p != zeros 4)

/-- The role MAC of ETHp (R426). -/
def State.roleMac (p : Nat) (s : State) : List Byte :=
  if s.cfgOct (0x360801 + p) = zeros 6 then Config.unitMac p else s.cfgOct (0x360801 + p)

/-! ### The transmit queues (R432) -/

/-- Ticks of so many octets at a rate of 0x3601 bits 3:0, with preamble and gap. -/
def frameTicks (rate n : Nat) : Nat := ((n + 20) * ([0, 4000, 400, 40, 16, 8, 4].getD rate 0) + 9) / 10

/-- A frame goes out at port `p`. -/
def State.transmit (p : Nat) (x : TxItem) (s : State) : State :=
  ((s.modEth p fun e => { e with busy := s.ticks + frameTicks (e.link % 16) x.size }).emit x.out).countEth p 2

/-- Has the port nothing to send and nothing in transmission? -/
def EthPort.txIdle (now : Nat) (e : EthPort) : Bool := decide (e.busy ≤ now) && e.tx.all List.isEmpty

/-- A frame of class `cls` is offered to port `p`: it goes out at once, waits, or is dropped where its queue holds 64 frames.
What is offered to a port whose link is down does not leave (DESIGN CHOICE, assumption 29). -/
def State.offer (p cls : Nat) (x : TxItem) (s : State) : State :=
  if !s.linkUp p then s
  else if (s.ethPort p).txIdle s.ticks then s.transmit p x
  else if ((s.ethPort p).tx.getD cls []).length < 64 then s.modEth p fun e => { e with tx := modAt e.tx cls (· ++ [x]) }
  else s.countEth p 0x0D

/-- The oldest frame of the highest class that waits, of the classes below `n`. -/
def nextTx (q : List (List TxItem)) : Nat → Option (Nat × TxItem)
  | 0 => none
  | n + 1 =>
    match (q.getD n []).head? with
    | some x => some (n, x)
    | none => nextTx q n

/-- Port `p` sends the next frame once the one in transmission has ended. -/
def State.drainPort (p : Nat) (s : State) : State :=
  if s.linkUp p && decide ((s.ethPort p).busy ≤ s.ticks) then
    match nextTx (s.ethPort p).tx 4 with
    | some x => (s.modEth p fun e => { e with tx := modAt e.tx x.1 (List.drop 1) }).transmit p x.2
    | none => s
  else s

/-- Every port sends what it may (R432). -/
def State.drainPorts (s : State) : State := each (List.range 4) State.drainPort s

/-- PCP of a class (R432, 0x360A). -/
def State.pcpOf (p cls : Nat) (s : State) : Nat :=
  if 2 ≤ cls then s.cfg (0x360A01 + p) % 8 else s.cfg (0x360A01 + p) / 16 % 8

/-- The source MAC address of what leaves port `p`: the role MAC with the role address (R426, R430). -/
def State.sourceMac (role : Bool) (p : Nat) (s : State) : List Byte :=
  if role && (s.roleIp p != zeros 4) then s.roleMac p else Config.unitMac p

/-- The source address of what leaves port `p` (R430): the role address, where one is set, or the unit address. -/
def State.sourceIp (role : Bool) (p : Nat) (s : State) : List Byte :=
  if role && (s.roleIp p != zeros 4) then s.roleIp p else s.unitIp p

/-- A frame of the unit's own is offered to port `p`. -/
def State.sendFrame (p cls : Nat) (src dst : List Byte) (type : Nat) (payload : List Byte) (s : State) : State :=
  let f := etherFrame (s.cfg (0x360901 + p)) (s.pcpOf p cls) dst src type payload
  s.offer p cls ⟨.eth p f, f.length⟩

end Sys2Proof.Machine
end

