-- ==== Sys2Proof/Machine/Signals.lean ====
section
/-!
DEFINITION. The signals (R88, R119, R120, R145), their carriers and codes, CRC-24Q, fractions of sums of squares (R135).
-/

namespace Sys2Proof

/-! ### The table of signals -/

/-- A row of R119 with its carrier of R88: code, upper band, IF and its step per GLONASS channel in Hz, chip rate in chips a
second, primary code period in ms, tracked component a pilot, replica BOC(1,1) rather than BPSK (R120), and the rows of R145
for its message. -/
structure SignalRow where
  code   : Nat
  upper  : Bool
  freq   : Int
  step   : Int
  rate   : Nat
  period : Nat
  pilot  : Bool
  boc    : Bool
  units  : List Nat
  deriving DecidableEq, Repr

/-- The signals, row 0 first. The code of L2C counts the chips of CM and CL together, 20,460 in the 20 ms of CM. -/
def signalRows : List SignalRow := [
  ⟨0x01, true, -8580000, 0, 1023000, 1, false, false, [0]⟩, ⟨0x02, true, -8580000, 0, 1023000, 10, true, true, [2, 3]⟩,
  ⟨0x03, false, -4400000, 0, 1023000, 20, true, false, [1]⟩, ⟨0x04, false, -55550000, 0, 10230000, 1, true, false, [1]⟩,
  ⟨0x11, true, -8580000, 0, 1023000, 4, true, true, [4]⟩, ⟨0x12, false, -55550000, 0, 10230000, 1, true, false, [5]⟩,
  ⟨0x13, false, -24860000, 0, 10230000, 1, true, false, [4]⟩, ⟨0x14, false, 46750000, 0, 5115000, 1, true, false, [6]⟩,
  ⟨0x21, true, -22902000, 0, 2046000, 1, false, false, [7]⟩, ⟨0x22, true, -8580000, 0, 1023000, 10, true, true, [8]⟩,
  ⟨0x23, false, -55550000, 0, 10230000, 1, true, false, [9]⟩, ⟨0x24, false, -24860000, 0, 10230000, 1, false, false, [10]⟩,
  ⟨0x25, false, 36520000, 0, 10230000, 1, false, false, [7]⟩, ⟨0x31, true, 18000000, 562500, 511000, 1, false, false, [11]⟩,
  ⟨0x32, false, 14000000, 437500, 511000, 1, false, false, [11]⟩,
  ⟨0x33, false, -29975000, 0, 10230000, 1, true, false, [12]⟩]

/-- The row number of a signal code. -/
def signalIndex (code : Nat) : Option Nat := signalRows.findIdx? fun r => r.code == code

/-- The row of a signal code. -/
def signalRow (code : Nat) : Option SignalRow := signalRows.find? fun r => r.code == code

/-- Is the tracked component of a signal a pilot (R121)? -/
def isPilot (code : Nat) : Bool := (signalRow code).any fun r => r.pilot

/-- Is a signal GLONASS FDMA (R88)? -/
def isFdma (code : Nat) : Bool := code == 0x31 || code == 0x32

/-- The constellation of a signal: 0 GPS, 1 Galileo, 2 BeiDou, 3 GLONASS. -/
def constellation (code : Nat) : Nat := code / 16

/-- The IF of a signal in Hz; GLO_K is k + 7. -/
def SignalRow.intermediate (gloK : Nat) (r : SignalRow) : Int := r.freq + r.step * ((gloK : Int) - 7)

/-- The carrier of a signal in Hz: IF plus the LO of its band (R88). -/
def SignalRow.carrier (gloK : Nat) (r : SignalRow) : Int :=
  r.intermediate gloK + (if r.upper then 1584000000 else 1232000000)

/-- Every IF of the signals that a chain's band carries, GLONASS channels −7 to +6 among them (R88, R103). -/
def bandFrequencies (upper : Bool) : List Int :=
  (signalRows.filter fun r => r.upper == upper).flatMap fun r =>
    if r.step = 0 then [r.freq] else (List.range 14).map fun k => r.intermediate k

/-- Chips of the code in one millisecond. -/
def SignalRow.perMs (r : SignalRow) : Nat := r.rate / 1000

/-- The units of 2^-32 chip in one millisecond of code time. -/
def SignalRow.msUnits (r : SignalRow) : Nat := r.perMs * 4294967296

/-- The units of 2^-32 chip in the primary code. -/
def SignalRow.codeUnits (r : SignalRow) : Nat := r.msUnits * r.period

/-- The length in ms of a data symbol of the tracked component, none where that is a pilot (R134). PRESUMED from the signals'
interface specifications; 2 ms for the D2 message of the geostationary BeiDou satellites (assumption 27). -/
def symbolMs (code sv : Nat) : Option Nat :=
  if isPilot code then none
  else if code = 0x24 then some 1
  else if code = 0x31 ∨ code = 0x32 then some 10
  else if code / 16 = 2 ∧ (sv ≤ 5 ∨ 59 ≤ sv) then some 2
  else some 20

/-- The coherent interval in TRACK and LOCKED (R134): the longest of 1, 2, 4, 5, 10 and 20 ms that does not exceed 0x2438 and
divides the data symbol. -/
def coherentMs (limit : Nat) (symbol : Option Nat) : Nat :=
  ([20, 10, 5, 4, 2].find? fun n => decide (n ≤ limit) && symbol.all fun m => decide (m % n = 0)).getD 1

/-! ### Words of the NCOs (R123 to R126, R132) -/

/-- The carrier word of an IF plus a Doppler in Hz, to the nearest word (R123: words × 10,000 = Hz × 262,144). -/
def carrierWord (hz : Int) : Int := (hz * 262144 + 5000) / 10000

/-- The code word at a Doppler in Hz (R124): the nominal chip rate scaled with the carrier, to the nearest word. -/
def SignalRow.codeWord (gloK : Nat) (doppler : Int) (r : SignalRow) : Int :=
  let f := r.carrier gloK
  ((r.rate : Int) * (f + doppler) * 2 * 262144 + 10000 * f) / (2 * 10000 * f)

/-- The apparent Doppler of a carrier word in Hz, rounded down. -/
def SignalRow.dopplerOf (gloK : Nat) (word : Int) (r : SignalRow) : Int := word * 10000 / 262144 - r.intermediate gloK

/-- The least integer `n` with `n × 10,000 ≥ z`. -/
def ceilWord (z : Int) : Int := -((-z) / 10000)

/-- A carrier word within ±20 kHz of the IF (R125). -/
def clampCarrier (r : SignalRow) (gloK : Nat) (f : Int) : Int :=
  clamp (ceilWord ((r.intermediate gloK - 20000) * 262144)) ((r.intermediate gloK + 20000) * 262144 / 10000) f

/-- A code word within ±2 × 10⁻⁵ of the nominal rate (R125). -/
def clampCode (r : SignalRow) (f : Int) : Int :=
  let lo : Int := (r.rate : Int) * 262144 * 99998
  let hi : Int := (r.rate : Int) * 262144 * 100002
  clamp (-((-lo) / 1000000000)) (hi / 1000000000) f

/-! ### Navigation units (R145) -/

/-- The data bits that a unit of a row may have. -/
def unitLengths : Nat → List Nat
  | 0 => [30] | 1 => [300] | 2 => [600, 274] | 3 => [9] | 4 => [240] | 5 => [244] | 6 => [492] | 7 => [30]
  | 8 => [600, 264] | 9 => [288] | 10 => [486] | 11 => [85] | 12 => [300] | _ => []

/-- Is the check of a row CRC-24Q over the unit's own data bits? -/
def unitCrc (row : Nat) : Bool := [1, 2, 8, 9, 10].contains row

/-- One bit through the shift register of CRC-24Q, generator 0x1864CFB. -/
def crcBit (r : Nat) (b : Bool) : Nat :=
  let x := 2 * r % 16777216
  if (decide (8388608 ≤ r)) != b then x ^^^ 0x864CFB else x

/-- CRC-24Q of a bit string: 0 for one that ends in its own check. -/
def crc24q (l : List Bool) : Nat := l.foldl crcBit 0

/-- The bits of an octet, bit 7 first. -/
def byteBits (b : Byte) : List Bool := [7, 6, 5, 4, 3, 2, 1, 0].map fun i => b.toNat.testBit i

/-- The bits of an octet string, bit 7 of the first octet first. -/
def bytesBits (l : List Byte) : List Bool := l.flatMap byteBits

/-- A bit string as a number, most significant bit first. -/
def bitsNat (l : List Bool) : Nat := l.foldl (fun n b => 2 * n + b2n b) 0

/-- `k` octets from a bit string: bit 7 of the first octet first, zeros after the string's end (R147). -/
def packBits : Nat → List Bool → List Byte
  | 0, _ => []
  | k + 1, l => byte (bitsNat ((l ++ List.replicate 8 false).take 8)) :: packBits k (l.drop 8)

/-- The low `w` bits of a number, most significant first. -/
def natBits : Nat → Nat → List Bool
  | 0, _ => []
  | w + 1, n => n.testBit w :: natBits w n

/-! ### Exact means (R135, R136, R161) -/

/-- A sum of fractions as numerator and denominator. -/
def fracAdd (a b : Int × Nat) : Int × Nat := (a.1 * b.2 + b.1 * a.2, a.2 * b.2)

/-- The sum of a list of fractions. -/
def fracSum (l : List (Int × Nat)) : Int × Nat := l.foldl fracAdd (0, 1)

/-- The term of R135 for a coherent sum; one without power has a free value (assumption 5). -/
def pliTerm (i q : Int) : Int × Nat :=
  let d := (i * i + q * q).toNat
  if d = 0 then (Config.powerless, 1) else (i * i - q * q, d)

/-- The newest intervals that together span `ms`; none where they do not reach so far. -/
def windowOf : List (Nat × Int × Int) → Nat → Option (List (Nat × Int × Int))
  | [], ms => if ms = 0 then some [] else none
  | x :: l, ms => if ms = 0 then some [] else (windowOf l (ms - max 1 x.1)).map fun r => x :: r

/-- The phase lock indicator over the last `ms` milliseconds of a state, in 0.01 and as a fraction (R135): none while the state
has not lasted so long. -/
def pliOver (ms : Nat) (l : List (Nat × Int × Int)) : Option (Int × Nat) :=
  (windowOf l ms).map fun w =>
    let s := fracSum (w.map fun x => pliTerm x.2.1 x.2.2)
    (100 * s.1, s.2 * w.length)

/-- The square of the magnitude of a tap sum. -/
def IQ.power (x : IQ) : Nat := (x.i.toInt * x.i.toInt + x.q.toInt * x.q.toInt).toNat

/-- The largest `c` below 2^16 with 10^(c / 1000) ≤ a / b, for a ≥ b: 0.01 dB of a power ratio, rounded down. -/
def centibels (a b : Nat) : Nat :=
  [15, 14, 13, 12, 11, 10, 9, 8, 7, 6, 5, 4, 3, 2, 1, 0].foldl (fun c i =>
    if 10 ^ (c + 2 ^ i) * b ^ 1000 ≤ a ^ 1000 then c + 2 ^ i else c) 0

/-- C/N0 in 0.01 dB-Hz from dumps (R136): S and N the sums of prompt and noise power over as many dumps; 0 for S ≤ N. The
rounding, down to 0.01 dB and never below 0, is a DESIGN CHOICE (assumption 27); without any noise the value is free
(assumption 5). -/
def carrierToNoise (l : List Taps) : Nat :=
  let p := (l.map fun t => t.p.power).sum
  let n := (l.map fun t => t.n.power).sum
  if p ≤ n then 0 else if 1000 * (p - n) < n then 0 else if n = 0 then (Config.powerless % 65536).toNat else centibels (1000 * (p - n)) n

/-! ### Blocks, dumps and records -/

/-- Sum of I² + Q² over the samples of a block (R91). -/
def Block.power (b : Block) : Nat := (b.samples.map fun x => (x.1.toInt * x.1.toInt + x.2.toInt * x.2.toInt).toNat).sum

/-- Does a sample stand at −128 or +127 (R92)? -/
def clipped (x : BitVec 8) : Bool := x == 0x80#8 || x == 0x7F#8

/-- Are more than 1 % of the I or of the Q samples at a limit (R92)? -/
def Block.saturated (b : Block) : Bool :=
  decide (10 < (b.samples.filter fun x => clipped x.1).length) || decide (10 < (b.samples.filter fun x => clipped x.2).length)

/-- Is a block whole: its CRC good and 1,024 samples in it (R21)? -/
def Block.intact (b : Block) : Bool := b.ok && decide (b.samples.length = 1024)

/-- The tap sums as the bank writes them: no pilot prompt for a data-only signal (R121). -/
def Taps.written (pilot : Bool) (t : Taps) : Taps := if pilot then t else { t with pp := ⟨0#32, 0#32⟩ }

/-- The prompt sum that lock is judged on (R134, R135): PP for a data-plus-pilot signal, P otherwise. -/
def promptTap (pilot : Bool) (t : Taps) : IQ := if pilot then t.pp else t.p

/-- The correlation asymmetry of a dump: (|VE| − |VL|) / |P|, magnitudes to 2^-16; without prompt power a free value. -/
def asymmetry (t : Taps) : Int × Nat :=
  let g := fun (x : IQ) => Nat.sqrt (x.power * 4294967296)
  if g t.p = 0 then (Config.powerless, 1) else ((g t.ve : Int) - g t.vl, g t.p)

/-- The key of a satellite. -/
def svKey (signal sv : Nat) : Nat := constellation signal * 256 + sv % 256

/-- The 32 octets of a record. -/
def MeasRec.bytes (r : MeasRec) : List Byte := leBytes 8 r.w0 ++ leBytes 8 r.w1 ++ leBytes 8 r.w2 ++ leBytes 8 r.w3

/-- Pseudorange minus carrier range of a record in 2^-20 m: phase × wavelength, the wavelength c / f (R153, R161). -/
def MeasRec.codeMinusCarrier (hz : Int) (m : MeasRec) : Int :=
  (m.w1 : Int) - toSigned 64 m.w2 * 299792458 * 16 / max 1 hz

/-- PR_VALID of a record (R142). -/
def MeasRec.prValid (m : MeasRec) : Bool := m.w0.testBit 41

/-- CP_VALID of a record (R142). -/
def MeasRec.cpValid (m : MeasRec) : Bool := m.w0.testBit 40

/-- SLIP of a record (R142). -/
def MeasRec.slip (m : MeasRec) : Bool := m.w0.testBit 38

/-- CHAIN_NOT_NORMAL of a record (R142). -/
def MeasRec.notNormal (m : MeasRec) : Bool := m.w0.testBit 37

/-- EXCLUDED of a record (R142). -/
def MeasRec.excluded (m : MeasRec) : Bool := m.w0.testBit 36

/-- MULTIPATH of a record (R142). -/
def MeasRec.multipath (m : MeasRec) : Bool := m.w0.testBit 34

/-- SIGNAL of a record (R142). -/
def MeasRec.signal (m : MeasRec) : Nat := m.w0 / 2 ^ 56

/-- SV of a record (R142). -/
def MeasRec.sv (m : MeasRec) : Nat := m.w0 / 2 ^ 48 % 256

/-- CHAIN of a record (R142). -/
def MeasRec.chain (m : MeasRec) : Nat := m.w0 / 2 ^ 46 % 4

/-- GLO_K of a record (R142). -/
def MeasRec.gloK (m : MeasRec) : Nat := m.w0 / 2 ^ 42 % 16

/-- CARRIER_PHASE of a record (R142). -/
def MeasRec.phase (m : MeasRec) : Int := toSigned 64 m.w2

/-- DOPPLER of a record (R142). -/
def MeasRec.doppler (m : MeasRec) : Int := toSigned 32 (m.w3 / 2 ^ 32)

/-- PR_SD of a record (R142). -/
def MeasRec.prSd (m : MeasRec) : Nat := m.w3 / 256 % 256

/-- The carrier of a record in Hz. -/
def MeasRec.carrier (m : MeasRec) : Int := ((signalRow m.signal).map fun r => r.carrier m.gloK).getD 1

/-- PR_SD for the base observables and GNSS time (R162): times 4 where MULTIPATH stands, saturating at 255. -/
def usedSd (multipath : Bool) (sd : Nat) : Nat := if multipath then min 255 (4 * sd) else sd

/-- The signal of a record in a solution; `l` holds every record that enters it. -/
def MeasRec.solOb (l : List (Nat × MeasRec)) (multipath : Bool) (eph : List Byte) (m : MeasRec) : SolOb :=
  { signal := m.signal, sv := m.sv, gloK := m.gloK, range := m.w1, sd := usedSd multipath m.prSd, eph := eph,
    dual := l.any fun e => svKey e.2.signal e.2.sv == svKey m.signal m.sv && e.2.chain != m.chain }

/-- A record as a base observable: PR_SD under R162. -/
def MeasRec.based (m : MeasRec) : MeasRec :=
  { m with w3 := m.w3 - m.prSd * 256 + usedSd m.multipath m.prSd * 256 }

/-- Is a unit one that a signal carries, with a length of its row (R145)? -/
def NavUnit.fits (r : SignalRow) (u : NavUnit) : Bool := r.units.contains u.row.val && (unitLengths u.row.val).contains u.bits.length

/-- The verdict of its check (R145). -/
def NavUnit.pass (u : NavUnit) : Bool := if unitCrc u.row.val then crc24q u.bits == 0 else u.ok

/-- The ephemerides of a satellite. -/
def Machine.State.ephemeris (signal sv : Nat) (s : Machine.State) : Machine.Ephemeris := Machine.SMap.getD ⟨none, none⟩ (svKey signal sv) s.gnss.ephs

end Sys2Proof
end

