-- ==== Sys2Proof/Machine/Akris.lean ====
section
/-!
DEFINITION. The octets of the Akris link (R535 to R543, R552, R557): frames with header and CRC, and the payloads that the
peer sends. Fields are little-endian (R11); reserved octets are sent as zero and ignored on receipt (R13).
-/

namespace Sys2Proof.Machine

/-- A frame as it leaves on a lane (R535). -/
def linkOctets (retry : Bool) (lane ack : Nat) (f : LinkFrame) : List Byte :=
  let b := [byte f.kind, byte (b2n retry + 2 * lane)] ++ leBytes 2 f.payload.length ++ leBytes 4 f.lseq ++ leBytes 4 ack ++
    zeros 4 ++ f.payload
  b ++ fcs b

/-- Is a received frame whole: header and CRC there, the CRC right? -/
def linkIntact (f : List Byte) : Bool := decide (20 ≤ f.length) && fcsGood f

/-- The payload of a received frame. -/
def linkPayload (f : List Byte) : List Byte := (f.drop 16).take (field f 2 2)

/-- Octets as a Field Time value, its parts within their ranges. -/
def FT.read (b : List Byte) (i : Nat) : FT := FT.ofUnits (FT.units (FT.ofNum (field b i 16)))

/-- A HELLO payload (R538). -/
def helloOctets (pairId pos ds serial : Nat) : List Byte :=
  leBytes 4 pairId ++ [byte pos] ++ leBytes 2 ds ++ leBytes 8 serial

/-- A HEARTBEAT_A payload (R539). -/
structure Heartbeat where
  state   : Nat
  seam    : Nat
  flags   : Nat
  cycle   : Nat
  txTime  : FT
  echoTx  : FT
  echoRx  : FT
  logNext : Nat
  deriving DecidableEq, Repr

/-- Its octets. -/
def Heartbeat.octets (h : Heartbeat) : List Byte :=
  [byte h.state, byte h.seam, byte h.flags, 0#8] ++ leBytes 8 h.cycle ++ FT.bytes h.txTime ++ FT.bytes h.echoTx ++
    FT.bytes h.echoRx ++ leBytes 4 h.logNext

/-- A HEARTBEAT_A payload as received. -/
def Heartbeat.read (b : List Byte) : Heartbeat :=
  { state := field b 0 1, seam := field b 1 1, flags := field b 2 1, cycle := field b 4 8, txTime := FT.read b 12,
    echoTx := FT.read b 28, echoRx := FT.read b 44, logNext := field b 60 4 }

/-- One entry of a LOG frame (R541). -/
structure LinkEntry where
  num    : Nat
  source : Nat
  stamp  : FT
  data   : List Byte
  deriving DecidableEq, Repr

/-- The entries of a LOG payload behind COMPLETE: at most so many, and none after one that is cut. -/
def readEntries : Nat → List Byte → List LinkEntry
  | 0, _ => []
  | k + 1, b =>
    let n := field b 6 2
    if b.length < 24 + n then []
    else ⟨field b 0 4, field b 4 1, FT.read b 8, (b.drop 24).take n⟩ :: readEntries k (b.drop (24 + n))

/-- One placement record of a CONFIRM (R542). -/
structure Placement where
  asn     : Nat
  port    : Nat
  outcome : Nat
  kind    : Nat
  machine : Nat
  ref     : Nat
  deriving DecidableEq, Repr

/-- Its octets. -/
def Placement.octets (r : Placement) : List Byte :=
  leBytes 4 r.asn ++ [byte r.port, byte r.outcome, byte r.kind, byte r.machine] ++ leBytes 2 r.ref ++ zeros 2

/-- The placement records of a CONFIRM, at most so many. -/
def readPlacements : Nat → List Byte → List Placement
  | 0, _ => []
  | k + 1, b =>
    if b.length < 12 then []
    else ⟨field b 0 4, field b 4 1, field b 5 1, field b 6 1, field b 7 1, field b 8 2⟩ :: readPlacements k (b.drop 12)

/-- A CONFIRM payload (R542): cycle, digest, FLAGS, records. -/
def confirmOctets (cycle digest flags : Nat) (l : List Placement) : List Byte :=
  leBytes 8 cycle ++ leBytes 8 digest ++ [byte flags] ++ zeros 3 ++ l.flatMap Placement.octets

/-- One record of an AXIS frame (R543). -/
structure AxisRec where
  axis  : Nat
  kind  : Nat
  state : Nat
  code  : Nat
  value : Int
  at_   : FT
  deriving DecidableEq, Repr

/-- Its octets. -/
def AxisRec.octets (r : AxisRec) : List Byte :=
  [byte r.axis, byte r.kind, byte r.state, byte r.code] ++ leBytes 4 (ofSigned 32 r.value) ++ FT.bytes r.at_

/-- The records of an AXIS payload, at most so many. -/
def readAxes : Nat → List Byte → List AxisRec
  | 0, _ => []
  | k + 1, b =>
    if b.length < 24 then []
    else ⟨field b 0 1, field b 1 1, field b 2 1, field b 3 1, toSigned 32 (field b 4 4), FT.read b 8⟩ :: readAxes k (b.drop 24)

/-- A STATE request (R552); OP stands in one octet, the fields behind it (PRESUMED, assumption 19). -/
def requestOctets (id : Nat) : List Byte := 1#8 :: leBytes 4 id

/-- A STATE frame with octets of the image (R552). -/
def imageOctets (id offset total : Nat) (b : List Byte) : List Byte :=
  2#8 :: (leBytes 4 id ++ leBytes 4 offset ++ leBytes 4 total ++ b)

/-- A BASE_OBS payload (R536): the cycle, then the records in the layout of R142. The spec gives it no layout (DESIGN CHOICE,
assumption 19). -/
def baseOctets (b : BaseEpoch) : List Byte := leBytes 8 b.cycle ++ b.recs.flatMap MeasRec.bytes

/-- The records of a BASE_OBS payload, at most so many. -/
def readRecords : Nat → List Byte → List MeasRec
  | 0, _ => []
  | k + 1, b =>
    if b.length < 32 then []
    else ⟨field b 0 8, field b 8 8, field b 16 8, field b 24 8⟩ :: readRecords k (b.drop 32)

/-- A HANDOVER payload (R557): OP in one octet (PRESUMED, assumption 19), AT. -/
def handoverOctets (op : Nat) (at_ : FT) : List Byte := byte op :: FT.bytes at_

end Sys2Proof.Machine
end

