-- ==== Sys2Proof/Machine/SchedCore.lean ====
section
/-!
DEFINITION. The decision trace and the matching store (chapter 10): classes, slots, trace records, withdrawal of a
speculation.
-/

namespace Sys2Proof.Machine

/-! ### Classes (R321) -/

/-- Priority of a class. -/
def classPrio (c : Nat) : Nat := [7, 7, 6, 6, 5, 5, 5, 4, 4, 3, 3, 3, 2, 2, 1, 0].getD c 0

/-- Slots reserved for a priority (R324). -/
def reservedSlots (p : Nat) : Nat := [32, 32, 64, 128, 128, 256, 640, 1024].getD p 0

/-- Slots of the shared pool (R324). -/
def sharedSlots : Nat := 1792

/-- Free reserved slots of a priority. -/
def SchedSt.freeOwn (p : Nat) (x : SchedSt) : Nat :=
  reservedSlots p - (x.store.filter fun o => o.reserved && classPrio o.cls == p).length

/-- Free shared slots. -/
def SchedSt.freeShared (x : SchedSt) : Nat := sharedSlots - (x.store.filter fun o => !o.reserved).length

/-- Slot numbers that no operand occupies. -/
def SchedSt.freeSlots (x : SchedSt) : List Nat := (List.range 4096).filter fun i => !x.store.any fun o => o.slot == i

/-! ### Trace records (R337 to R340) -/

/-- W0 of a record of now. -/
def traceW0 (kind prio cls : Nat) (spec : Bool) (core : Nat) (now : FT) : Nat :=
  kind * 2 ^ 60 + prio * 2 ^ 57 + cls * 2 ^ 53 + b2n spec * 2 ^ 52 + core * 2 ^ 48 + now.sec % 2 ^ 18 * 2 ^ 30 + now.nsec

/-- Is the trace streamed (R342)? -/
def State.tracing (s : State) : Bool := s.sinkUsed 0x2F3501 || s.sinkUsed 0x2F3502

/-- Write one record (R338). A record written while no sink is in use never waits to be streamed (DESIGN CHOICE, assumption
24). -/
def State.trace (w0 w1 : Nat) (s : State) : State :=
  let head := (s.sched.head + 1) % 2 ^ 64
  ({ s with sched := { s.sched with trace := List.take 65536 ((⟨w0, w1⟩ : TraceRec) :: s.sched.trace), head := head,
                                    sent := if s.tracing then s.sched.sent else head } }).count 0x2F4008

/-- COUNT of R340: six bits; more ambiguities than 63 read 63 (DESIGN CHOICE, assumption 24). -/
def traceCount (n : Nat) : Nat := min 63 n * 2 ^ 20

/-- SPECULATIVE (kind 3) of class `cls`: machine, LEG or EPOCH, first entry, count. -/
def State.traceSpec (cls machine ref entry n : Nat) (s : State) : State :=
  s.trace (traceW0 3 7 cls true 0 s.now) (machine * 2 ^ 56 + ref % 65536 * 2 ^ 40 + entry * 2 ^ 26 + traceCount n)

/-- WITHDRAWN (kind 4), with the entry met and the cause of R340. -/
def State.traceWithdrawn (cls machine ref entry n other cause : Nat) (s : State) : State :=
  s.trace (traceW0 4 7 cls true 0 s.now)
    (machine * 2 ^ 56 + ref % 65536 * 2 ^ 40 + entry * 2 ^ 26 + traceCount n + other * 2 ^ 6 + cause * 4)

/-- The class of a stage's firmware (R321, R339). -/
def stageClass (stage : Nat) : Nat := if stage = 3 then 1 else 0

/-- FALLBACK (kind 5): the stage had not completed when the record is written. -/
def State.traceFallback (stage machine cycle : Nat) (s : State) : State :=
  s.trace (traceW0 5 7 (stageClass stage) false 0 s.now)
    (machine * 2 ^ 56 + cycle % 65536 * 2 ^ 40 + stage * 2 ^ 37 + 0x80000000)

/-- The speculative tag of an item (R33): machine, kind (0 a reservation, 1 a fix), LEG or EPOCH. -/
structure SpecTag where
  machine : Nat
  kind    : Nat
  ref     : Nat
  deriving DecidableEq, Repr

/-- BLOCKED (kind 8): a tagged item is withheld at a boundary (R34), with its counter and record. -/
def State.specBlocked (boundary : Nat) (x : SpecTag) (s : State) : State :=
  ((s.trace (traceW0 8 7 x.kind true 0 s.now) (x.machine * 2 ^ 56 + boundary * 2 ^ 53)).count 0x500007).record 0x1040
    [.u8 boundary, .u8 x.machine, .u8 x.kind, .u16 x.ref]

/-- A boundary of R33 checks the tag of an item: one without a tag passes, a tagged one is withheld (R34). -/
def State.atBoundary (boundary : Nat) (tag : Option SpecTag) (pass : State → State) (s : State) : State :=
  match tag with
  | none => pass s
  | some x => s.specBlocked boundary x

/-! ### Speculation (R328, R329) -/

/-- A withdrawn speculation leaves the store and the ready queues (R329). -/
def State.purge (spec : Nat) (s : State) : State :=
  let keep := s.sched.store.filter fun o => o.spec != some spec
  let gone := s.sched.store.filter fun o => o.spec == some spec
  let ready := s.sched.ready.filter fun o => !gone.any fun p => p.template == o.template && p.key == o.key
  ({ s with sched := { s.sched with store := keep, ready := ready,
                                    withdrawn := spec :: s.sched.withdrawn } }).countN 0x2F4007
    (s.sched.store.length - keep.length)

end Sys2Proof.Machine
end

