-- ==== Sys2Proof/Machine/Legs.lean ====
section
/-!
DEFINITION. The withdrawal of legs (R37, R242), and what a mode in which a path of the pipeline does not run ends (R230).
-/

namespace Sys2Proof.Machine

/-- A FREE entry (R262). -/
def Resv.free : Resv := ⟨.free, 0, 0, 0, 0, 0, 0⟩

/-- Write a reservation entry. -/
def TracksSt.putEntry (i : Nat) (v : Resv) (x : TracksSt) : TracksSt :=
  { x with res := SMap.put (fun _ => Resv.free) i v x.res }

/-- Entries become FREE. -/
def State.freeEntries (l : List Nat) (s : State) : State :=
  { s with tracks := l.foldl (fun x i => x.putEntry i .free) s.tracks }

/-! ### Withdrawal of legs (R37, R242) -/

/-- A leg is withdrawn: its entries are FREE, its operands purged, the trace holds a record (cause of R340). -/
def State.withdrawLeg (cause other : Nat) (l : Leg) (s : State) : State :=
  ((((s.freeEntries l.entries).countN 0x500003 l.entries.length).purge l.spec).traceWithdrawn 0 l.machine l.leg
    (l.entries.headD 0) l.entries.length other cause)

/-- Every leg that satisfies a test is withdrawn; the others stay under check. -/
def State.withdrawLegs (cause : Nat) (p : Leg → Bool) (s : State) : State :=
  let t := { s with tracks.legs := s.tracks.legs.filter fun l => !p l }
  each (s.tracks.legs.filter p) (State.withdrawLeg cause 0x3FFF) t

/-! ### Modes without the paths (R230) -/

/-- The modes in which the per-cycle path runs (R230). -/
def Mode.perCycle (m : Mode) : Bool :=
  match m with
  | .solo => true | .active => true | .standby => true | .handover => true
  | .off => false | .backup => false | .boot => false | .survey => false | .maintain => false | .test => false
  | .safe => false | .orphan => false

/-- The modes in which the per-uplink path runs (R230). -/
def Mode.perUplink (m : Mode) : Bool := m.perCycle || m == .survey || m == .maintain

/-- The per-cycle path of the cycle in progress ends (R230): its check cannot finish, so R35 withdraws what is still
speculative (the trace says "check abandoned"); nothing planned or composed goes on (DESIGN CHOICE, assumption 24). -/
def State.cycleEnds (s : State) : State :=
  let s := s.withdrawLegs 1 fun _ => true
  { s with
    tracks := { s.tracks with open_ := false, moves := [] },
    tasks := { s.tasks with due := false },
    pipe := { s.pipe with planning := false, composed := [], moves := [] } }

/-- The per-uplink path ends (R230): inputs not yet logged or sorted, Field Obs in the Solve engine and units at LAUNCH go
no further (DESIGN CHOICE, assumption 24). -/
def State.uplinkEnds (s : State) : State :=
  { s with
    ingest := { s.ingest with held := [], unsorted := [] },
    machines := s.machines.map fun m => { m with wait := none },
    pipe := { s.pipe with launch := s.pipe.launch.map fun _ => [] } }

/-- What a mode ends of the two paths. -/
def State.pathsEnd (m : Mode) (s : State) : State :=
  when (!m.perUplink) State.uplinkEnds (when (!m.perCycle) State.cycleEnds s)

end Sys2Proof.Machine
end

