-- ==== Sys2Proof/Machine/Routing.lean ====
section
/-!
DEFINITION. How a datagram that the unit originates finds its way (R426 to R432): the port of its route, the ARP cache,
the one datagram held per unresolved next hop.
-/

namespace Sys2Proof.Machine

/-- The gateway of port `p`. -/
def State.gateway (p : Nat) (s : State) : List Byte := s.cfgOct (0x360601 + p)

/-- Are two addresses equal in their first `len` bits? -/
def samePrefix (len : Nat) (a b : List Byte) : Bool := beNat a / 2 ^ (32 - len) == beNat b / 2 ^ (32 - len)

/-- Does an address lie in the subnet of port `p` (R429)? -/
def State.inSubnet (p : Nat) (ip : List Byte) (s : State) : Bool :=
  (s.unitIp p != zeros 4) && samePrefix (s.cfg (0x360501 + p)) (s.unitIp p) ip

/-- The route of R429: port and next hop. -/
def State.route (ip : List Byte) (s : State) : Option (Nat × List Byte) :=
  match (List.range 4).find? fun p => s.linkUp p && s.inSubnet p ip with
  | some p => some (p, ip)
  | none =>
    match (List.range 4).find? fun p => s.linkUp p && (s.gateway p != zeros 4) with
    | some p => some (p, s.gateway p)
    | none => none

/-- A datagram is dropped for want of a route or an answer (R429). -/
def State.unrouted (p : Nat) (ip : List Byte) (s : State) : State :=
  (s.countEth p 0x0E).recordSince (beNat ip) 0x8004 1 [.oct ip, .u8 p]

/-- An ARP request for a next hop (R429). -/
def State.arpRequest (p : Nat) (hop : List Byte) (s : State) : State :=
  s.sendFrame p 1 (Config.unitMac p) broadcastMac 0x0806
    (arpPacket 1 (Config.unitMac p) (s.unitIp p) (zeros 6) hop)

/-- Send an IPv4 packet of class `cls`, from the role address or the unit address (R429, R430); `build` makes it from its
source address. -/
def State.sendIp (cls : Nat) (role : Bool) (dst : List Byte) (build : List Byte → List Byte) (s : State) : State :=
  match s.route dst with
  | none => s.unrouted 0 dst
  | some (p, hop) =>
    let pkt := build (s.sourceIp role p)
    match (s.ethPort p).arp.find? fun e => e.ip == hop with
    | some e => s.sendFrame p cls (s.sourceMac role p) e.mac 0x0800 pkt
    | none =>
      if (s.ethPort p).waits.any fun w => w.hop == hop then s.unrouted p dst
      else (s.modEth p fun e => { e with waits := e.waits ++ [⟨hop, 1, s.ticks, cls, role, dst, pkt⟩] }).arpRequest p hop

/-- The class of what the unit sends from a UDP port (R432): the time pulse and RTCM 2, the record stream, trace and telemetry 0
(the spec names no class for the record stream: DESIGN CHOICE, assumption 29). -/
def portClass (src : Nat) : Nat := if src = 4351 ∨ src = 4352 then 2 else 0

/-- Send a datagram to a sink: 4 octets of address, 2 of port (R429). RTCM leaves from the role address, what any unit sends
from the unit address (R430). -/
def State.sendUdp (src : Nat) (sink msg : List Byte) (s : State) : State :=
  let ip := sink.take 4
  s.sendIp (portClass src) (src == 4352) ip fun a => ipv4Packet 17 a ip (udpDatagram a ip src (leNat (sink.drop 4)) msg)

/-- Send a datagram to each sink object `base + 1 … base + n` whose address is not zero. -/
def State.sendSinks (src base n : Nat) (msg : List Byte) (s : State) : State :=
  each ((List.range n).map (base + 1 + ·)) (fun o s =>
    when (s.sinkUsed o) (State.sendUdp src (s.cfgOct o) msg) s) s

/-- One gratuitous ARP request for the role address of every operating port that has one (R427). -/
def State.gratuitous (s : State) : State :=
  each (List.range 4) (fun p s =>
    when (s.ethOperates p && (s.roleIp p != zeros 4)) (fun s =>
      s.sendFrame p 1 (s.roleMac p) broadcastMac 0x0806 (arpPacket 1 (s.roleMac p) (s.roleIp p) (zeros 6) (s.roleIp p))) s) s

end Sys2Proof.Machine
end

