-- ==== Sys2Proof/Machine/SessionCore.lean ====
section
/-!
DEFINITION. The end of a dictionary session (R577, R584, R626): its group is discarded and the update session it holds
ends with it.
-/

namespace Sys2Proof.Machine

/-- CAN port `c`'s side of the dictionary. -/
def State.canDict (s : State) (c : Nat) : CanDict := s.dict.can.getD c ⟨none, none, 1, 0⟩

/-- Change it. -/
def State.modCanDict (c : Nat) (f : CanDict → CanDict) (s : State) : State := { s with dict.can := modAt s.dict.can c f }

/-- Is a port and session the holder of the update lock (R623)? -/
def State.holdsLock (port sess : Nat) (s : State) : Bool := s.upd.holder == some (port, sess)

/-- The update session ends without an image (R626). -/
def State.sessionLost (cause : Nat) (s : State) : State :=
  if s.upd.state = .receiving then
    (({ s with upd := { s.upd with state := .idle, holder := none } }).count 0x3F2007).record 0xC003
      [.u8 cause, .u32 s.upd.hamper.length]
  else s

/-- The end of a dictionary session ends the update session that it holds (R626). -/
def State.holderGone (port sess : Nat) (s : State) : State := when (s.holdsLock port sess) (State.sessionLost 1) s

/-- A group is discarded (R577): cause 0 time, 1 end of its session, 2 abort. -/
def State.groupDropped (port sess cause : Nat) (g : Group) (s : State) : State :=
  (s.count 0x104007).record 0x1064 [.u8 port, .u8 sess, .u8 g.ident, .u8 cause, .u32 g.writes.length]

/-- The open session of a number. -/
def State.sessionOf (n : Nat) (s : State) : Option Session := s.dict.sessions.find? fun x => x.num == n

/-- A DTLS alert leaves, port 2 to 5 standing for ETH0 to ETH3 (R432, R584, R692). -/
def State.sendAlert (port n : Nat) (s : State) : State := s.offer (port - 2) 1 ⟨.alert port n, Config.dtlsOverhead + 2⟩

/-- A session ends (R584); `told` says that the unit closes it with an alert. -/
def State.endSession (told : Bool) (n : Nat) (s : State) : State :=
  match s.sessionOf n with
  | none => s
  | some x =>
    let t : State := { s with dict.sessions := s.dict.sessions.filter fun y => y.num != n }
    let t := match x.group with
      | some g => t.groupDropped x.port n 1 g
      | none => t
    when told (State.sendAlert x.port n) (t.holderGone x.port n)

/-- The sessions that pass a test end. -/
def State.endSessions (told : Bool) (p : Session → Bool) (s : State) : State :=
  each ((s.dict.sessions.filter p).map fun x => x.num) (State.endSession told) s

/-- A role identity ends, and with it the sessions that came to its address (R427, R584). -/
def State.roleSessionsEnd (s : State) : State := s.endSessions false fun x => x.onRole

end Sys2Proof.Machine
end

