-- ==== Sys2Proof/Machine/Motion.lean ====
section
/-!
DEFINITION. The step generator's ideal motion (R477, R480, R482, R492): distance, velocity and end of a plan, for the
trapezoid in exact integers, for the jerk-limited profile from its stretches of constant jerk. Distances count in units of
5 × 10⁻¹⁹ step, velocities in 10⁻⁹ steps/s, times in ns.
-/

namespace Sys2Proof.Machine

/-- The square root, rounded up. -/
def sqrtUp (x : Nat) : Nat := if Nat.sqrt x ^ 2 = x then Nat.sqrt x else Nat.sqrt x + 1

/-- A quotient, rounded up. -/
def divUp (x y : Nat) : Nat := (x + y - 1) / y

/-- The greatest number of so many binary digits above `r` that passes a test which holds up to some number. -/
def greatest (ok : Nat → Bool) : Nat → Nat → Nat
  | 0, r => r
  | b + 1, r => if ok (r + 2 ^ b) then greatest ok b (r + 2 ^ b) else greatest ok b r

/-- Steps of a plan. -/
def Plan.steps (p : Plan) : Nat := (p.target - p.origin).natAbs

/-- The distance from the plan's start to its target. -/
def Plan.left (p : Plan) : Nat := p.steps * (2 * 10 ^ 18) - p.done

/-! ### The trapezoid (PROFILE 0)

`u` is the velocity at the start, `v` V_MAX, `a` ACCEL, `d` DECEL, `left` the distance to the target. -/

/-- V_MAX in the units of velocity. -/
def Plan.top (p : Plan) : Nat := p.vmax * 10 ^ 9

/-- Is V_MAX reached, or exceeded from the start? -/
def Plan.cruises (p : Plan) : Bool :=
  decide (p.top < p.speed) ||
    decide (p.decel * (p.top ^ 2 - p.speed ^ 2) + p.accel * p.top ^ 2 ≤ p.left * p.accel * p.decel)

/-- The end of a profile that cruises, as numerator and denominator in ns. -/
def Plan.cruiseEnd (p : Plan) : Nat × Nat :=
  if p.top < p.speed then
    (p.left * p.decel + p.top ^ 2 - (p.speed - p.top) ^ 2, 2 * p.top * p.decel)
  else
    (p.left * p.accel * p.decel + p.accel * p.top ^ 2 + p.decel * (p.top - p.speed) ^ 2, 2 * p.top * p.accel * p.decel)

/-- Distance and velocity `n` ns after the start of a profile that cruises, both rounded down. -/
def Plan.cruiseAt (n : Nat) (p : Plan) : Nat × Nat :=
  let u := p.speed
  let v := p.top
  let t := p.cruiseEnd
  if u ≤ v ∧ n * p.accel ≤ v - u then (2 * u * n + p.accel * n ^ 2, u + p.accel * n)
  else if v < u ∧ n * p.decel ≤ u - v then (2 * u * n - p.decel * n ^ 2, u - p.decel * n)
  else if t.1 ≤ n * t.2 then (p.left, 0)
  else
    let togo := t.1 - n * t.2
    if togo * p.decel ≤ v * t.2 then (p.left - divUp (p.decel * togo ^ 2) (t.2 ^ 2), p.decel * togo / t.2)
    else if v < u then (((u - v) ^ 2 + 2 * v * n * p.decel) / p.decel, v)
    else ((2 * v * n * p.accel - (v - u) ^ 2) / p.accel, v)

/-- Distance and velocity `n` ns after the start of a profile whose peak lies below V_MAX (R477): with
w = (a·left + u²)(a + d), it ends when d(a·n + u)² reaches w. -/
def Plan.peakAt (n : Nat) (p : Plan) : Nat × Nat :=
  let a := p.accel
  let d := p.decel
  let y := p.speed + a * n
  let w := (a * p.left + p.speed ^ 2) * (a + d)
  if y ^ 2 * (a + d) ≤ (a * p.left + p.speed ^ 2) * d then (2 * p.speed * n + a * n ^ 2, y)
  else if w ≤ d * y ^ 2 then (p.left, 0)
  else (p.left - divUp (w + d * y ^ 2 - Nat.sqrt (4 * y ^ 2 * d * w)) (a ^ 2), (Nat.sqrt (d * w) - d * y) / a)

/-- Distance and velocity on a ramp to standstill at `decel`. -/
def Plan.rampAt (n : Nat) (p : Plan) : Nat × Nat :=
  if p.speed ≤ n * p.decel then (p.speed ^ 2 / p.decel, 0)
  else (2 * p.speed * n - p.decel * n ^ 2, p.speed - p.decel * n)

/-! ### The jerk-limited profile (PROFILE 1)

A stretch is a jerk in steps/s³ and a duration in 10⁻¹⁸ s. -/

/-- Distance, velocity and acceleration, in units of 10⁻⁵⁴/6 step, 10⁻³⁶/2 steps/s and 10⁻¹⁸ steps/s²: a stretch of constant
jerk then moves them without rounding. -/
structure Kin where
  x : Int
  v : Int
  a : Int
  deriving DecidableEq, Repr

/-- The motion after a time at constant jerk. -/
def Kin.after (k : Kin) (j : Int) (t : Nat) : Kin :=
  ⟨k.x + 3 * k.v * t + 3 * k.a * t ^ 2 + j * t ^ 3, k.v + 2 * k.a * t + j * t ^ 2, k.a + j * t⟩

/-- The motion after so much time of a path, and the rest of the time once the path has ended. -/
def Kin.along : List (Int × Nat) → Nat → Kin → Kin × Nat
  | [], t, k => (k, t)
  | g :: l, t, k => if t ≤ g.2 then (k.after g.1 t, 0) else Kin.along l (t - g.2) (k.after g.1 g.2)

/-- The duration of a path. -/
def duration (l : List (Int × Nat)) : Nat := (l.map Prod.snd).sum

/-- The least path that raises the velocity by `dv` and brings the acceleration from `a0` to 0, the acceleration staying
at most `limit` (at once falling to it where it is above) and the jerk within `jerk`. -/
def climb (dv a0 : Int) (limit jerk : Nat) : List (Int × Nat) :=
  let j : Int := jerk
  let top : Int := limit * 10 ^ 18
  let w := dv * j
  if top < a0 then [(-j, ((a0 - top) / j).toNat), (0, ((w - a0 ^ 2) / (2 * j * top)).toNat), (-j, (top / j).toNat)]
  else if 2 * top ^ 2 - a0 ^ 2 ≤ w then
    [(j, ((top - a0) / j).toNat), (0, ((w - (2 * top ^ 2 - a0 ^ 2)) / (2 * j * top)).toNat), (-j, (top / j).toNat)]
  else
    let peak : Int := Nat.sqrt ((w + a0 ^ 2) / 2).toNat
    [(j, ((peak - a0) / j).toNat), (-j, (peak / j).toNat)]

/-- The least path from velocity `v0` and acceleration `a0` to velocity `v1` without acceleration. -/
def Plan.change (p : Plan) (v0 a0 v1 : Int) : List (Int × Nat) :=
  if a0 * a0.natAbs ≤ (v1 - v0) * p.jerk then climb (v1 - v0) a0 p.accel p.jerk
  else (climb (v0 - v1) (-a0) p.decel p.jerk).map fun g => (-g.1, g.2)

/-- Velocity in the units of `Kin`. -/
def kinSpeed (v : Nat) : Int := v * (2 * 10 ^ 27)

/-- The motion at the start of a plan. -/
def Plan.kin (p : Plan) : Kin := ⟨0, kinSpeed p.speed, p.acc⟩

/-- The distance of a path, in the units of a plan, rounded down. -/
def Plan.reach (p : Plan) (l : List (Int × Nat)) : Nat := ((Kin.along l (duration l) p.kin).1.x / (3 * 10 ^ 36)).toNat

/-- The least path to standstill. -/
def Plan.stopPath (p : Plan) : List (Int × Nat) := p.change (kinSpeed p.speed) p.acc 0

/-- The path to a cruising velocity, and from it to standstill. -/
def Plan.upPath (p : Plan) (v : Nat) : List (Int × Nat) := p.change (kinSpeed p.speed) p.acc (kinSpeed v)
def Plan.downPath (p : Plan) (v : Nat) : List (Int × Nat) := p.change (kinSpeed v) 0 0

/-- The cruising velocity (R477): the greatest up to V_MAX, in whole units, from which the move still ends at its target. -/
def Plan.cruiseSpeed (p : Plan) : Nat :=
  greatest (fun v => decide (v ≤ p.top) && decide (p.reach (p.upPath v ++ p.downPath v) ≤ p.left)) 49 0

/-- The path of a plan with PROFILE 1. -/
def Plan.path (p : Plan) : List (Int × Nat) :=
  match p.kind with
  | .ramp => p.stopPath
  | _ =>
    let v := p.cruiseSpeed
    let l := p.upPath v ++ p.downPath v
    p.upPath v ++ (0, (p.left - p.reach l) * (5 * 10 ^ 8) / v) :: p.downPath v

/-! ### Any plan -/

/-- The motion of a plan `n` ns after its start: distance, velocity, acceleration, and whether it has ended. -/
structure Motion where
  dist  : Nat
  speed : Nat
  acc   : Int
  ended : Bool
  deriving DecidableEq, Repr

/-- The motion of a plan with PROFILE 1. -/
def Plan.jerked (n : Nat) (p : Plan) : Motion :=
  let l := p.path
  if duration l ≤ n * 10 ^ 9 then ⟨if p.kind = .ramp then p.reach l else p.left, 0, 0, true⟩
  else
    let k := (Kin.along l (n * 10 ^ 9) p.kin).1
    ⟨(k.x / (3 * 10 ^ 36)).toNat, (k.v / (2 * 10 ^ 27)).toNat, k.a, false⟩

/-- The motion of a plan. -/
def Plan.motion (n : Nat) (p : Plan) : Motion :=
  match p.kind with
  | .creep => ⟨2 * p.speed * n, p.speed, 0, false⟩
  | .ramp =>
    if p.profile = 1 then p.jerked n
    else ⟨(p.rampAt n).1, (p.rampAt n).2, 0, decide (p.speed ≤ n * p.decel)⟩
  | .move =>
    if p.profile = 1 then p.jerked n
    else
      let m := if p.cruises then p.cruiseAt n else p.peakAt n
      ⟨m.1, m.2, 0, decide (p.left ≤ m.1)⟩

/-- Steps placed `n` ns after the start: the counter passes from k to k + 1 as the ideal position reaches k + ½ (R477), and
never passes the target (R481, R492). -/
def Plan.placed (p : Plan) (n : Nat) : Nat := min p.steps ((p.done + (p.motion n).dist + 10 ^ 18) / (2 * 10 ^ 18))

/-- The counter `n` ns after the start. -/
def Plan.counterAt (p : Plan) (n : Nat) : Int :=
  if p.origin ≤ p.target then p.origin + p.placed n else p.origin - p.placed n

/-- The last instant of the 2 ns grid up to `t`: an edge lies on the first at or after its moment (R472, R477). -/
def FT.grid (t : FT) : FT := ⟨t.sec, t.nsec / 2 * 2, 0⟩

/-- Nanoseconds of a plan that have passed at an instant, or by CK_TIME ticks (R493). -/
def Plan.elapsed (p : Plan) (now : FT) (ticks : Nat) : Nat :=
  match p.byTicks with
  | some t => 2 * (ticks - t)
  | none => FT.nsSince p.start (FT.grid now)

/-- The plan seen from a later instant: the same motion with distance, velocity and acceleration as they stand there (R480).
Velocity and distance are rounded down to their units, of 10⁻⁹ steps/s and 5 × 10⁻¹⁹ step (DESIGN CHOICE, assumption 7). -/
def Plan.rebase (now : FT) (ticks : Nat) (p : Plan) : Plan :=
  let m := p.motion (p.elapsed now ticks)
  { p with start := FT.grid now, byTicks := p.byTicks.map fun _ => ticks, done := p.done + min p.left m.dist,
           speed := m.speed, acc := m.acc }

/-- A plan turned into a ramp to standstill. -/
def Plan.braked (profile decel jerk : Nat) (p : Plan) : Plan :=
  { p with kind := .ramp, profile := profile, decel := decel, jerk := jerk }

/-- A plan counts CK_TIME ticks from now on (R493). -/
def Plan.ticking (now : FT) (ticks : Nat) (p : Plan) : Plan :=
  { p with byTicks := some (ticks - p.elapsed now ticks / 2) }

/-- The deceleration that still stops the move: ⌈v² / 2s⌉ (R481). -/
def Plan.required (p : Plan) : Nat := if p.left = 0 then 0 else divUp (p.speed ^ 2) p.left

/-- Does the least stop under a deceleration, and under the jerk scaled with it, end before the target, without turning round: is
the velocity still there when the acceleration is back at 0? -/
def Plan.stops (p : Plan) (d : Nat) : Bool :=
  let q := { p with jerk := divUp (p.jerk * d) p.decel, decel := d }
  decide (-(kinSpeed q.speed * q.jerk) ≤ q.acc * q.acc.natAbs) && decide (q.reach q.stopPath ≤ q.left)

/-- The deceleration and the jerk that the generator applies (R481): those asked for where the plan can stop at its target,
else with PROFILE 0 the deceleration still required, with PROFILE 1 both scaled by the least factor that stops the move (to the
next whole DECEL: DESIGN CHOICE, assumption 7). -/
def Plan.substituted (p : Plan) : Nat × Nat :=
  if p.profile = 1 then
    if p.stops p.decel then (p.decel, p.jerk)
    else
      let d := greatest (fun d => !p.stops d) 40 p.decel + 1
      (d, divUp (p.jerk * d) p.decel)
  else (if p.speed ^ 2 ≤ p.left * p.decel then p.decel else max p.decel p.required, p.jerk)

end Sys2Proof.Machine
end

