-- ==== Sys2Proof/Machine/AxesCore.lean ====
section
/-!
DEFINITION. What every family may do to a gate axis: its counter (R477), entering FAULT, stop ramps (R492),
standstill, output levels (R494) and what a stop does to all of them (R389).
-/

namespace Sys2Proof.Machine

/-! ### Axes -/

/-- Axis `n`. -/
def State.axis (s : State) (n : Nat) : Axis := s.axes.getD n .init

/-- Change axis `n`. -/
def State.modAxis (n : Nat) (f : Axis → Axis) (s : State) : State := { s with axes := modAt s.axes n f }

/-- Object 0x3800 + n, subindex `sub`, as a number. -/
def State.axisCfg (n sub : Nat) (s : State) : Nat := s.cfg ((0x3800 + n) * 256 + sub)

/-- The motion of an axis at an instant, or tick: at rest without a plan. -/
def Axis.motion (now : FT) (ticks : Nat) (a : Axis) : Motion :=
  match a.plan with
  | some p => p.motion (p.elapsed now ticks)
  | none => ⟨0, 0, 0, true⟩

/-- The counter of an axis at an instant, or tick: a plan has placed its steps (R477). -/
def Axis.counter (now : FT) (ticks : Nat) (a : Axis) : Int :=
  match a.plan with
  | some p => p.counterAt (p.elapsed now ticks)
  | none => a.pos

/-- Does a plan travel in the positive direction? -/
def Plan.positive (p : Plan) : Bool := decide (p.origin ≤ p.target)

/-- The ideal velocity of an axis (0x3810 + n .03), in steps/s with the sign of its travel. -/
def Axis.velocity (now : FT) (ticks : Nat) (a : Axis) : Int :=
  let v : Int := (a.motion now ticks).speed / 10 ^ 9
  if a.plan.all Plan.positive then v else -v

/-- The counter of axis `n` now. -/
def State.axisPos (n : Nat) (s : State) : Int := (s.axis n).counter s.now s.ticks

/-- Has the plan of axis `n` ended? -/
def State.axisRests (n : Nat) (s : State) : Bool := ((s.axis n).motion s.now s.ticks).ended

/-- Count under 0x3840 + n. -/
def State.countAxis (n sub : Nat) (s : State) : State := s.count ((0x3840 + n) * 256 + sub)

/-- Is the axis in motion: MOVING, HOMING or STOPPING? -/
def Axis.busy (a : Axis) : Bool := a.state == .moving || a.state == .homing || a.state == .stopping

/-- Is any axis in motion? -/
def State.axesBusy (s : State) : Bool := s.axes.any Axis.busy

/-- I_RUN of axis `n`. -/
def State.runCode (n : Nat) (s : State) : Nat := s.axisCfg n 0x14

/-- The hold current of R485. -/
def State.holdCode (n : Nat) (s : State) : Nat := s.axisCfg n 0x14 * s.axisCfg n 0x15 / 100

/-- The IREF code of axis `n` (R485, R486). -/
def State.irefNow (n : Nat) (s : State) : Nat :=
  match (s.axis n).current with
  | .off => 0
  | .hold => s.holdCode n
  | .run => s.runCode n + (s.axis n).raise

/-- An axis ceases its steps at a counter. -/
def Axis.still (pos : Int) (tick : Nat) (a : Axis) : Axis :=
  { a with pos := pos, plan := none, changed := none, ramping := false, phase := .none, lastStep := some tick, raise := 0,
           boosted := none, loadHigh := none }

/-- An axis enters FAULT (R475): cause and record 0x9001. -/
def State.axisFault (n cause : Nat) (s : State) : State :=
  (s.modAxis n fun a => { a with state := .fault, cause := cause, start := none }).record 0x9001
    [.u8 n, .u8 cause, .i32 (s.axisPos n)]

/-- An axis comes to rest where its landing says (R475). -/
def State.axisLand (n : Nat) (landing : Landing) (s : State) : State :=
  match landing with
  | .idle => s.modAxis n fun a => { a with state := .idle, cause := 0 }
  | .unhomed => s.modAxis n fun a => { a with state := .unhomed, cause := 0 }
  | .fault c => s.axisFault n c

/-- The deceleration in force on an axis. -/
def Axis.inForce (a : Axis) : Nat := (a.plan.map Plan.decel).getD 0

/-- The deceleration of a stop ramp: the larger of STOP_DECEL and the deceleration in force (R492). -/
def State.stopDecel (n : Nat) (s : State) : Nat := max (s.axisCfg n 7) (s.axis n).inForce

/-- The plan of axis `n` turns into a ramp at a deceleration, without a jerk limit (R492). -/
def State.axisBrake (n decel : Nat) (s : State) : State :=
  s.modAxis n fun a => { a with plan := a.plan.map fun p => (p.rebase s.now s.ticks).braked 0 decel p.jerk }

/-- Begin a stop ramp on a moving axis (R475, R492). -/
def State.axisRamp (n decel : Nat) (landing : Landing) (s : State) : State :=
  (s.axisBrake n decel).modAxis n fun a => { a with state := .stopping, ramping := true, changed := none, landing := landing }

/-- The motion of a homing turns into a stop ramp (R475, R484). -/
def State.homingRamp (n : Nat) (landing : Landing) (s : State) : State :=
  (s.axisBrake n (s.stopDecel n)).modAxis n fun a => { a with ramping := true, landing := landing, phase := .none }

/-- A homing is stopped (R475): ramp, record 0x9003 with reason 3. -/
def State.homingStopped (n : Nat) (landing : Landing) (s : State) : State :=
  (s.homingRamp n landing).record 0x9003 [.u8 n, .u8 3, .i32 (s.axisPos n)]

/-- The comparator of axis `n` takes the start of its first armed gate move as its target (R73, R247). -/
def State.armNext (n : Nat) (s : State) : State :=
  match (s.axis n).armed with
  | [] => s.disarmOwner (0x200 + n)
  | g :: _ => s.armOwner (0x200 + n) g.start 0

/-- What the stop latch does to one axis (R389, R475, R492): armed moves and an accepted start are cancelled, a moving
or homing axis ramps, and a ramp in progress goes on at no less. -/
def State.axisLatched (n : Nat) (s : State) : State :=
  let s := (s.modAxis n fun a => { a with armed := [], start := none }).disarmOwner (0x200 + n)
  match (s.axis n).state with
  | .moving => (s.countAxis n 2).axisRamp n (s.stopDecel n) .idle
  | .stopping => s.axisBrake n (s.stopDecel n)
  | .homing => if (s.axis n).ramping then s.axisBrake n (s.stopDecel n) else s.homingStopped n .unhomed
  | _ => s

/-- A substituted deceleration is counted and recorded (R481), the pairs being those asked for and those applied. -/
def State.decelSubstituted (n : Nat) (asked applied : Nat × Nat) (s : State) : State :=
  if asked = applied then s
  else (s.countAxis n 5).record 0x9004 [.u8 n, .u32 asked.1, .u32 applied.1, .u32 asked.2, .u32 applied.2]

/-- A begun move is brought to standstill by a discontinuity (R250, R475, R493): at DECEL, with the substitution of R481, its
steps placed by CK_TIME ticks from this one on. -/
def State.voidMove (n : Nat) (p : Plan) (s : State) : State :=
  let asked := (s.axisCfg n 5, s.axisCfg n 6)
  let q : Plan := { p.rebase s.now s.ticks with decel := asked.1, jerk := asked.2 }
  let applied := q.substituted
  let t := s.modAxis n fun a =>
    { a with state := .stopping, ramping := true, changed := none, landing := .idle,
             plan := some ((q.braked p.profile applied.1 applied.2).ticking s.now s.ticks) }
  t.decelSubstituted n asked applied

/-- What a discontinuity does to the motion of axis `n` from 4 ms before it (R250, R475, R493): a move ramps; a ramp or a homing
under way goes on by CK_TIME ticks (the spec speaks of begun moves only: DESIGN CHOICE, assumption 9). -/
def State.axisVoided (n : Nat) (s : State) : State :=
  match (s.axis n).plan with
  | none => s
  | some p =>
    if (s.axis n).state = .moving then (s.countAxis n 2).voidMove n p
    else s.modAxis n fun a => { a with plan := some (p.ticking s.now s.ticks) }

/-- What a discontinuity at `at_` does to axis `n` from 4 ms before it (R250): armed moves that have not begun by 1 ms
before it are cancelled, and a begun one ramps. -/
def State.axisPrepare (at_ : FT) (n : Nat) (s : State) : State :=
  let keep := FT.addUnits at_ (-nsUnits 1000000)
  ((s.modAxis n fun a => { a with armed := a.armed.filter fun g => FT.le g.start keep }).armNext n).axisVoided n

/-- LAUNCH arms a gate move on the comparator of its axis (R247, R488). -/
def State.armMove (n : Nat) (g : GateMove) (s : State) : State :=
  (s.modAxis n fun a => { a with armed := a.armed ++ [g] }).armNext n

/-- What the stop latch does to the axes (R389). -/
def State.axesLatched (s : State) : State := each (List.range 8) State.axisLatched s

/-- The level of AXn_EN (R494): high while the axis is claimed and the output stage is enabled. -/
def State.axisEnables (enabled : Bool) (s : State) : State :=
  { s with axes := s.axes.map fun a =>
      let en := enabled && a.state != .disabled
      { a with en := en, enPos := if en && !a.en then a.counter s.now s.ticks else a.enPos } }

/-- The mode of an axis is committed (R474, R475): claims and releases its comparator. The current of an axis that has not moved
yet is at hold (the spec is silent: DESIGN CHOICE, assumption 9). -/
def State.axisModeSet (n old new : Nat) (s : State) : State :=
  if new = 0 then
    ((s.modAxis n fun a => { a with state := .disabled, armed := [], start := none, en := false, cause := 0, current := .off, lastStep := none }).releaseComparator
      (0x200 + n))
  else if old = 0 then
    (s.claimComparator (0x200 + n)).modAxis n fun a => { a with state := .unhomed, cause := 0, en := s.pair.output, enPos := a.pos, current := .hold }
  else s

/-- The first 100 µs boundary after an instant. -/
def nextBoundary (t : FT) : FT := FT.ofNs ((FT.ns t / 100000 + 1) * 100000)

/-- A committed change of a limit acts on a move in progress at the first 100 µs boundary after the commit (R480). -/
def State.limitChanged (n : Nat) (at_ : FT) (s : State) : State :=
  s.modAxis n fun a => if a.state = .moving then { a with changed := some (a.changed.getD (nextBoundary at_)) } else a

/-- Is a fault declared on a gate axis (R490)? `gated` says that a VALID segment is GATED on it. -/
def State.gateFaulty (n : Nat) (gated : Bool) (s : State) : Bool :=
  let a := s.axis n
  a.state == .disabled || a.state == .unhomed || a.state == .homing || a.state == .fault ||
    (gated && s.axisCfg n 1 != 1)

end Sys2Proof.Machine
end

