-- ==== Sys2Proof/Machine/Ingest.lean ====
section
/-!
DEFINITION. The door of the decision side (R231 to R233): an input is stamped and waits at INGEST in the order of R232.
-/

namespace Sys2Proof.Machine

/-- The modes in which INGEST takes this unit's own inputs (R230); a unit that follows its peer's log takes none
(R544). -/
def State.ingestOpen (s : State) : Bool :=
  match s.power.mode with
  | .solo => true | .active => true | .handover => s.pair.state != .incoming | .survey => true | .maintain => true
  | .off => false | .backup => false | .boot => false | .standby => false | .test => false | .safe => false
  | .orphan => false

/-- The order of R232: by stamp, then by source code. -/
def LogEntry.before (a b : LogEntry) : Bool :=
  FT.lt a.stamp b.stamp || (a.stamp == b.stamp && decide (a.source < b.source))

/-- Put an input behind every held input that R232 places before it or level with it. -/
def insertInput (x : LogEntry) : List LogEntry → List LogEntry
  | [] => [x]
  | e :: l => if x.before e then x :: e :: l else e :: insertInput x l

/-- INGEST takes an input, with the commit it belongs to (R231, R233, R291). -/
def State.takeCommitted (commit source : Nat) (stamp : FT) (data : List Byte) (s : State) : State :=
  if s.ingestOpen then
    if s.ingest.held.length < 256 then
      { s with ingest.held := insertInput ⟨0, source, stamp, data, commit⟩ s.ingest.held }
    else (s.count 0x2C1003).recordSince 0 0x5002 1 [.u8 source]
  else s

/-- INGEST takes an input that is no dictionary write (R231, R233). -/
def State.takeIn (source : Nat) (stamp : FT) (data : List Byte) (s : State) : State := s.takeCommitted 0 source stamp data

end Sys2Proof.Machine
end

