-- ==== Sys2Proof/Machine/StopCore.lean ====
section
/-!
DEFINITION. The stop latch (R385 to R389, R400, R401): setting it by a source and clearing it by a release.
-/

namespace Sys2Proof.Machine

/-- The counter of 0x3430 that a source of R385 counts in. -/
def stopCounter (src : Nat) : Nat :=
  match src with
  | 0 => 0x343001 | 1 => 0x343001 | 2 => 0x343002 | 3 => 0x343003 | _ => 0x343004

/-- The enabled ports, as a mask (0x3000). -/
def State.airEnabled (s : State) : Nat := s.eff 0x300000

/-- Every enabled port is strobed if the output stage is enabled (R350, R387). -/
def State.strobed (s : State) : State := when s.pair.output (State.emit (.strobe s.airEnabled)) s

/-- A pending release lapses (R401). -/
def State.lapse (s : State) : State :=
  match s.stop.release with
  | some _ => ({ s with stop.release := none }).count 0x343006
  | none => s

/-- INGEST logs a change of the stop state of stamp `at_` (R387, R400), and the holder keeps it as the state last logged
(R553). -/
def State.logStop (state mask : Nat) (at_ : FT) (s : State) : State :=
  (when s.ingestOpen (fun s => { s with stop.logged := (state, mask) }) s).takeIn 0x20 at_ [byte state, byte mask]

/-- A source of R385 sets the latch (R387, R388, R389, R401). -/
def State.setLatch (src : Nat) (s : State) : State :=
  let s := s.lapse.count (stopCounter src)
  let mask := s.stop.mask ||| 2 ^ src
  if s.stop.latch then { s with stop.mask := mask }
  else
    let s := { s with stop := { s.stop with latch := true, mask := mask, since := s.now, setTick := s.ticks,
                                            quietUntil := FT.addNs s.now 2000000 } }
    (((s.strobed.logStop 1 mask s.now).record 0x7001 [.u8 mask, .ft s.now])).axesLatched

/-- The latch and the whole mask are cleared (R400, R403): counter, record. -/
def State.clearLatch (route slot : Nat) (s : State) : State :=
  (({ s with stop := { s.stop with latch := false, mask := 0, release := none } }).count 0x343005).record 0x7002
    [.u64 (FT.nsSince s.stop.since s.now), .u8 route, .u8 slot]

/-- The levels of STOPOUT_A and STOPOUT_B (R387, R400, R402): high, which is run, only while the output stage is
enabled and the latch is clear. -/
def State.stopout (s : State) : Bool := s.pair.output && !s.stop.latch

end Sys2Proof.Machine
end

