-- ==== Sys2Proof/Machine/TioCore.lean ====
section
/-!
DEFINITION. The timed outputs TIO0 to TIO15 (R460 to R465): edges, commits, output stage and time steps.
-/

namespace Sys2Proof.Machine

/-- Pin `k`. -/
def State.tioPin (s : State) (k : Nat) : TioPin := s.ptp.tio.getD k .init

/-- Change pin `k`. -/
def State.modTio (k : Nat) (f : TioPin → TioPin) (s : State) : State := { s with ptp.tio := modAt s.ptp.tio k f }

/-- Object 0x2080 + k, subindex `sub`. -/
def State.tioCfg (k sub : Nat) (s : State) : Nat := s.cfg ((0x2080 + k) * 256 + sub)

/-- Is pin `k` an output (modes 1 and 2)? -/
def State.tioOutput (k : Nat) (s : State) : Bool := s.tioCfg k 1 == 1 || s.tioCfg k 1 == 2

/-- START of pin `k`. -/
def State.tioStart (k : Nat) (s : State) : FT := FT.ofNum (s.tioCfg k 3)

/-- The next edge of a pin: the inactive edge of a pulse in progress, or the next active edge. -/
def TioPin.nextEdge (p : TioPin) : Option FT := if p.active then p.off else if p.running then p.next else none

/-- One edge of an output at its firing instant (R460, R462). `width` and `period` are the pin's settings. -/
def TioPin.edge (at_ : FT) (late : Bool) (width period : Nat) (p : TioPin) : TioPin :=
  if p.active then
    { p with active := false, off := none, late := p.late || late, running := p.running && (p.endless || decide (0 < p.left)) }
  else
    { p with active := true, held := false, off := some (FT.addNs at_ width), late := p.late || late,
             left := p.left - 1, next := p.next.map fun t => FT.addNs t period }

/-- The comparator of pin `k` takes the pin's next edge as its target. -/
def State.tioRearm (k : Nat) (s : State) : State :=
  match s.comparatorOf (0x300 + k) with
  | some c => s.modComparator c fun x => { x with target := (s.tioPin k).nextEdge, period := 0 }
  | none => s

/-- It fires late at `at_` (R76, R77): the inactive edge follows WIDTH after the actual firing (R462). -/
def State.tioFireLate (k : Nat) (t at_ : FT) (s : State) : State :=
  (((match s.comparatorOf (0x300 + k) with
      | some c => s.fireLate c t at_
      | none => s).modTio k (TioPin.edge at_ true (s.tioCfg k 5) (s.tioCfg k 4)))).tioRearm k

/-- The comparator of pin `k` fires on time (R462). An active edge whose instant passed during the pulse before it is
armed late (R76, R464). -/
def State.tioFire (k : Nat) (s : State) : State :=
  match (s.tioPin k).nextEdge with
  | some t =>
    let s := s.modTio k (TioPin.edge t false (s.tioCfg k 5) (s.tioCfg k 4))
    match (s.tioPin k).nextEdge with
    | some u => if FT.lt u t && !(s.tioPin k).active then s.tioFireLate k u s.nextTick else s.tioRearm k
    | none => s.tioRearm k
  | none => s

/-- Arm pin `k` for its next edge (R76). -/
def State.tioArm (k : Nat) (s : State) : State :=
  match (s.tioPin k).nextEdge with
  | some t => if FT.lt t (FT.addNs s.now 8) && !(s.tioPin k).active then s.tioFireLate k t s.nextTick else s.tioRearm k
  | none => s.tioRearm k

/-- A pin out of every capture mode holds no edges, and counts them afresh in the next one (R467). -/
def TioPin.noCapture (p : TioPin) : TioPin := { p with queue := [], seq := 0, lost := 0, lastEdge := none }

/-- A commit changes pin `k` (R460, R464): a pulse in progress ends at its old inactive edge. -/
def State.tioCommit (k : Nat) (s : State) : State :=
  let mode := s.tioCfg k 1
  let s := when (decide (mode < 3)) (State.modTio k TioPin.noCapture) s
  if mode = 1 ∨ mode = 2 then
    ((s.claimComparator (0x300 + k)).modTio k fun p =>
      { p with running := true, left := if mode = 1 then 1 else s.tioCfg k 7, endless := mode == 2 && s.tioCfg k 7 == 0,
               next := some (s.tioStart k) }).tioArm k
  else
    (s.releaseComparator (0x300 + k)).modTio k fun p =>
      { p with running := false, active := false, off := none, next := none }

/-- The output stage becomes enabled: a pin inside a pulse stays inactive until its next active edge (R463). -/
def State.tioEnabled (s : State) : State :=
  { s with ptp.tio := s.ptp.tio.map fun p => { p with held := p.active } }

/-- The level of pin `k` at its ball: active only while the output stage is enabled and the pin is not held back. -/
def State.tioLevel (k : Nat) (s : State) : Bool :=
  s.pair.output && (s.tioPin k).active && !(s.tioPin k).held

/-- The first START + i × PERIOD at least 8 ns after a time (R465). -/
def firstPeriod (start : FT) (period : Nat) (now : FT) : FT :=
  let gap := FT.nsSince start (FT.addNs now 8)
  if FT.le (FT.addNs now 8) start then start
  else
    let t := FT.addNs start (gap / period * period)
    if FT.le (FT.addNs now 8) t then t else FT.addNs t period

/-- A step or set moved Field Time from `old` to now (R465): what was skipped fires once, and a periodic output is armed
afresh. -/
def State.tioJumped (old : FT) (s : State) : State :=
  each (List.range 16) (fun k s =>
    if s.tioOutput k && ((s.tioPin k).running || (s.tioPin k).active) then
      let s := match (s.tioPin k).nextEdge with
        | some t => if FT.lt old t && FT.le t s.now then s.tioFireLate k t s.now else s
        | none => s
      if s.tioCfg k 1 = 2 ∧ (s.tioPin k).running = true then
        let was := (s.tioPin k).next.getD ⟨0, 0, 0⟩
        let new := firstPeriod (s.tioStart k) (s.tioCfg k 4) s.now
        (((s.modTio k fun p => { p with next := some new }).tioRearm k).count 0x20600A).record 0x2016
          [.u8 k, .ft was, .ft new]
      else s
    else s) s

end Sys2Proof.Machine
end

