-- ==== Sys2Proof/Machine/PairCore.lean ====
section
/-!
DEFINITION. What every family may do to the pair and the mode: the Seam loop and the output stage (R524 to R528), pair
states (R554), mode changes (R674) and the answer to an uncorrectable error in control (R43, R44).
-/

namespace Sys2Proof.Machine

/-- The output stage of R527, and of R519 for a unit alone: is it enabled, given its own loop, the peer reading and
whether it was? -/
def outputNext (pair : Bool) (drive : Drive) (peer : Reading) (was : Bool) : Bool :=
  match drive with
  | .own => !pair || peer == .free || (was && peer != .own)
  | .free => false
  | .off => false

/-- The output stage follows the loops (R527): axis enables (R494), TIO outputs (R463), role identity
(R427) and the sessions at its address (R584). -/
def State.refreshOutput (s : State) : State :=
  let out := outputNext s.inPair s.pair.drive s.pair.peer s.pair.output
  if out = s.pair.output then s
  else
    let s := ({ s with pair.output := out }).axisEnables out
    if out then
      let s := { s.tioEnabled.gratuitous with net.garp := 2, net.garpAt := s.ticks }
      { s with stop.quietUntil := if s.stop.latch then FT.addNs s.now 2000000 else s.stop.quietUntil }
    else State.roleSessionsEnd { s with net.garp := 0 }

/-- Drive the own loop (R524). -/
def State.drive (d : Drive) (s : State) : State :=
  let run := if d = Drive.own then s.upd.ownRun else 0
  ({ s with pair.drive := d, upd.ownRun := run }).refreshOutput

/-- A mode change: counter and record (R674), with its cause (0 request, 1 pair state, 2 fault, 3 reset), and the end of
the paths that do not run in the new mode (R230). -/
def State.enterMode (m : Mode) (cause : Nat) (s : State) : State :=
  if s.power.mode = m then s
  else
    let old := s.power.mode
    let served := match m with
      | .solo => true | .active => true | .standby => true | _ => s.time.served
    ((({ s with power.mode := m, time.served := served }).pathsEnd m).count 0x112001).record 0x1001
      [.u8 old.code, .u8 m.code, .u8 cause]

/-- The mode a pair state stands for (R554, R673). -/
def PairState.mode : PairState → Mode
  | .start => .boot | .active => .active | .transfer => .standby | .synced => .standby | .outgoing => .handover
  | .orphan => .orphan | .solo => .solo | .incoming => .standby

/-- A change of pair state (R554), with the mode it stands for. One in the tick of slot 0 makes a pending change of mode
lapse (R676). -/
def State.enterPair (p : PairState) (s : State) : State :=
  if s.pair.state = p then s
  else
    let old := s.pair.state
    let asked := if s.now.nsec % 100000000 < 2 then none else s.power.pendingMode
    (({ s with pair.state := p, power.pendingMode := asked }).record 0xB001 [.u8 old.code, .u8 p.code, .u8 s.pair.peer.code]).enterMode p.mode 1

/-- Is the peer SYNCED, as its heartbeats say (0x3C03 bits 2:0)? One whose HELLO disagrees never is (R538). -/
def State.peerSynced (s : State) : Bool := s.pair.peerState % 8 == 3 && !s.pair.mismatch

/-- ACK (R535): the highest LSEQ received in order; before the first frame, the number before 0. -/
def State.linkAck (s : State) : Nat := (s.pair.rxSeq + 2 ^ 32 - 1) % 2 ^ 32

/-- The lane of the next frame (R534): in turn, a lane without block lock being skipped. -/
def State.sendLane (s : State) : Nat := if s.pair.lanes.testBit s.pair.lane then s.pair.lane else 1 - s.pair.lane

/-- A frame goes out on the next lane, for the first time or again. -/
def State.linkOut (retry : Bool) (f : LinkFrame) (s : State) : State :=
  ({ s with pair.lane := 1 - s.sendLane }).emit (.link s.sendLane (linkOctets retry s.sendLane s.linkAck f))

/-- A frame of the Akris link leaves on a lane with block lock (R534, R535, R537). To a peer whose HELLO disagrees only HELLO and
HEARTBEAT_A are sent (R538). -/
def State.linkSend (kind : Nat) (payload : List Byte) (s : State) : State :=
  if s.inPair && s.pair.lanes != 0 && (!s.pair.mismatch || decide (kind ≤ 2)) then
    let f : LinkFrame := ⟨s.pair.txSeq, kind, payload⟩
    (({ s with pair := { s.pair with txSeq := (s.pair.txSeq + 1) % 2 ^ 32,
                                     ackAt := if s.pair.unacked.isEmpty then s.ticks else s.pair.ackAt,
                                     unacked := (s.pair.unacked ++ [f]).drop (s.pair.unacked.length + 1 - 256) } }).linkOut
      false f).count 0x3C2001
  else s

/-- Does a command bring a frame of the Akris link (R80)? -/
def isLinkFrame (i : Instr) : Bool :=
  match i with
  | .heartbeatA _ => true
  | .hello _ => true
  | .log _ => true
  | .baseObs _ => true
  | .confirm _ => true
  | .axis _ => true
  | .stateRequest _ => true
  | .state _ _ => true
  | .handoverGo _ => true
  | .handoverAck _ => true
  | .handoverAbort _ => true
  | _ => false

/-- A unit asks for a state transfer (R552): a new TRANSFER_ID, and the request leaves. -/
def State.requestTransfer (s : State) : State :=
  let s := { s with pair := { s.pair with transferId := (s.pair.transferId + 1) % 2 ^ 32, requested := some s.ticks,
                                          image := [], imageTotal := 0, kept := [], loaded := false } }
  s.linkSend 6 (requestOctets s.pair.transferId)

/-- STANDBY with TRANSFER (R554). -/
def State.toTransfer (s : State) : State := (s.enterPair .transfer).requestTransfer

/-- Does the unit hold OWN? -/
def State.holdsOwn (s : State) : Bool := s.pair.drive == .own

/-- The holder of OWN sends an AXIS record of an accepted write (R543). -/
def State.sendAxis (n kind code : Nat) (value : Int) (at_ : FT) (s : State) : State :=
  when s.holdsOwn (State.linkSend 7 (AxisRec.octets ⟨n, kind, (s.axis n).state.code, code, value, at_⟩)) s

/-- An uncorrectable error in control (R43, R44, R406, R554): a unit of a pair drives FREE, stops both heartbeats and
waits for its reset (R669); a unit alone sets the latch and enters SAFE, where the axis outputs outlive the output stage
(R406) and PD_SOLVE and PD_CORR are off (R673). -/
def State.unitFault (cause part addr : Nat) (s : State) : State :=
  let s := s.record 0x1050 [.u8 cause, .u8 part, .u64 addr]
  let struck := s.upd.struck || s.upd.state == .activating || s.upd.state == .trial
  let s : State := { s with power.pendingMode := none, upd.struck := struck }
  if s.inPair then
    { s.drive .free with pair := { (s.drive .free).pair with faulted := true, hbOut := false, handover := none },
                         power.faultTick := some s.ticks }
  else if s.power.mode = .safe then s
  else
    let axes := (s.setLatch 5).axes
    let s := (s.setLatch 5).drive .free
    (({ s with axes := axes, stop.safeTick := s.ticks, stop.strobeHb := s.time.hb, gnss.chans := [], gnss.queue := [],
               gnss.engines := [none, none],
               power.domains := setBit (setBit s.power.domains 4 false) 5 false }).enterMode .safe 2).count 0x112003

end Sys2Proof.Machine
end

