-- ==== Sys2Proof/Machine/Access.lean ====
section
/-!
DEFINITION. Values on the wire (R567) and the tests every dictionary access passes before an object's own rules (R19,
R53, R544, R545, R569, R570).
-/

namespace Sys2Proof.Machine

/-- The power domain that holds an object, where a mode in which a port answers can have it off (R19, R23, R662, R673):
PD_CORR (bit 5) for the traps, channels, acquisition and PPS_OUT, PD_SOLVE (bit 4) for the Solve engine. Which objects are
those blocks' own is DEDUCED from their home chapters (assumption 17). -/
def objectDomain (o : Nat) : Option Nat :=
  let i := o / 256
  if (0x2430 ≤ i ∧ i ≤ 0x2457) ∨ (0x2410 ≤ i ∧ i ≤ 0x2418) ∨ (0x2470 ≤ i ∧ i ≤ 0x2475) ∨ i = 0x2409 then some 5
  else if (0x2810 ≤ i ∧ i ≤ 0x281C) ∨ (0x2830 ≤ i ∧ i ≤ 0x2832) ∨ i = 0x2840 then some 4
  else none

/-- Is the power domain of an object on? -/
def State.powered (o : Nat) (s : State) : Bool :=
  match objectDomain o with
  | some d => s.domainOn d
  | none => true

/-- The objects of the pair-common ranges that are local to each unit (R545). -/
def localObjects : List Nat :=
  [0x2830, 0x2E21, 0x2F31, 0x4000, 0x4100, 0x4200, 0x4300, 0x2C09, 0x2F03, 0x2F20, 0x2F35]

/-- Is an object pair-common (R545)? -/
def pairCommon (o : Nat) : Bool :=
  let i := o / 256
  ((decide (0x2800 ≤ i) && decide (i ≤ 0x2FFF)) || (decide (0x3000 ≤ i) && decide (i ≤ 0x3004)) ||
    (decide (0x3008 ≤ i) && decide (i ≤ 0x3021)) || (decide (0x3401 ≤ i) && decide (i ≤ 0x3402)) ||
    (decide (0x3800 ≤ i) && decide (i ≤ 0x3807)) || (decide (0x4000 ≤ i) && decide (i ≤ 0x43FF))) &&
    !localObjects.contains i

/-- Does the unit take its decision-side inputs from its peer's log (R544)? A unit in HANDOVER (incoming) keeps the mode
STANDBY (R554). -/
def State.follows (s : State) : Bool := s.power.mode == .standby || s.power.mode == .orphan

/-- Does a length fit a type (R567)? -/
def Ty.lengthOk (n : Nat) : Ty → Bool
  | .bool => n == 1 | .u8 => n == 1 | .u16 => n == 2 | .u32 => n == 4 | .u64 => n == 8
  | .i32 => n == 4 | .i64 => n == 8 | .ft => n == 16
  | .str max => decide (n ≤ max)
  | .oct lo hi => decide (lo ≤ n) && decide (n ≤ hi)
  | .arr e max => decide (2 ≤ n) && decide ((n - 2) % e = 0) && decide ((n - 2) / e ≤ max)

/-- The value that octets of the right length spell. -/
def Ty.decode (bs : List Byte) : Ty → Val
  | .i32 => .num (toSigned 32 (leNat bs))
  | .i64 => .num (toSigned 64 (leNat bs))
  | .str _ => .oct bs
  | .oct _ _ => .oct bs
  | .arr _ _ => .oct bs
  | _ => .num (leNat bs)

/-- The octets of a value (R567). -/
def Ty.encode (v : Val) : Ty → List Byte
  | .bool => leBytes 1 v.int.toNat | .u8 => leBytes 1 v.int.toNat | .u16 => leBytes 2 v.int.toNat
  | .u32 => leBytes 4 v.int.toNat | .u64 => leBytes 8 v.int.toNat
  | .i32 => leBytes 4 (ofSigned 32 v.int) | .i64 => leBytes 8 (ofSigned 64 v.int) | .ft => leBytes 16 v.int.toNat
  | .str _ => v.bytes | .oct _ _ => v.bytes | .arr _ _ => v.bytes

/-- The type's own rules of R567 and R53 for octets of the right length. -/
def Ty.valueOk (bs : List Byte) : Ty → Bool
  | .bool => decide (leNat bs ≤ 1)
  | .ft => decide (field bs 4 4 ≤ 999999999)
  | .str _ => bs.all fun b => decide (0x20 ≤ b.toNat) && decide (b.toNat ≤ 0x7E)
  | .arr e _ => decide (bs.length = 2 + field bs 0 2 * e)
  | _ => true

/-- Does a value lie in the Range column? -/
def Range.holds (v : Val) : Range → Bool
  | .any => true
  | .between lo hi => decide (lo ≤ v.int) && decide (v.int ≤ hi)
  | .oneOf vs => vs.contains v.int
  | .multiples lo hi step => decide (lo ≤ v.int) && decide (v.int ≤ hi) && decide (v.int % step = 0)

/-- The value that octets spell for an object. -/
def valueOf (o : Nat) (bs : List Byte) : Val :=
  match Catalog.row? o with
  | some r => r.ty.decode bs
  | none => .oct bs

/-- Does the tamper input lock out a role (R697)? -/
def State.tamperLocked (role : Nat) (s : State) : Bool := s.sec.tamper && s.cfg 0x122000 == 2 && decide (role < 3)

/-- Rows 1 to 3 of R570 for a write: the result code, 0 where they pass; then the lock of R697. -/
def State.admits (role o : Nat) (s : State) : Nat :=
  match Catalog.row? o with
  | none => 0x22
  | some r => firstCase [
      (r.acc == .ro || decide (role < r.role), 0x30),
      (s.tamperLocked role && o != 0x123800, 0x14),
      (!s.powered o || (pairCommon o && s.follows), 0x11)]

/-- Rows 4 and 5 of R570 for a write. -/
def fits (o : Nat) (v : List Byte) : Nat :=
  match Catalog.row? o with
  | none => 0x22
  | some r => firstCase [
      (!r.ty.lengthOk v.length, 0x21),
      (!r.ty.valueOk v || !r.range.holds (r.ty.decode v), 0x20)]

/-- The whole of R570 for a write. -/
def State.writeCheck (role o : Nat) (v : List Byte) (s : State) : Nat :=
  let c := s.admits role o
  if c ≠ 0 then c else fits o v

/-! ### The settings areas (R578, R638) -/

/-- The select objects, which no save holds (R578). -/
def selectObjects : List Nat :=
  [0x101200, 0x1F0000, 0x244000, 0x244700, 0x283000, 0x2E2100, 0x2F3100, 0x302400, 0x3E1000, 0x400000, 0x410000,
    0x420000, 0x430000, 0x440000]

/-- Does a settings area hold an object (R578, R641)? The deny list and the owner lock stand in the secure store (R691). -/
def savable (o : Nat) : Bool :=
  match Catalog.row? o with
  | some r => r.acc == .rw && !selectObjects.contains o && !([0x121100, 0x121200].contains o)
  | none => false

/-- The bank of the runtime image in service: the inactive one from ACTIVATING on (R632, R633, R639). -/
def State.servingBank (s : State) : Nat :=
  if s.upd.state == .activating || s.upd.state == .trial then 1 - s.upd.active else s.upd.active

/-- The runtime image in service. -/
def State.serving (s : State) : Option Image := s.upd.banks.getD s.servingBank none

/-- DS_VERSION of the runtime image in service (0x3F1C). -/
def State.dsVersion (s : State) : Nat := (s.serving.map fun i => i.ds).getD 0

/-- Settings area `a`. -/
def State.areaAt (a : Nat) (s : State) : SettingsArea := s.upd.areas.getD a .erased

/-- The lowest erased area that is neither in use nor held for fallback. -/
def State.erasedArea (s : State) : Option Nat :=
  (List.range 4).find? fun a => decide ((s.areaAt a).used = 0) && a != s.upd.area && s.upd.oldArea != some a

/-- A new generation of the settings is written into the area in use; a full area gives place to an erased one (R638). -/
def State.saveSettings (s : State) : State :=
  let cur := s.areaAt s.upd.area
  let gen : SettingsArea :=
    { cur with gen := cur.gen + 1, used := cur.used + 1, version := (s.serving.map fun i => i.version).getD 0,
               schema := (s.serving.map fun i => i.schema).getD 0, content := s.settings.filter fun e => savable e.1 }
  if cur.used < Config.areaRoom then { s with upd.areas := setAt s.upd.areas s.upd.area gen }
  else
    match s.erasedArea with
    | some a =>
      let areas := setAt (setAt s.upd.areas s.upd.area .erased) a { gen with used := 1 }
      { s with upd.areas := areas, upd.area := a }
    | none => { s with upd.areas := setAt s.upd.areas s.upd.area gen }

/-- The first code of a list that is not DONE. -/
def firstCode : List Nat → Nat
  | [] => 0
  | c :: cs => if c ≠ 0 then c else firstCode cs

/-- A write that a row of its own stands for: refuse, or act and answer (R576). -/
def State.commandWrite (w : Writer) (o code : Nat) (act : State → State) (s : State) : State :=
  (if code ≤ 1 then act s else s).answer w o code

end Sys2Proof.Machine
end

