-- ==== Sys2Proof/Machine/TracksCore.lean ====
section
/-!
DEFINITION. The track network and the reservation table (chapter 08): entry layouts, the millisecond count, corridors,
conflicts, holds.
-/

namespace Sys2Proof.Machine

/-! ### Entry layouts (R256, R257, R260) -/

/-- Bits `lo … lo + w - 1` of a number. -/
def bits (n lo w : Nat) : Nat := n / 2 ^ lo % 2 ^ w

/-- A node entry never written. -/
def Node.blank : Node := ⟨0, 0, 0, false, 0, 0⟩

/-- The node that 16 octets spell. -/
def Node.decode (b : List Byte) : Node :=
  let n := leNat b
  ⟨toSigned 32 (bits n 96 32), toSigned 32 (bits n 64 32), toSigned 32 (bits n 32 32), n.testBit 31, bits n 28 3,
    bits n 0 16⟩

/-- The octets of a node entry. -/
def Node.encode (x : Node) : List Byte :=
  leBytes 16 (ofSigned 32 x.east * 2 ^ 96 + ofSigned 32 x.north * 2 ^ 64 + ofSigned 32 x.up * 2 ^ 32 +
    b2n x.valid * 2 ^ 31 + x.kind * 2 ^ 28 + x.tag)

/-- Reserved bits and codes of a node entry (R14, R256). -/
def nodeOctetsOk (b : List Byte) : Bool :=
  decide (bits (leNat b) 16 12 = 0) && decide (bits (leNat b) 28 3 < 6)

/-- A segment entry never written. -/
def Seg.blank : Seg := ⟨false, false, false, 0, 0, 0, 0, 0, false, 0, 0, 0, List.replicate 8 (false, 0)⟩

/-- One INC field of a word: bit 12 USED, bits 11:0 the segment. -/
def incField (w lo : Nat) : Bool × Nat := (w.testBit (lo + 12), bits w lo 12)

/-- The segment that 32 octets spell. -/
def Seg.decode (b : List Byte) : Seg :=
  let w0 := field b 0 8
  let w1 := field b 8 8
  let w2 := field b 16 8
  let w3 := field b 24 8
  ⟨w0.testBit 63, w0.testBit 62, w0.testBit 61, bits w0 48 11, bits w0 37 11, bits w0 8 24, bits w0 0 8, bits w1 56 8,
    w1.testBit 55, bits w1 52 3, bits w1 50 2, bits w1 0 16,
    [incField w2 51, incField w2 38, incField w2 25, incField w2 12, incField w3 51, incField w3 38, incField w3 25,
      incField w3 12]⟩

/-- The word of four INC fields. -/
def incWord (l : List (Bool × Nat)) : Nat :=
  ((l.zip [51, 38, 25, 12]).map fun e => (b2n e.1.1 * 4096 + e.1.2) * 2 ^ e.2).sum

/-- The octets of a segment entry. -/
def Seg.encode (x : Seg) : List Byte :=
  leBytes 8 (b2n x.valid * 2 ^ 63 + b2n x.closed * 2 ^ 62 + b2n x.oneWay * 2 ^ 61 + x.src * 2 ^ 48 + x.dst * 2 ^ 37 +
      x.length * 2 ^ 8 + x.speed) ++
    leBytes 8 (x.halfWidth * 2 ^ 56 + b2n x.gated * 2 ^ 55 + x.gateAxis * 2 ^ 52 + x.gatePos * 2 ^ 50 + x.tag) ++
    leBytes 8 (incWord (x.inc.take 4)) ++ leBytes 8 (incWord (x.inc.drop 4))

/-- Reserved bits and field ranges of a segment entry (R14, R293). -/
def segOctetsOk (b : List Byte) : Bool :=
  let w0 := field b 0 8
  let w1 := field b 8 8
  let x := Seg.decode b
  decide (bits w0 59 2 = 0) && decide (bits w0 32 5 = 0) && decide (bits w1 16 34 = 0) &&
    decide (bits (field b 16 8) 0 12 = 0) && decide (bits (field b 24 8) 0 12 = 0) &&
    (!x.valid || (decide (1 ≤ x.speed) && decide (1 ≤ x.halfWidth) && decide (1 ≤ x.length)))

/-- The encoding of R260. -/
def ResState.code : ResState → Nat
  | .free => 0 | .speculative => 1 | .confirmed => 2 | .held => 3

/-- The 16 octets of a reservation entry as a reader sees it (R260, R262, R38). -/
def Resv.encode (x : Resv) : List Byte :=
  match x.state with
  | .free => zeros 16
  | .speculative => zeros 16
  | _ => leBytes 16 (x.state.code * 2 ^ 126 + x.cause * 2 ^ 123 + x.machine * 2 ^ 112 + x.seg * 2 ^ 100 +
      x.leg * 2 ^ 80 + x.start * 2 ^ 40 + x.stop)

/-- The reservation that 16 octets of a state image spell (R553): no entry is SPECULATIVE there. -/
def Resv.decode (b : List Byte) : Resv :=
  let n := leNat b
  match bits n 126 2 with
  | 2 => ⟨.confirmed, bits n 123 3, bits n 112 8, bits n 100 12, bits n 80 16, bits n 40 40, bits n 0 40⟩
  | 3 => ⟨.held, bits n 123 3, bits n 112 8, bits n 100 12, bits n 80 16, bits n 40 40, bits n 0 40⟩
  | _ => .free

/-! ### Tables -/

/-- Node `i`. -/
def TracksSt.node (x : TracksSt) (i : Nat) : Node := SMap.getD .blank i x.nodes

/-- Segment `j`. -/
def TracksSt.seg (x : TracksSt) (j : Nat) : Seg := SMap.getD .blank j x.segs

/-- Reservation entry `i`. -/
def TracksSt.entry (x : TracksSt) (i : Nat) : Resv := SMap.getD .free i x.res

/-- Write a node entry. -/
def TracksSt.putNode (i : Nat) (v : Node) (x : TracksSt) : TracksSt :=
  { x with nodes := SMap.put (fun _ => Node.blank) i v x.nodes }

/-- Write a segment entry. -/
def TracksSt.putSeg (j : Nat) (v : Seg) (x : TracksSt) : TracksSt :=
  { x with segs := SMap.put (fun _ => Seg.blank) j v x.segs }

/-- Entries of the reservation table (R260). -/
def resEntries : Nat := 16384

/-- The lowest number from `k` on that a strictly rising list of numbers leaves out. -/
def lowestGap : Nat → List Nat → Nat
  | k, [] => k
  | k, i :: l => if i = k then lowestGap (k + 1) l else k

/-- The lowest-numbered FREE entry (R263). -/
def TracksSt.freeEntry (x : TracksSt) : Option Nat :=
  if lowestGap 0 x.res.keys < resEntries then some (lowestGap 0 x.res.keys) else none

/-- How many entries are FREE. -/
def TracksSt.freeCount (x : TracksSt) : Nat := resEntries - x.res.length

/-- The entries that satisfy a test. -/
def TracksSt.entriesOf (p : Resv → Bool) (x : TracksSt) : List Nat := (x.res.filter fun e => p e.2).map Prod.fst

/-- Has a segment an entry that is not FREE? -/
def TracksSt.busySeg (j : Nat) (x : TracksSt) : Bool := x.res.any fun e => e.2.seg == j

/-! ### The millisecond count (R261) -/

/-- T_ms of a Field Time. -/
def FT.ms (t : FT) : Nat := (FT.ns t / 1000000) % 2 ^ 40

/-- Milliseconds since the epoch, not reduced. -/
def FT.wholeMs (t : FT) : Nat := FT.ns t / 1000000

/-- Is `a` later than `b`, modulo 2^40? -/
def msAfter (a b : Nat) : Bool :=
  let d := (a + 2 ^ 40 - b % 2 ^ 40) % 2 ^ 40
  decide (0 < d) && decide (d < 2 ^ 39)

/-- Is `a` at or before `b`? -/
def msAtOrBefore (a b : Nat) : Bool := !msAfter a b

/-- Signed distance from `b` to `a`, modulo 2^40. -/
def msDiff (a b : Nat) : Int := toSigned 40 ((a + 2 ^ 40 - b % 2 ^ 40) % 2 ^ 40)

/-- Two windows overlap (R266); `endless` says that the first, or the second, has no end. -/
def overlaps (aStart aEnd : Nat) (aEndless : Bool) (bStart bEnd : Nat) (bEndless : Bool) : Bool :=
  (aEndless || msAfter aEnd bStart) && (bEndless || msAfter bEnd aStart)

/-! ### Geometry, in whole millimetres (R258, R272) -/

/-- Does a point lie within `reach` of the chord from `a` to `b`? -/
def nearChord (px py ax ay bx by_ : Int) (reach : Nat) : Bool :=
  let dx := bx - ax
  let dy := by_ - ay
  let wx := px - ax
  let wy := py - ay
  let dot := wx * dx + wy * dy
  let len2 := dx * dx + dy * dy
  let r2 : Int := reach * reach
  if dot ≤ 0 then decide (wx * wx + wy * wy ≤ r2)
  else if len2 ≤ dot then decide ((px - bx) * (px - bx) + (py - by_) * (py - by_) ≤ r2)
  else decide ((wx * dy - wy * dx) * (wx * dy - wy * dx) ≤ r2 * len2)

/-- Does a disc of radius `r` about a point touch the corridor of segment `j` (R258, R272)? A point has radius 0. -/
def TracksSt.touches (j : Nat) (east north : Int) (r : Nat) (x : TracksSt) : Bool :=
  let g := x.seg j
  let a := x.node g.src
  let b := x.node g.dst
  nearChord east north a.east a.north b.east b.north (r + g.halfWidth * 50)

/-- Position of a point along the chord of a segment, as a fraction of the chord from FROM: numerator, denominator. A
chord of no length counts as 0 of 1. -/
def TracksSt.along (g : Seg) (east north : Int) (x : TracksSt) : Nat × Nat :=
  let a := x.node g.src
  let b := x.node g.dst
  let dx := b.east - a.east
  let dy := b.north - a.north
  let len2 := (dx * dx + dy * dy).toNat
  let dot := ((east - a.east) * dx + (north - a.north) * dy).toNat
  if len2 = 0 then (0, 1) else (min dot len2, len2)

/-! ### Conflicts (R259, R266, R282) -/

/-- Are two segments incompatible (R259)? -/
def incompatible (a b : Nat) (x : TracksSt) : Bool :=
  (x.seg a).inc.contains (true, b) || (x.seg b).inc.contains (true, a)

/-- LEAD of a gate, ms (R281), as the latest snapshot took it. -/
def State.gateLead (g : Nat) (s : State) : Nat := s.eff ((0x2D20 + g) * 256 + 6)

/-- Two entries conflict (R266). `lead` is LEAD by axis. -/
def conflict (lead : Nat → Nat) (x : TracksSt) (e f : Resv) : Bool :=
  let endlessE := e.state == .held
  let endlessF := f.state == .held
  let a := x.seg e.seg
  let b := x.seg f.seg
  e.state != .free && f.state != .free && (e.machine != f.machine || e.machine == 0) &&
    (((e.seg == f.seg || incompatible e.seg f.seg x) && overlaps e.start e.stop endlessE f.start f.stop endlessF) ||
      (a.gated && b.gated && a.gateAxis == b.gateAxis && a.gatePos != b.gatePos &&
        overlaps ((e.start + 2 ^ 40 - lead a.gateAxis) % 2 ^ 40) e.stop endlessE
          ((f.start + 2 ^ 40 - lead b.gateAxis) % 2 ^ 40) f.stop endlessF))

/-- The lowest entry that is CONFIRMED or HELD and conflicts with `e`, other than entry `self`. -/
def State.conflictWith (self : Nat) (e : Resv) (s : State) : Option Nat :=
  (s.tracks.res.find? fun f => f.1 != self && (f.2.state == .confirmed || f.2.state == .held) &&
    conflict (fun g => s.gateLead g) s.tracks e f.2).map Prod.fst

/-! ### Machines -/

/-- Machine `k`, 1 to 128. -/
def State.machine (s : State) (k : Nat) : Machine := s.machines.getD (k - 1) .init

/-- Change machine `k`. -/
def State.modMachine (k : Nat) (f : Machine → Machine) (s : State) : State :=
  if 1 ≤ k then { s with machines := modAt s.machines (k - 1) f } else s

/-- The margin of R272 in mm, rounded up. -/
def State.margin (sigH : Nat) (s : State) : Nat := s.eff 0x2D0200 + (s.eff 0x2D0300 * sigH + 9) / 10

/-- The footprint radius of machine `k` (R272), rounded up. -/
def State.radius (k sigH : Nat) (s : State) : Nat := (s.eff (0x2D1000 + k) + 1) / 2 + s.margin sigH

/-- Does the footprint of machine `k` about its snapshot position touch segment `j`? Without a position it does (R268). -/
def State.footprintTouches (k j : Nat) (s : State) : Bool :=
  match (s.machine k).snap with
  | none => true
  | some f => f.pos.status == 0 || s.tracks.touches j f.pos.east f.pos.north (s.radius k f.pos.sigH)

/-! ### Holds (R287, R289) -/

/-- The counter of a hold cause. -/
def heldCounter (cause : Nat) : Nat := if cause < 5 then 0x2D4001 + cause else 0x2D4006

/-- The machines whose entries are in a list, rising, each once. -/
def machinesOf (l : List Resv) : List Nat := (List.range 129).filter fun k => l.any fun e => e.machine == k

/-- Record 0x5011 for a machine and cause, once per cycle (R289). -/
def State.recordHeld (k cause n : Nat) (s : State) : State :=
  let cyc := FT.cycle s.now
  let seen := if s.tracks.seen.1 = cyc then s.tracks.seen.2 else []
  if seen.contains (k * 8 + cause) then s
  else ({ s with tracks.seen := (cyc, (k * 8 + cause) :: seen) }).record 0x5011 [.u8 k, .u8 cause, .u32 n]

/-- Entries become HELD (R287): a cause DATA is never replaced (DEDUCED: R285 says so of GATE, R287 gives DATA no other release
than the host's), an entry already HELD takes the new cause without entering HELD again (assumption 23). -/
def State.holdEntries (l : List Nat) (cause : Nat) (s : State) : State :=
  let l := l.filter fun i => !((s.tracks.entry i).state == .held && (s.tracks.entry i).cause == 5)
  let new := l.filter fun i => (s.tracks.entry i).state != .held
  let t := each l (fun i s => { s with tracks := s.tracks.putEntry i { s.tracks.entry i with state := .held, cause := cause } }) s
  let t := t.countN (heldCounter cause) new.length
  let held := new.map s.tracks.entry
  each (machinesOf held) (fun k t => t.recordHeld k cause (held.filter fun e => e.machine == k).length) t

/-- An entry already HELD is struck by an uncorrectable error (R41, R264): its cause becomes DATA, counted and recorded. -/
def State.holdStruck (i : Nat) (s : State) : State :=
  let e := s.tracks.entry i
  (({ s with tracks := s.tracks.putEntry i { e with cause := 5 } }).count (heldCounter 5)).recordHeld e.machine 5 1

/-- HELD entries are released (R288, R292): counter; `how` is 0 by rule, 1 by command. The records follow at the end of the
snapshot's releases, or of the commit. -/
def State.releaseHolds (l : List Nat) (how : Nat) (s : State) : State :=
  let gone := l.map fun i => ((s.tracks.entry i).machine, how)
  let t := (s.freeEntries l).countN 0x2D4007 l.length
  { t with tracks.freed := t.tracks.freed ++ gone }

/-- Record 0x5012 for the releases since the last time: one per machine and way (R289). -/
def State.recordFreed (s : State) : State :=
  let l := s.tracks.freed
  each (List.range 258) (fun n t =>
    let e := (n / 2, n % 2)
    when (l.contains e) (State.record 0x5012 [.u8 e.1, .u32 (l.filter (· == e)).length, .u8 e.2]) t)
    { s with tracks.freed := [] }

/-! ### The stop state -/

/-- The stop state of the decision side becomes active (R287): every leg under check is withdrawn, every entry of a
machine HELD with cause STOP. -/
def State.holdForStop (s : State) : State :=
  let s := s.withdrawLegs 6 fun _ => true
  s.holdEntries (s.tracks.entriesOf fun e => decide (1 ≤ e.machine)) 2

/-! ### Gate faults (R285, R490) -/

/-- Is a VALID segment GATED on an axis? -/
def TracksSt.gatesOn (g : Nat) (x : TracksSt) : Bool := x.segs.any fun e => e.2.valid && e.2.gated && e.2.gateAxis == g

/-- Is segment `j` GATED on axis `g`? -/
def TracksSt.isGatedOn (g j : Nat) (x : TracksSt) : Bool := (x.seg j).gated && (x.seg j).gateAxis == g

/-- A fault is declared on gate axis `g` (R285): legs through it are withdrawn, entries HELD with cause GATE. R340 has no
CAUSE for such a withdrawal, so its trace record holds a free value there (assumption 5). -/
def State.gateFault (g : Nat) (s : State) : State :=
  let cause := s.free % 16
  let s := { s.drawn with tracks.gateHold := g :: s.tracks.gateHold }
  let s := s.withdrawLegs cause fun l => l.entries.any fun i => s.tracks.isGatedOn g (s.tracks.entry i).seg
  let l := s.tracks.entriesOf fun e => s.tracks.isGatedOn g e.seg && !(e.state == .held && e.cause == 5)
  (s.holdEntries l 6).record 0x5016 [.u8 g, .u32 l.length]

/-- Watch axis `g` for a gate fault (R285, R490): declared on an axis that gates a segment, cleared when the axis is
IDLE in GATE mode. -/
def State.gateWatch (g : Nat) (s : State) : State :=
  if s.tracks.gateHold.contains g then
    if (s.axis g).state = .idle ∧ s.axisCfg g 1 = 1 then
      { s with tracks.gateHold := s.tracks.gateHold.filter (· != g) }
    else s
  else when (s.tracks.gatesOn g && s.gateFaulty g true) (State.gateFault g) s

end Sys2Proof.Machine
end

