-- ==== Sys2Proof/Machine/TracksEdit.lean ====
section
/-!
DEFINITION. Editing the network while the fleet runs (R291 to R295): the checks at the commit, the application of a
commit, and the way of a decision-side write into the input log.
-/

namespace Sys2Proof.Machine

/-- Does the per-cycle path run (R230)? -/
def State.perCycle (s : State) : Bool := s.power.mode.perCycle

/-- Milliseconds since the epoch of the start of the first cycle after an instant. -/
def FT.nextCycleMs (t : FT) : Nat := FT.wholeMs (FT.cycleStart t) + 100

/-! ### Checks at the commit (R292, R293) -/

/-- The field checks on a command of 0x2D30 (R292, R293). -/
def resCommandOk (b : List Byte) : Bool :=
  let op := field b 0 1
  let target := field b 2 2
  decide (b.length = 24) && decide (1 ≤ op) && decide (op ≤ 4) && decide (field b 4 4 = 0) &&
    (if op = 3 then decide (1 ≤ field b 1 1) && decide (field b 1 1 ≤ 128) && decide (target = 0)
      else decide (field b 1 1 = 0)) &&
    (if op = 1 then decide (target < 4096) else decide (target < resEntries)) &&
    (if op = 1 then decide (field b 8 8 < 2 ^ 40) && decide (field b 16 8 < 2 ^ 40)
      else decide (field b 8 8 = 0) && decide (field b 16 8 = 0))

/-- The checks of R293 at the commit of one table write. -/
def tableWriteOk (o : Nat) (v : List Byte) : Bool :=
  if o = 0x400100 then nodeOctetsOk v
  else if o = 0x410100 then segOctetsOk v
  else if o = 0x2D3000 then resCommandOk v
  else true

/-- Is an object one of the table windows or commands of RESERVE (R291)? -/
def isTrackEdit (o : Nat) : Bool := o == 0x400100 || o == 0x410100 || o == 0x2D3000

/-! ### Application (R291, R293, R294) -/

/-- The tables after every node and segment write of a commit. -/
def TracksSt.edited (l : List Edit) (x : TracksSt) : TracksSt :=
  l.foldl (fun x e =>
    if e.obj = 0x400100 then x.putNode e.sel (Node.decode e.value)
    else if e.obj = 0x410100 then x.putSeg e.sel (Seg.decode e.value) else x) x

/-- Rows 1 and 2 of R293 on a segment written VALID. -/
def segRows12 (j : Nat) (g : Seg) (new : TracksSt) : Bool :=
  let a := new.node g.src
  let b := new.node g.dst
  let dx := b.east - a.east
  let dy := b.north - a.north
  a.valid && b.valid && g.src != g.dst &&
    (g.inc.all fun i => !i.1 || (i.2 != j && (new.seg i.2).valid)) &&
    decide (dx * dx + dy * dy ≤ ((g.length * 10 : Nat) : Int) * (g.length * 10 : Nat))

/-- Row 3 of R293: the fields that a segment with entries keeps. -/
def segKeeps (old new : Seg) : Bool :=
  old.src == new.src && old.dst == new.dst && old.length == new.length && old.halfWidth == new.halfWidth &&
    old.oneWay == new.oneWay && old.gated == new.gated && old.gateAxis == new.gateAxis && old.gatePos == new.gatePos &&
    (!old.valid || new.valid)

/-- Row 5 of R293: do two existing entries, one on segment `j`, conflict in the new tables and not in the old? -/
def newConflict (lead : Nat → Nat) (j : Nat) (old new : TracksSt) : Bool :=
  (old.res.filter fun e => e.2.seg == j).any fun e => old.res.any fun f =>
    e.1 != f.1 && conflict lead new e.2 f.2 && !conflict lead old e.2 f.2

/-- The rows of R293 on a node or segment write: `true` where they pass. `old` is the state before the commit. -/
def tableRows (lead : Nat → Nat) (e : Edit) (old new : TracksSt) : Bool :=
  if e.obj = 0x400100 then
    let a := old.node e.sel
    let b := Node.decode e.value
    let moved := a.east != b.east || a.north != b.north || a.up != b.up || (a.valid && !b.valid)
    !(moved && old.segs.any fun g => (g.2.src == e.sel || g.2.dst == e.sel) && old.busySeg g.1)
  else
    let g := Seg.decode e.value
    (!g.valid || segRows12 e.sel g new) && (!old.busySeg e.sel || segKeeps (old.seg e.sel) g) &&
      !newConflict lead e.sel old new

/-- OP 1 of R292 (R293, R294): the result code, and the entry it takes. `t1` is in the count of R261. -/
def State.hostCreate (t1 : Nat) (v : List Byte) (s : State) : Nat × Nat × State :=
  let j := field v 2 2
  let a := field v 8 8
  let b := field v 16 8
  let g := s.tracks.seg j
  let first := if g.gated then (t1 + 1 + s.gateLead g.gateAxis) % 2 ^ 40 else t1
  let r : Resv := ⟨.confirmed, 0, 0, j, 0, a, b⟩
  if !g.valid || g.closed || !msAfter b a || decide ((s.eff 0x2D0600 : Int) * 1000 < msDiff b a) || msAfter first a then
    (0x20, j, s)
  else if (s.conflictWith resEntries r).isSome || (g.gated && s.tracks.gateHold.contains g.gateAxis) then (0x41, j, s)
  else match s.tracks.freeEntry with
    | none => (0x10, j, s)
    | some i => (0, i, { s with tracks := s.tracks.putEntry i r })

/-- One command of 0x2D30 (R292 to R294): result code, target, the state after it. -/
def State.resCommand (t1 : Nat) (v : List Byte) (s : State) : Nat × Nat × State :=
  let i := field v 2 2
  let e := s.tracks.entry i
  match field v 0 1 with
  | 1 => s.hostCreate t1 v
  | 2 =>
    if e.state = .free ∨ e.machine ≠ 0 then (0x22, i, s)
    else (0, i, if e.state = .held then s.releaseHolds [i] 1 else s.freeEntries [i])
  | 3 => (0, 0, s.releaseHolds (s.tracks.entriesOf fun x => x.state == .held && x.machine == field v 1 1) 1)
  | _ => if e.state = .held then (0, i, s.releaseHolds [i] 1) else (0x22, i, s)

/-- One write of a commit: result code, target and the state with it applied. -/
def State.applyEdit (t1 : Nat) (old : TracksSt) (e : Edit) (s : State) : Nat × Nat × State :=
  if e.obj = 0x2D3000 then s.resCommand t1 e.value
  else (if tableRows (fun g => s.gateLead g) e old s.tracks then 0 else 0x41, e.sel, s)

/-- The writes of a commit in staged order: the last one's target, or the first failing one's code, object and target. -/
def State.applyAll (t1 : Nat) (old : TracksSt) : List Edit → Nat → State → Nat × Nat × Nat × State
  | [], target, s => (0, 0, target, s)
  | e :: l, _, s =>
    let r := s.applyEdit t1 old e
    if r.1 = 0 then r.2.2.applyAll t1 old l r.2.1 else (r.1, e.obj, r.2.1, s)

/-- τ of a segment returns to its nominal value when LENGTH or SPEED_MAX changes (R308). -/
def TracksSt.retimed (old new : TracksSt) (tau : SMap Nat) : SMap Nat :=
  tau.filter fun e => (old.seg e.1).length == (new.seg e.1).length && (old.seg e.1).speed == (new.seg e.1).speed

/-- The outcome of an edit in 0x2D31. -/
def State.editShown (n code target : Nat) (s : State) : State :=
  ((s.show 0x2D3101 ((s.shownNat 0x2D3101 + n) % 2 ^ 32 : Nat)).show 0x2D3102 code).show 0x2D3103 target

/-- One commit of table writes is applied whole or refused whole (R291, R293); a segment that it gates on an axis out of
service brings that axis's fault (R285, R490). -/
def State.applyCommit (t1 : Nat) (l : List Edit) (s : State) : State :=
  let old := s.tracks
  let s' : State := { s with tracks := old.edited l, tasks.tau := old.retimed (old.edited l) s.tasks.tau }
  let r := s'.applyAll t1 old l 0
  if r.1 = 0 then
    ((((each (List.range 8) State.gateWatch r.2.2.2).countN 0x2D400C l.length).editShown l.length 0 r.2.2.1)).saveSettings
  else ((s.count 0x2D400D).record 0x5014 [.u32 r.2.1, .u16 r.2.2.1, .u8 r.1]).editShown 1 r.1 r.2.2.1

/-- Edits grouped by their commits, in log order. -/
def commitsOf : List Edit → List (List Edit)
  | [] => []
  | e :: l => match commitsOf l with
    | (f :: fs) :: r => if e.commit = f.commit ∧ e.stamp = f.stamp then (e :: f :: fs) :: r else [e] :: (f :: fs) :: r
    | r => [e] :: r

/-- Every waiting commit is applied, in log order (R267 step 3). -/
def State.applyEdits (t1 : Nat) (l : List Edit) (s : State) : State := each (commitsOf l) (State.applyCommit t1) s

/-! ### Into the input log (R231, R541) -/

/-- Is an object one of the table windows, whose logged write carries the entry selected at its staging (R541)? -/
def isTableWindow (o : Nat) : Bool := o == 0x400100 || o == 0x410100 || o == 0x430100

/-- DATA of a logged dictionary write (R541). -/
def writeData (o sel : Nat) (v : List Byte) : List Byte :=
  leBytes 2 (o / 256) ++ [byte (o % 256), 0#8] ++ (if isTableWindow o then leBytes 2 sel else []) ++ v

/-- The write that logged DATA spells. -/
def Edit.ofData (commit : Nat) (stamp : FT) (d : List Byte) : Edit :=
  let o := field d 0 2 * 256 + field d 2 1
  if isTableWindow o then ⟨commit, stamp, o, field d 4 2, d.drop 6⟩ else ⟨commit, stamp, o, 0, d.drop 4⟩

/-- A committed decision-side write goes to INGEST (R231, R545). -/
def State.logWrite (o sel : Nat) (v : List Byte) (s : State) : State :=
  s.takeCommitted s.pipe.commits 0x10 s.now (writeData o sel v)

/-- The value of a select object that governs a window. -/
def State.selectOf (o : Nat) (s : State) : Nat :=
  if o = 0x400100 then s.cfg 0x400000 else if o = 0x410100 then s.cfg 0x410000
  else if o = 0x430100 then s.cfg 0x430000 else 0

end Sys2Proof.Machine
end

