-- ==== Sys2Proof/Machine/TasksCore.lean ====
section
/-!
DEFINITION. The task table (chapter 09): its layout, its edits and commands, requeueing and revocation.
-/

namespace Sys2Proof.Machine

/-! ### Layout (R298) -/

/-- An EMPTY entry. -/
def Task.blank : Task :=
  { state := .empty, prio := 0, kind := 0, machine := 0, startNode := 0, endNode := 0, classes := 0, retries := 0,
    expire := false, release := 0, work := 0, deadline := 0, energy := 0, tag := 0, param := 0, award := 0, progress := 0,
    cause := 0, route := [], timer := none, final := ⟨0, 0, 0⟩, bars := [] }

/-- The host fields that 32 octets spell; every RO field is at zero. -/
def Task.decode (b : List Byte) : Task :=
  let w0 := field b 0 8
  let w1 := field b 8 8
  let w2 := field b 16 8
  { Task.blank with
    prio := bits w0 58 3, kind := bits w0 54 4, startNode := bits w0 35 11, endNode := bits w0 24 11,
    classes := bits w0 8 16, expire := w0.testBit 3, release := bits w1 24 40, work := bits w1 0 24,
    deadline := bits w2 24 40, energy := bits w2 14 10, tag := bits w2 0 14, param := field b 28 4 }

/-- The 32 octets of an entry. -/
def Task.encode (t : Task) : List Byte :=
  leBytes 8 (t.state.code * 2 ^ 61 + t.prio * 2 ^ 58 + t.kind * 2 ^ 54 + t.machine * 2 ^ 46 + t.startNode * 2 ^ 35 +
      t.endNode * 2 ^ 24 + t.classes * 2 ^ 8 + t.retries * 2 ^ 4 + b2n t.expire * 2 ^ 3) ++
    leBytes 8 (t.release * 2 ^ 24 + t.work) ++
    leBytes 8 (t.deadline * 2 ^ 24 + t.energy * 2 ^ 14 + t.tag) ++
    leBytes 8 (t.param * 2 ^ 32 + t.award * 2 ^ 16 + t.progress * 2 ^ 8 + t.cause * 2 ^ 4)

/-- The state of an encoding (R298). -/
def TaskState.ofCode (n : Nat) : TaskState :=
  match n with
  | 0 => .empty | 1 => .waiting | 2 => .open_ | 3 => .awarded | 4 => .running | 5 => .done | 6 => .failed
  | _ => .cancelled

/-- An entry of a state image (R553): host fields and RO fields. -/
def Task.load (b : List Byte) : Task :=
  let w0 := field b 0 8
  let w3 := field b 24 8
  { Task.decode b with
    state := TaskState.ofCode (bits w0 61 3), machine := bits w0 46 8, retries := bits w0 4 4, award := bits w3 16 16,
    progress := bits w3 8 8, cause := bits w3 4 4 }

/-- The checks of R299 at the commit, at the millisecond count `now`. -/
def taskOctetsOk (now : Nat) (b : List Byte) : Bool :=
  let w0 := field b 0 8
  let w3 := field b 24 8
  let t := Task.decode b
  let from_ := if t.release = 0 then now else t.release
  decide (bits w0 61 3 = 0) && decide (bits w0 46 8 = 0) && decide (bits w0 4 4 = 0) && decide (bits w0 0 3 = 0) &&
    decide (bits w3 0 32 = 0) && t.kind != 15 && t.classes != 0 && decide (t.energy ≤ 1000) &&
    (t.deadline == 0 || msAfter t.deadline ((from_ + 100 * t.work) % 2 ^ 40))

/-- The checks of R301 on a command of 0x2E30 at the commit. -/
def taskCommandOk (b : List Byte) : Bool :=
  decide (b.length = 8) && decide (1 ≤ field b 0 1) && decide (field b 0 1 ≤ 3) && decide (field b 1 1 = 0) &&
    decide (field b 2 2 ≤ 1023) && decide (field b 4 4 = 0)

/-! ### The table -/

/-- Task `i`. -/
def State.task (s : State) (i : Nat) : Task := SMap.getD .blank i s.tasks.tasks

/-- Write task `i`. -/
def State.putTask (i : Nat) (t : Task) (s : State) : State :=
  { s with tasks.tasks := SMap.put (fun _ => Task.blank) i t s.tasks.tasks }

/-- Change task `i`. -/
def State.modTask (i : Nat) (f : Task → Task) (s : State) : State := s.putTask i (f (s.task i))

/-- Does machine `k` hold the task? -/
def Task.heldBy (k : Nat) (t : Task) : Bool := (t.state == .awarded || t.state == .running) && t.machine == k

/-- The host fields of a task, with a state, as the settings area keeps them and R302 restores them. -/
def Task.restored (t : Task) : Task :=
  let host := { t with machine := 0, retries := 0, award := 0, progress := 0, cause := 0, route := [], timer := none,
                       final := ⟨0, 0, 0⟩, bars := [] }
  match t.state with
  | .waiting => { host with state := .waiting }
  | .open_ => { host with state := .open_ }
  | .awarded => { host with state := .open_ }
  | .running => { host with state := .open_ }
  | _ => Task.blank

/-- The table as a save of now would restore it (R302). -/
def restoredTasks (m : SMap Task) : SMap Task := SMap.mapVals (fun _ => Task.blank) (fun _ t => t.restored) m

/-- The task table is saved (R302). -/
def State.saveTasks (s : State) : State := { s with tasks.saved := restoredTasks s.tasks.tasks }.saveSettings

/-! ### Leaving AWARDED or RUNNING (R306, R315, R316) -/

/-- The octets of a task unit (R315). -/
def Task.unit (op i : Nat) (t : Task) : List Byte :=
  let route := if op = 1 then t.route else []
  [byte t.machine, byte op] ++ leBytes 2 i ++ [byte (t.kind + t.prio * 16), byte route.length] ++ leBytes 2 t.startNode ++
    leBytes 2 t.endNode ++ leBytes 2 t.award ++ leBytes 4 t.param ++ leBytes 8 t.deadline ++ route.flatMap (leBytes 2)

/-- A revocation begins (R315, R316): three cycles. -/
def State.revoke (i : Nat) (s : State) : State :=
  let t := s.task i
  { s with tasks.revokes := s.tasks.revokes ++ [⟨t.machine, i, t.unit 2 i, 3⟩] }

/-- A task enters a final state. -/
def State.finish (i : Nat) (st : TaskState) (cause : Nat) (at_ : FT) (s : State) : State :=
  s.modTask i fun t => { t with state := st, cause := cause, final := at_, timer := none }

/-- A task leaves AWARDED or RUNNING (R306); causes 0 timeout, 1 lost, 2 decline, 3 fail. -/
def State.leaveTask (i cause : Nat) (at_ : FT) (s : State) : State :=
  let k := (s.task i).machine
  let s := when (decide (cause < 2)) (State.revoke i) s
  if (s.task i).retries < s.eff 0x2E0200 then
    let r := min 15 ((s.task i).retries + 1)
    ((s.modTask i fun t => { t with state := .open_, machine := 0, retries := r, route := [], timer := none }).count
      0x2E4007).record 0x5021 [.u16 i, .u8 k, .u8 cause, .u8 r]
  else
    let c := if cause = 3 then 2 else 3
    ((((s.finish i .failed c at_).modTask i fun t => { t with machine := 0 }).count 0x2E4005).record 0x5022
      [.u16 i, .u8 k, .u8 c])

/-! ### Edits (R300, R301, R305) -/

/-- The outcome of a task edit in 0x2E31. -/
def State.taskShown (code target : Nat) (s : State) : State :=
  ((s.show 0x2E3101 ((s.shownNat 0x2E3101 + 1) % 2 ^ 32 : Nat)).show 0x2E3102 code).show 0x2E3103 target

/-- A task edit is refused at application (R300, R301). -/
def State.taskRefused (obj i code : Nat) (s : State) : State :=
  ((s.count 0x2E400A).record 0x5024 [.u32 obj, .u16 i, .u8 code]).taskShown code i

/-- An entry write at application (R300, R305); `t1` is in the count of R261. -/
def State.applyTaskWrite (t1 i : Nat) (v : List Byte) (s : State) : State :=
  let old := (s.task i).state
  let t := Task.decode v
  let st := if t.release = 0 ∨ msAtOrBefore t.release t1 then TaskState.open_ else .waiting
  let free := old == .empty || old == .waiting || old == .open_
  if free && (s.tracks.node t.startNode).valid && (s.tracks.node t.endNode).valid then
    ((when (old == .empty) (State.count 0x2E4001) (s.putTask i { t with state := st })).saveTasks).taskShown 0 i
  else s.taskRefused 0x430100 i 0x41

/-- May a command of 0x2E30 act on a task (R301)? -/
def commandFits (op : Nat) (t : Task) : Bool :=
  match op, t.state with
  | 1, .waiting => true | 1, .open_ => true | 1, .awarded => true | 1, .running => true
  | 2, .failed => true
  | 3, .done => true | 3, .failed => true | 3, .cancelled => true
  | _, _ => false

/-- The effect of a command (R305): cancel, requeue, clear. -/
def State.taskCommanded (op i : Nat) (at_ : FT) (s : State) : State :=
  match op with
  | 1 =>
    let s := when ((s.task i).heldBy (s.task i).machine) (State.revoke i) s
    (s.finish i .cancelled 5 at_).count 0x2E4006
  | 2 => s.modTask i fun t => { t with state := .open_, cause := 0, retries := 0, machine := 0 }
  | _ => s.putTask i .blank

/-- A command at application (R301). -/
def State.applyTaskCommand (v : List Byte) (at_ : FT) (s : State) : State :=
  let i := field v 2 2
  if commandFits (field v 0 1) (s.task i) then ((s.taskCommanded (field v 0 1) i at_).saveTasks).taskShown 0 i
  else s.taskRefused 0x2E3000 i 0x22

/-- One TABLE_EDIT for ALLOT (R303 step 1). -/
def State.applyTaskEdit (t1 : Nat) (at_ : FT) (e : Edit) (s : State) : State :=
  if e.obj = 0x430100 then s.applyTaskWrite t1 e.sel e.value else s.applyTaskCommand e.value at_

/-! ### Decision-side writes at their commit (R231, R291, R300, R545) -/

/-- Is an object one of ALLOT's (R298, R301)? -/
def isTaskEdit (o : Nat) : Bool := o == 0x430100 || o == 0x2E3000

/-- The field checks at the commit of a table write or command (R293, R299, R301). -/
def State.editOk (o : Nat) (v : List Byte) (s : State) : Bool :=
  if o = 0x430100 then taskOctetsOk (FT.ms s.now) v
  else if o = 0x2E3000 then taskCommandOk v
  else tableWriteOk o v

/-- The table writes of one commit where the per-cycle path does not run: applied at once (R291, R300). -/
def State.editsApplied (l : List (Nat × Nat × List Byte)) (s : State) : State :=
  let es := l.map fun e => (⟨s.pipe.commits, s.now, e.1, e.2.1, e.2.2⟩ : Edit)
  let t1 := FT.nextCycleMs s.now % 2 ^ 40
  let tracks := es.filter fun e => isTrackEdit e.obj
  let s := when (!tracks.isEmpty) (fun s => (s.applyCommit t1 tracks).recordFreed) s
  each (es.filter fun e => isTaskEdit e.obj) (State.applyTaskEdit t1 s.now) s

/-- The table writes of one commit: logged, or applied at once where the per-cycle path does not run (R291, R300). -/
def State.commitEdits (l : List (Nat × Nat × List Byte)) (s : State) : State :=
  let s := { s with pipe.commits := s.pipe.commits + 1 }
  if s.perCycle then each l (fun e s => s.logWrite e.1 e.2.1 e.2.2) s else s.editsApplied l

/-- The result code of a table write or command that stands alone: ACCEPTED where it passes (R293, R299, R301). -/
def State.editCheck (role o : Nat) (v : List Byte) (s : State) : Nat :=
  let c := s.writeCheck role o v
  if c ≠ 0 then c else if s.editOk o v then 1 else 0x20

/-- A table write or command as a row of its own. -/
def State.editRow (w : Writer) (o : Nat) (v : List Byte) (s : State) : State :=
  s.commandWrite w o (s.editCheck (s.roleOf w) o v) (State.commitEdits [(o, s.selectOf o, v)])

end Sys2Proof.Machine
end

