-- ==== Sys2Proof/Machine/PipeCore.lean ====
section
/-!
DEFINITION. What the stages of the fleet pipeline share (chapter 07): slack and misses, fallback markers, position
records and stand-ins, and the way of a record to LAUNCH.
-/

namespace Sys2Proof.Machine

/-! ### Slack, misses, markers (R227, R252, R254, R255) -/

/-- Nanoseconds from now to a deadline, negative after it. -/
def slackTo (deadline now : FT) : Int := Int.tdiv ((FT.units deadline : Int) - FT.units now) 4294967296

/-- A stage completes: its least slack (0x2C08). -/
def State.noteSlack (stage : Nat) (deadline : FT) (s : State) : State :=
  let x := slackTo deadline s.now
  { s with pipe.slack := modAt s.pipe.slack (stage - 1) fun m => min m (clamp (-2147483648) 2147483647 x) }

/-- A deadline of a cycle was missed (0x2C01, 0x2C02): the latest such cycle, and its stages. A cycle older than the one
shown leaves both as they are, unless Field Time has since been set back behind that one (DEDUCED, assumption 24). -/
def State.noteMissed (stage cycle : Nat) (s : State) : State :=
  let last := s.shownNat 0x2C0100
  let mask := s.shownNat 0x2C0200
  if mask ≠ 0 ∧ cycle < last ∧ last ≤ FT.cycle s.now then s
  else (s.show 0x2C0100 cycle).show 0x2C0200 ((if last = cycle then mask else 0) ||| 2 ^ (stage - 1) : Nat)

/-- A stage completes (R227, R254): its slack, and the miss if it is after its deadline. -/
def State.stageDone (stage cycle : Nat) (deadline : FT) (s : State) : State :=
  when (FT.lt deadline s.now) (State.noteMissed stage cycle) (s.noteSlack stage deadline)

/-- A stage missed its deadline: 0x2C01, 0x2C02 and record 0x5001 (R254, R255). -/
def State.stageLate (stage machine cycle : Nat) (slack : Int) (s : State) : State :=
  (({ s with upd.cleanRun := 0 } : State).noteMissed stage cycle).recordSince stage 0x5001 1
    [.u8 stage, .u64 cycle, .u8 machine, .i64 slack]

/-- A stage that has not completed at its deadline: the spec gives the record no slack then, so it is a free value
(assumption 5). -/
def State.stageMissed (stage machine cycle : Nat) (s : State) : State :=
  (s.stageLate stage machine cycle (-(s.free : Int))).drawn

/-- A unit that holds OWN logs the marker of a fallback (R252); the trace holds a record of it. -/
def State.marker (stage machine cycle : Nat) (s : State) : State :=
  (when s.holdsOwn (State.takeIn 0x30 s.now ([byte stage, byte machine] ++ leBytes 8 cycle)) s).traceFallback stage
    machine cycle

/-- The instant of the latest snapshot due by `now`: t₀ + 80 ms (R239, R741). -/
def FT.snapInstant (now : FT) : FT :=
  let c := FT.addNs (FT.cycleStart now) 80000000
  if FT.le c now then c else FT.addUnits c (-nsUnits 100000000)

/-! ### Position records (R219) -/

/-- A record of status NONE: every field from octet 4 on is zero (R220). -/
def PosRec.none_ (machine epoch : Nat) : PosRec :=
  ⟨machine, 0, false, false, false, epoch, 0, 0, 0, 0, 0, 0, 0, 0, 0, 0, 0⟩

/-- STATUS of a record (R219). -/
def PosRec.statusByte (p : PosRec) : Nat := p.status + b2n p.aged * 8 + b2n p.long * 16 + b2n p.newFix * 32

/-- The 32 octets of a record. -/
def PosRec.encode (p : PosRec) : List Byte :=
  [byte p.machine, byte p.statusByte] ++ leBytes 2 p.epoch ++ leBytes 4 (ofSigned 32 p.east) ++
    leBytes 4 (ofSigned 32 p.north) ++ leBytes 4 (ofSigned 32 p.up) ++ leBytes 2 (ofSigned 16 p.velE) ++
    leBytes 2 (ofSigned 16 p.velN) ++ leBytes 2 (ofSigned 16 p.velU) ++ leBytes 2 p.sigH ++ leBytes 2 p.sigU ++
    [byte p.nsat, byte p.ratio] ++ leBytes 2 p.age ++ [0#8, 0#8]

/-- The record that 32 octets spell. -/
def PosRec.decode (b : List Byte) : PosRec :=
  let st := field b 1 1
  { machine := field b 0 1, status := st % 8, aged := st.testBit 3, long := st.testBit 4, newFix := st.testBit 5,
    epoch := field b 2 2, east := toSigned 32 (field b 4 4), north := toSigned 32 (field b 8 4),
    up := toSigned 32 (field b 12 4), velE := toSigned 16 (field b 16 2), velN := toSigned 16 (field b 18 2),
    velU := toSigned 16 (field b 20 2), sigH := field b 22 2, sigU := field b 24 2, nsat := field b 26 1,
    ratio := field b 27 1, age := field b 28 2 }

/-- A coordinate advanced by a velocity in mm/s over so many tenths of a second (R237): the advanced value rounded to the
nearest whole millimetre, halves away from zero, saturating at I32. -/
def advanced (x vel : Int) (tenths : Nat) : Int :=
  let d := 10 * x + vel * tenths
  let q := if d < 0 then -((-d + 5) / 10) else (d + 5) / 10
  clamp (-2147483648) 2147483647 q

/-- The stand-in record of R237 for a Field Obs of EPOCH `epoch`. -/
def standIn (k epoch : Nat) (last : Option PosRec) : PosRec :=
  match last with
  | none => .none_ k epoch
  | some p =>
    let n := (epoch + 65536 - p.epoch) % 65536
    { p with status := 4, aged := false, long := false, newFix := false, epoch := epoch,
             east := advanced p.east p.velE n, north := advanced p.north p.velN n, up := advanced p.up p.velU n,
             sigH := min 65535 (2 * p.sigH), sigU := min 65535 (2 * p.sigU), nsat := 0, ratio := 0, age := 0 }

/-- Field Time of the start of a fleet cycle. -/
def cycleInstant (c : Nat) : FT := ⟨c / 10, c % 10 * 100000000, 0⟩

/-- A record as it is sent (R181): of status NONE until ANT_A has a committed position. -/
def State.recordSent (p : PosRec) (s : State) : PosRec :=
  if (s.shownNat 0x280700).testBit 0 then p else .none_ p.machine p.epoch

/-- A position record reaches COMPOSE and goes to LAUNCH (R228, R248, R367), and the snapshot sees it (R239). -/
def State.sendPosition (k : Nat) (w : SolveWait) (p : PosRec) (standIn : Bool) (s : State) : State :=
  let p := s.recordSent p
  let u : DownUnit := ⟨1, k, p.epoch, p.encode, s.now, FT.addNs w.end_ 100000000⟩
  let m := s.machine k
  let s := { s with pipe.launch := modAt s.pipe.launch m.port fun l => l ++ [u] }
  let due := FT.addNs w.end_ 6000000
  (s.modMachine k fun m => { m with sent := some p,
                                    fixes := (⟨w.end_, cycleInstant w.cycle, p, standIn⟩ :: m.fixes).take 3 }).stageDone 6
    (FT.cycle w.end_) due

/-- The stand-in of machine `k` takes the place of the solution it waits for (R237). -/
def State.useStandIn (k : Nat) (s : State) : State :=
  match (s.machine k).wait with
  | none => s
  | some w =>
    if w.standIn then s
    else
      let s := s.modMachine k fun m => { m with wait := some { w with standIn := true } }
      s.sendPosition k w (Machine.standIn k (w.cycle % 65536) (s.machine k).sent) true

/-- The fallback of SOLVE for machine `k`, as its holder takes it (R237, R252). -/
def State.solveFallback (k : Nat) (s : State) : State :=
  let cyc := FT.cycle s.now
  (((s.useStandIn k).count 0x2C1006).stageMissed 3 k cyc).marker 3 k cyc

end Sys2Proof.Machine
end

