-- ==== Sys2Proof/Machine/Reserve.lean ====
section
/-!
DEFINITION. RESERVE (chapters 07, 08): the snapshot, expiry and release, route validity and windows of a leg, the
conflict check, and the plan of the gates.
-/

namespace Sys2Proof.Machine

/-! ### Fractions of a millisecond (R273) -/

/-- Sum of two fractions. -/
def fracAdd (a b : Nat × Nat) : Nat × Nat := (a.1 * b.2 + b.1 * a.2, a.2 * b.2)

/-- Milliseconds that `mm` millimetres take at `v` tenths of a metre per second. -/
def travelMs (mm v : Nat) : Nat × Nat := (10 * mm, v)

/-- `a − b`, at least zero, rounded down. -/
def fracSubFloor (a b : Nat × Nat) : Nat := (a.1 * b.2 - b.1 * a.2) / (a.2 * b.2)

/-- Rounded up. -/
def fracCeil (a : Nat × Nat) : Nat := (a.1 + a.2 - 1) / a.2

/-! ### Routes (R269) -/

/-- One segment of a route and whether it is travelled from FROM to TO. -/
structure Step where
  seg     : Nat
  forward : Bool
  deriving DecidableEq, Repr

/-- The directions of a route entered at node `n`, if each segment leaves where the next begins. -/
def directed (x : TracksSt) : Nat → List Nat → Option (List Step)
  | _, [] => some []
  | n, j :: l =>
    let g := x.seg j
    if g.src = n then (directed x g.dst l).map fun r => ⟨j, true⟩ :: r
    else if g.dst = n ∧ g.oneWay = false then (directed x g.src l).map fun r => ⟨j, false⟩ :: r
    else none

/-- The direction of a route of one segment (R269): toward the end node farther from the position. -/
def singleStep (x : TracksSt) (j : Nat) (p : PosRec) : Step :=
  let g := x.seg j
  let f := x.along g p.east p.north
  ⟨j, g.oneWay || decide (2 * f.1 ≤ f.2)⟩

/-- The steps of a route (R269), if its segments chain. -/
def routeSteps (x : TracksSt) (route : List Nat) (p : PosRec) : Option (List Step) :=
  match route with
  | [] => some []
  | [j] => some [singleStep x j p]
  | j :: _ =>
    match directed x (x.seg j).src route with
    | some r => some r
    | none => directed x (x.seg j).dst route

/-- The first segment of a route that does not chain with the one before it. -/
def firstBreak (x : TracksSt) (route : List Nat) : Nat → Nat
  | 0 => route.headD 0
  | n + 1 => match routeSteps x (route.take (n + 1)) (.none_ 0 0) with
    | some _ => route.getD (n + 1) (route.headD 0)
    | none => firstBreak x route n

/-- A route's failure (R269): the first failing segment and the number of the condition, or the steps from the segment
that holds the position. -/
def routeCheck (x : TracksSt) (route : List Nat) (p : PosRec) : Except (Nat × Nat) (List Step) :=
  match route.find? fun j => !(x.seg j).valid || (x.seg j).closed with
  | some j => .error (j, 1)
  | none =>
    match routeSteps x route p with
    | none => .error (firstBreak x route route.length, 2)
    | some r =>
      match r.dropWhile fun e => !x.touches e.seg p.east p.north 0 with
      | [] => .error (route.headD 0, 3)
      | l => .ok l

/-! ### Windows (R273, R274) -/

/-- A window in milliseconds since the epoch. -/
structure Win where
  seg   : Nat
  start : Nat
  stop  : Nat
  deriving DecidableEq, Repr

/-- Millimetres of the position's segment that lie ahead of the machine (R273), rounded up. -/
def remaining (x : TracksSt) (e : Step) (p : PosRec) : Nat :=
  let g := x.seg e.seg
  let f := x.along g p.east p.north
  let ahead := if e.forward then f.2 - f.1 else f.1
  (g.length * 10 * ahead + f.2 - 1) / f.2

/-- The windows of R273 for consecutive steps: `tin` is the instant at which the first of them is entered, `len` its
length ahead in mm. -/
def windows (x : TracksSt) (vr r t1 : Nat) : Nat × Nat → List (Step × Nat) → List Win
  | _, [] => []
  | tin, (e, len) :: l =>
    let v := max 1 (min vr (x.seg e.seg).speed)
    let tout := fracAdd tin (travelMs len v)
    ⟨e.seg, max (fracSubFloor tin (travelMs r v)) t1, fracCeil (fracAdd tout (travelMs r v))⟩ ::
      windows x vr r t1 tout l

/-- The waits for gates (R274): `lead` gives LEAD of an axis; `delay` is what earlier gates of the leg have added. -/
def gateWaits (x : TracksSt) (lead : Nat → Nat) (t1 : Nat) : Nat → List Win → List Win
  | _, [] => []
  | delay, w :: l =>
    let g := x.seg w.seg
    let start := w.start + delay
    let least := if g.gated then t1 + 1 + lead g.gateAxis else 0
    let extra := least - start
    ⟨w.seg, start + extra, w.stop + delay + extra⟩ :: gateWaits x lead t1 (delay + extra) l

/-- The segment before a delayed one keeps its window until the delay ends (R274): each window's end is extended by
the delay that the next window took beyond its own. -/
def extendBefore : List Win → List Win → List Win
  | w :: ws, d :: e :: ds =>
    match ws with
    | n :: _ => ⟨d.seg, d.start, d.stop + ((e.start - n.start) - (d.start - w.start))⟩ :: extendBefore ws (e :: ds)
    | [] => d :: e :: ds
  | _, ds => ds

/-! ### A leg (R270, R271, R275) -/

/-- Does machine `k` hold a CONFIRMED or HELD entry on segment `j` whose WIN_END is after t₁ (R270)? -/
def State.holds (k j t1 : Nat) (s : State) : Bool :=
  s.tracks.res.any fun e => e.2.machine == k && e.2.seg == j && (e.2.state == .confirmed || e.2.state == .held) &&
    msAfter e.2.stop (t1 % 2 ^ 40)

/-- The windows of the next leg of machine `k` (R270, R273, R274, R285), before R275. -/
def State.legWindows (k : Nat) (f : Fix) (speed : Nat) (steps : List Step) (t1 : Nat) (s : State) : List Win :=
  let x := s.tracks
  let lens := steps.map fun e => (e, (x.seg e.seg).length * 10)
  let lens := match lens with
    | (e, _) :: l => (e, remaining x e f.pos) :: l
    | [] => []
  let all := windows x (if speed = 0 then 1 else speed) (s.radius k f.pos.sigH) t1 (FT.wholeMs f.epochAt, 1) lens
  let from_ := all.dropWhile fun w => s.holds k w.seg t1
  let horizon := t1 + s.eff 0x2D0100 * 1000
  let leg := match from_.take (s.eff 0x2D0000) with
    | w :: l => w :: l.takeWhile fun v => decide (v.stop ≤ horizon)
    | [] => []
  let leg := leg.takeWhile fun w => !((x.seg w.seg).gated && s.tracks.gateHold.contains (x.seg w.seg).gateAxis)
  let late := gateWaits x (fun g => s.gateLead g) t1 0 leg
  extendBefore leg late

/-- Enter windows as SPECULATIVE entries, lowest FREE entries first (R263, R276). -/
def TracksSt.enter (k leg : Nat) : List Win → TracksSt → List Nat × TracksSt
  | [], x => ([], x)
  | w :: l, x =>
    match x.freeEntry with
    | none => ([], x)
    | some i =>
      let r := (x.putEntry i ⟨.speculative, 0, k, w.seg, leg, w.start % 2 ^ 40, w.stop % 2 ^ 40⟩).enter k leg l
      (i :: r.1, r.2)

/-- The shortening of R275: how many entries the leg may have, counted and recorded. -/
def State.shorten (k want : Nat) (s : State) : Nat × State :=
  let free := s.tracks.freeCount
  let cap := s.eff 0x2D0500 - (s.tracks.entriesOf fun e => e.machine == k).length
  let n := min want (min free cap)
  if n = want then (n, s)
  else
    let s := if free < want ∧ free ≤ cap then s.count 0x2D4008 else s.count 0x2D4009
    (n, s.recordSince 0 0x5010 1 [.u32 free])

/-- A leg is entered (R241, R270, R276). -/
def State.enterLeg (k : Nat) (ws : List Win) (s : State) : State :=
  if ws.isEmpty then s
  else
    let c := s.shorten k ws.length
    let s := c.2
    if c.1 = 0 then s
    else
      let leg := ((s.machine k).leg + 1) % 65536
      let s := s.modMachine k fun m => { m with leg := leg }
      let e := s.tracks.enter k leg (ws.take c.1)
      let spec := s.sched.specNext
      let s := { s with tracks := { e.2 with legs := e.2.legs ++ [(⟨k, leg, e.1, spec⟩ : Leg)] }, sched.specNext := spec + 1 }
      (s.countN 0x500001 e.1.length).traceSpec 0 k leg (e.1.headD 0) e.1.length

/-- The next leg of machine `k` (R270, R271). -/
def State.planLeg (t1 k : Nat) (s : State) : State :=
  let m := s.machine k
  match m.snap, m.snapRoute with
  | some f, some r =>
    if f.pos.status = 0 then s
    else if s.eff 0x2D0400 < s.margin f.pos.sigH then
      (s.count 0x2D400A).recordIn k 0x5015 [.u8 k, .i64 (s.margin f.pos.sigH), .u16 f.pos.sigH]
    else if s.pipe.stopOn ∨ m.snapLink = .adrift then s
    else match routeCheck s.tracks r.segs f.pos with
      | .error e => (s.count 0x2D400B).recordIn k 0x5013 [.u8 k, .u16 e.1, .u8 e.2]
      | .ok steps => s.enterLeg k (s.legWindows k f r.speed steps t1)
  | _, _ => s

/-- Does one ROUTE input stand before another in the order of R232? -/
def routeBefore (a b : RouteIn) : Bool :=
  FT.lt a.stamp b.stamp || (a.stamp == b.stamp && decide (a.source < b.source))

/-- Insert a machine by its ROUTE input. -/
def insertByRoute (x : Nat × RouteIn) : List (Nat × RouteIn) → List (Nat × RouteIn)
  | [] => [x]
  | y :: l => if routeBefore x.2 y.2 then x :: y :: l else y :: insertByRoute x l

/-- The machines with a route, in the order of R277. -/
def State.routeOrder (s : State) : List Nat :=
  (((List.range 129).filterMap fun k =>
    if k = 0 then none else (s.machine k).snapRoute.map fun r => (k, r)).foldl (fun l x => insertByRoute x l) []).map
      Prod.fst

/-! ### Expiry and release (R268, R287, R288) -/

/-- CONFIRMED entries whose WIN_END is at or before the snapshot (R268). -/
def State.expireEntries (ts : Nat) (s : State) : State :=
  let l := s.tracks.entriesOf fun e => e.state == .confirmed && msAtOrBefore e.stop ts
  let stuck := l.filter fun i =>
    let e := s.tracks.entry i
    decide (1 ≤ e.machine) && s.footprintTouches e.machine e.seg
  let gone := l.filter fun i => !stuck.contains i
  ((s.freeEntries gone).countN 0x2D4001 gone.length).holdEntries stuck 1

/-- Does a HELD entry come under the position rule now (R287)? -/
def State.underRule (e : Resv) (s : State) : Bool :=
  let g := s.tracks.seg e.seg
  match e.cause with
  | 1 => true
  | 2 => !s.pipe.stopOn
  | 3 => (s.machine e.machine).snapLink == .associated
  | 4 => true
  | 6 => !(g.gated && s.tracks.gateHold.contains g.gateAxis)
  | _ => false

/-- Has the snapshot a position of machine `k` that counts for R288? -/
def State.surelyPlaced (k : Nat) (s : State) : Bool :=
  match (s.machine k).snap with
  | some f => (f.pos.status == 2 || f.pos.status == 3) && !f.standIn
  | none => false

/-- HELD entries that meet their release condition (R287, R288). -/
def State.releaseByRule (s : State) : State :=
  let held := s.tracks.entriesOf fun e => e.state == .held && s.underRule e
  let host := held.filter fun i => (s.tracks.entry i).machine == 0
  let mine := held.filter fun i => decide (1 ≤ (s.tracks.entry i).machine) && s.surelyPlaced (s.tracks.entry i).machine
  let stay := mine.filter fun i => s.footprintTouches (s.tracks.entry i).machine (s.tracks.entry i).seg
  let go := mine.filter fun i => !stay.contains i
  let s := each stay (fun i s => { s with tracks := s.tracks.putEntry i { s.tracks.entry i with cause := 1 } }) s
  s.releaseHolds (go ++ host) 0

/-- The holds of machines declared ADRIFT since the last snapshot (R287). -/
def State.holdAdrift (s : State) : State :=
  each ((List.range 129).filter fun k =>
    decide (1 ≤ k) && (s.machine k).link == .adrift && (s.machine k).snapLink != .adrift) (fun k s =>
      let s := s.withdrawLegs 7 fun l => l.machine == k
      s.holdEntries (s.tracks.entriesOf fun e => e.machine == k) 3) s

/-! ### What the snapshot holds (R239, R308, R309) -/

/-- Do two fixes lie more than 100 mm apart horizontally? -/
def movedApart (a b : PosRec) : Bool :=
  decide (10000 < (a.east - b.east) * (a.east - b.east) + (a.north - b.north) * (a.north - b.north))

/-- Is a fix FLOAT or FIXED and no stand-in? -/
def Fix.sure (f : Fix) : Bool := (f.pos.status == 2 || f.pos.status == 3) && !f.standIn

/-- The STATUS pair of R309: battery fall and time between the stamps, where the machine moved in between. -/
def drainPair (old new : StatusIn) (a b : Option Fix) : Option (Nat × Nat) :=
  match a, b with
  | some f, some g =>
    if f.sure && g.sure && movedApart f.pos g.pos && decide (new.battery < old.battery) then
      some (old.battery - new.battery, FT.nsSince old.stamp new.stamp)
    else none
  | _, _ => none

/-- The snapshot at `ts` takes machine `m` (R239): its newest fix whose slot ended 4 ms before, its latest STATUS and ROUTE whose
stamps are at or before `ts`; one stamped later waits for the next snapshot. -/
def Machine.take (ts : FT) (m : Machine) : Machine :=
  let fix := m.fixes.find? fun f => FT.le f.end_ (FT.addUnits ts (-nsUnits 4000000))
  let st := m.status.find? fun x => FT.le x.stamp ts
  let rt := m.route.find? fun x => FT.le x.stamp ts
  let new := match st with
    | some st => st.fresh
    | none => false
  let pair := match m.snapStatus, st with
    | some a, some b => if new then drainPair a b m.pairFix fix else none
    | _, _ => none
  { m with snap := fix, snapStatus := st, snapRoute := rt, snapLink := m.link,
           status := (m.status.filter fun x => !FT.le x.stamp ts) ++ (st.map fun x => { x with fresh := false }).toList,
           route := (m.route.filter fun x => !FT.le x.stamp ts) ++ (rt.map fun x => { x with fresh := false }).toList,
           pairFall := m.pairFall ++ pair.toList, pairFix := if new then fix else m.pairFix }

/-- The VALID segments whose corridor holds a point. -/
def TracksSt.at_ (east north : Int) (x : TracksSt) : List Nat :=
  (x.segs.filter fun e => e.2.valid && x.touches e.1 east north 0).map Prod.fst

/-- Has segment `i` exactly one node of segment `j`, and which? -/
def TracksSt.shared (i j : Nat) (x : TracksSt) : Option Nat :=
  let a := x.seg i
  let b := x.seg j
  let s := a.src == b.src || a.dst == b.src
  let d := a.src == b.dst || a.dst == b.dst
  if s && !d then some b.src else if d && !s then some b.dst else none

/-- The runs of a machine after a position (R308): runs that go on, runs that begin, and the passages that ended. -/
def TracksSt.follow (x : TracksSt) (here : List Nat) (te : Nat) (runs : List PassRun) : List PassRun × List (Nat × Nat) :=
  let going := (runs.filter fun r => here.contains r.seg).map fun r => { r with last := te }
  let old := runs.map (·.seg)
  let begun := (here.filter fun j => !old.contains j).map fun j =>
    (⟨j, (old.filter (· != j)).findSome? fun i => x.shared i j, te, te⟩ : PassRun)
  let ended := (runs.filter fun r => !here.contains r.seg).filterMap fun r =>
    match r.entry with
    | none => none
    | some n =>
      let g := x.seg r.seg
      let out := if g.src = n then g.dst else g.src
      if here.any fun i => i != r.seg && ((x.seg i).src == out || (x.seg i).dst == out) then
        some (r.seg, r.last - r.first + 100)
      else none
  (going ++ begun, ended)

/-- Passages of one machine at a snapshot (R308). -/
def State.observe (k : Nat) (s : State) : State :=
  match (s.machine k).snap with
  | none => s
  | some f =>
    if f.sure then
      let r := s.tracks.follow (s.tracks.at_ f.pos.east f.pos.north) (FT.wholeMs f.epochAt) (s.machine k).runs
      let s := s.modMachine k fun m => { m with runs := r.1 }
      { s with tasks.passages := s.tasks.passages ++ r.2 }
    else s

/-- Machine numbers. -/
def machineNumbers : List Nat := (List.range 129).filter fun k => decide (1 ≤ k)

/-- A solution that the snapshot needs and that is not there is replaced by its stand-in (R240); a unit that follows
its peer takes no fallback of its own (R253). -/
def State.settleSolutions (cut : FT) (s : State) : State :=
  if s.follows then s
  else each machineNumbers (fun k s =>
    match (s.machine k).wait with
    | some w => when (!w.standIn && FT.le w.end_ cut) (State.solveFallback k) s
    | none => s) s

/-- The snapshot is taken (R239, R307): the machines' entries, the stop state, the machines ASSOCIATED. -/
def State.takeMachines (ts : FT) (s : State) : State :=
  let cut := FT.addUnits ts (-nsUnits 4000000)
  let s : State := (s.settleSolutions cut).holdAdrift
  let s : State := { s with machines := s.machines.map (Machine.take ts) }
  let s : State := each machineNumbers State.observe s
  let assoc := machineNumbers.filter fun k => (s.machine k).link == LinkState.associated
  { s with pipe := { s.pipe with snapAt := ts, planning := true, assoc := assoc,
                                 stopSnaps := s.pipe.stopSnaps + b2n s.pipe.stopOn, stopSnap := s.pipe.stopOn } }

/-- Step 3 of R267: the TABLE_EDIT inputs of the snapshot. -/
def State.takeTrackEdits (ts : FT) (t1 : Nat) (s : State) : State :=
  let edits := s.tracks.edits.filter fun e => FT.le e.stamp ts
  let s : State := { s with tracks.edits := s.tracks.edits.filter fun e => !FT.le e.stamp ts }
  s.applyEdits (t1 % 2 ^ 40) edits

/-- The inputs of ALLOT that the snapshot takes (R239, R304). -/
def TasksSt.take (ts : FT) (x : TasksSt) : TasksSt :=
  { x with inEdits := x.inEdits ++ x.edits.filter (fun e => FT.le e.stamp ts),
           edits := x.edits.filter (fun e => !FT.le e.stamp ts),
           inReports := x.inReports ++ x.reports.filter (fun e => FT.le e.stamp ts),
           reports := x.reports.filter (fun e => !FT.le e.stamp ts), due := true }

/-- SNAPSHOT (R239 to R241, R267 steps 1 to 4), with the runs of cycles that R634 asks for; none from S − 4 ms of a
discontinuity on (R250). -/
def State.snapshot (s : State) : State :=
  if s.perCycle && s.pipe.void.isNone then
    let ts := FT.snapInstant s.now
    let t1 := FT.nextCycleMs ts
    let s : State := ((((s.adopt 0x2D00 0x2D27).takeMachines ts).count 0x2C1001).expireEntries (FT.ms ts)).releaseByRule
    let s : State := (s.takeTrackEdits ts t1).recordFreed
    let s : State := { s with upd := { s.upd with cleanRun := s.upd.cleanRun + 1,
                                                  ownRun := if s.holdsOwn then s.upd.ownRun + 1 else 0 } }
    each s.routeOrder (State.planLeg t1) { s with tracks.open_ := true, tasks := s.tasks.take ts, ingest.after := none }
  else s

/-! ### The conflict check (R242, R277 to R279) -/

/-- The first entry of a leg that conflicts, with the entry it meets. -/
def State.legConflict (l : Leg) (s : State) : Option (Nat × Nat) :=
  l.entries.findSome? fun i => (s.conflictWith i (s.tracks.entry i)).map fun o => (i, o)

/-- One leg is confirmed whole or withdrawn whole (R242, R277). -/
def State.checkLeg (l : Leg) (s : State) : State :=
  match s.legConflict l with
  | some c => s.withdrawLeg 0 c.2 l
  | none =>
    let x := l.entries.foldl (fun x i => x.putEntry i { x.entry i with state := .confirmed }) s.tracks
    ({ s with tracks := { x with checked := l :: x.checked } }).countN 0x500002 l.entries.length

/-! ### Gates (R280 to R284, R491) -/

/-- An occupancy (R282) in ms from t₀: start, end (none: HELD), position. -/
structure Occ where
  start : Int
  stop  : Option Int
  pos   : Nat
  deriving DecidableEq, Repr

/-- Insert by start. -/
def insertOcc (x : Occ) : List Occ → List Occ
  | [] => [x]
  | y :: l => if x.start < y.start then x :: y :: l else y :: insertOcc x l

/-- Occupancies of the same position that touch count as one (R283). -/
def mergeOccs : List Occ → List Occ
  | [] => []
  | x :: l =>
    match mergeOccs l with
    | [] => [x]
    | y :: r =>
      match x.stop with
      | none => [x]
      | some e =>
        if x.pos = y.pos ∧ y.start ≤ e then ⟨x.start, y.stop.map (max e), x.pos⟩ :: r else x :: y :: r

/-- The occupancies of gate `g`, in order. -/
def State.occupancies (g : Nat) (t0 : Nat) (s : State) : List Occ :=
  let l := s.tracks.res.filter fun e =>
    (e.2.state == .confirmed || e.2.state == .held) && s.tracks.isGatedOn g e.2.seg
  mergeOccs ((l.map fun e => (⟨msDiff e.2.start t0 - s.gateLead g,
    if e.2.state = .held then none else some (msDiff e.2.stop t0), (s.tracks.seg e.2.seg).gatePos⟩ : Occ)).foldl
      (fun l x => insertOcc x l) [])

/-- The planned moves of a gate (R283): instants in ms from t₀, and positions; `at_` is where it is planned before. -/
def plannedMoves (rest lead : Nat) : Nat → List Occ → List (Int × Nat)
  | _, [] => []
  | at_, x :: l =>
    let here := if x.pos = at_ then [] else [(x.start, x.pos)]
    match x.stop, l with
    | none, _ => here
    | some e, [] => here ++ (if x.pos = rest then [] else [(e, rest)])
    | some e, y :: _ =>
      if y.start ≤ e + 2 * lead then here ++ plannedMoves rest lead x.pos l
      else here ++ (if x.pos = rest then [] else [(e, rest)]) ++ plannedMoves rest lead rest l

/-- The planned position at an instant. -/
def plannedAt (rest : Nat) (moves : List (Int × Nat)) (t : Int) : Nat :=
  moves.foldl (fun p m => if m.1 ≤ t then m.2 else p) rest

/-- Step 6 of R267 for gate `g`: the moves of [t₀ + 101 ms, t₀ + 201 ms), and the return of a gate that stands out of
place (R284, R491). -/
def State.planGate (t0 : Nat) (g : Nat) (s : State) : State :=
  let rest := s.eff ((0x2D20 + g) * 256 + 5)
  let moves := plannedMoves rest (s.gateLead g) rest (s.occupancies g (t0 % 2 ^ 40))
  let pos := plannedAt rest moves 101
  let due := moves.filter fun m => decide (101 ≤ m.1) && decide (m.1 < 201)
  let a := s.axis g
  let out := a.state == .idle && a.pos != s.effI ((0x2D20 + g) * 256 + pos + 1) &&
    due.all fun m => decide (101 + (s.gateLead g : Int) ≤ m.1)
  let due := if out && s.axisCfg g 1 == 1 then (101, pos) :: due else due
  let ms := due.map fun m => (g, (⟨m.2, FT.addNs (FT.ofNs (t0 * 1000000)) (m.1.toNat * 1000000)⟩ : GateMove))
  ({ s with tracks := { s.tracks with moves := s.tracks.moves ++ ms, planned := setAt s.tracks.planned g pos } }).countN
    0x2D400E ms.length

/-- Step 6 of R267. -/
def State.planGates (s : State) : State :=
  each (List.range 8) (State.planGate (FT.wholeMs (FT.cycleStart s.pipe.snapAt))) { s with tracks.moves := [] }

/-- The conflict check ends (R242). -/
def State.checkComplete (s : State) : State :=
  if s.tracks.open_ then
    let legs := s.tracks.legs
    let s := { s with tracks := { s.tracks with legs := [], open_ := false, checked := [] } }
    ((each legs State.checkLeg s).planGates).stageDone 4 (FT.cycle s.pipe.snapAt) (FT.addNs s.pipe.snapAt 8000000)
  else s

/-- The check is abandoned (R35, R242): every leg is withdrawn, the gates are planned. -/
def State.checkAbandoned (s : State) : State :=
  (({ (s.withdrawLegs 1 fun _ => true) with tracks.open_ := false }).count 0x2C1007).planGates

/-- Does a command end the conflict check? -/
def endsCheck (i : Instr) : Bool :=
  match i with
  | .reserveCheckComplete => true
  | _ => false

/-- RESERVE_DEADLINE, t₀ + 88 ms, on a unit that takes its own fallbacks (R227, R242, R252). -/
def State.reserveFallback (s : State) : State :=
  if s.tracks.open_ && !s.follows && s.ripe s.pipe.snapAt 8000000 && !s.arriving endsCheck then
    let cyc := FT.cycle s.pipe.snapAt
    ((s.checkAbandoned).stageMissed 4 0 cyc).marker 4 0 cyc
  else s

/-- SNAPSHOT (R267). -/
def execSnapshot (s : State) : Host.Outcome State Fault Refusal := .next s.snapshot

/-- RESERVE_DEADLINE (R242). -/
def execReserveDeadline (s : State) : Host.Outcome State Fault Refusal := .next s.reserveFallback

/-- NODE_ENTRY_WRITE (R291): a write to 0x4001. -/
def execNodeEntryWrite (w : Writer) (v : List Byte) (s : State) : Host.Outcome State Fault Refusal :=
  .next (s.editRow w 0x400100 v)

/-- SEG_ENTRY_WRITE (R293): a write to 0x4101. -/
def execSegEntryWrite (w : Writer) (v : List Byte) (s : State) : Host.Outcome State Fault Refusal :=
  .next (s.editRow w 0x410100 v)

/-- HOST_RESERVATION_CREATE (R294): OP 1 of 0x2D30; `rest` are the octets after OP. -/
def execHostReservationCreate (w : Writer) (rest : List Byte) (s : State) : Host.Outcome State Fault Refusal :=
  .next (s.editRow w 0x2D3000 (1#8 :: rest))

/-- HOST_RESERVATION_CANCEL (R293): OP 2. -/
def execHostReservationCancel (w : Writer) (rest : List Byte) (s : State) : Host.Outcome State Fault Refusal :=
  .next (s.editRow w 0x2D3000 (2#8 :: rest))

/-- RELEASE_MACHINE_HOLDS (R292): OP 3. -/
def execReleaseMachineHolds (w : Writer) (rest : List Byte) (s : State) : Host.Outcome State Fault Refusal :=
  .next (s.editRow w 0x2D3000 (3#8 :: rest))

/-- RELEASE_ENTRY_HOLD (R292): OP 4. -/
def execReleaseEntryHold (w : Writer) (rest : List Byte) (s : State) : Host.Outcome State Fault Refusal :=
  .next (s.editRow w 0x2D3000 (4#8 :: rest))

end Sys2Proof.Machine
end

