-- ==== Sys2Proof/Machine/AirCore.lean ====
section
/-!
DEFINITION. Field Air (chapter 11): PHY modes and airtime, channel plan and hopping, frames from the machines and their
checks, association, acknowledgement, exchanges, adaptive channel exclusion, and the pending radio settings.
-/

namespace Sys2Proof.Machine

/-! ### PHY modes and channel plan (R351 to R354) -/

/-- A row of R351: spacing in kHz, H_PHY in ns (OFDM), bits per symbol (0 for FSK), rate in kb/s, largest PSDU. -/
structure Phy where
  code    : Nat
  spacing : Nat
  head    : Nat
  bits    : Nat
  rate    : Nat
  psdu    : Nat

/-- The table of R351. -/
def phyTable : List Phy := [
  ⟨0x01, 1200, 1080000, 48, 400, 119⟩, ⟨0x02, 1200, 1080000, 96, 800, 239⟩, ⟨0x03, 1200, 1080000, 144, 1200, 359⟩,
  ⟨0x04, 1200, 1080000, 192, 1600, 479⟩, ⟨0x05, 1200, 1080000, 288, 2400, 719⟩, ⟨0x11, 800, 1440000, 48, 400, 101⟩,
  ⟨0x12, 800, 1440000, 72, 600, 152⟩, ⟨0x13, 800, 1440000, 96, 800, 203⟩, ⟨0x14, 800, 1440000, 144, 1200, 305⟩,
  ⟨0x21, 400, 0, 0, 300, 119⟩, ⟨0x22, 400, 0, 0, 400, 163⟩]

/-- The row of a code; codes outside R351 are refused at the write. -/
def phyOf (code : Nat) : Phy := (phyTable.find? fun p => p.code == code).getD ⟨0x04, 1200, 1080000, 192, 1600, 479⟩

/-- Airtime of `n` octets in ns (R352). -/
def Phy.airtime (n : Nat) (p : Phy) : Nat :=
  if p.bits = 0 then (96 + 8 * n) * 1000000 / p.rate else p.head + 120000 * ((8 * n + 6 + p.bits - 1) / p.bits)

/-- Band edges of a region in kHz (R353). -/
def bandEdges (region : Nat) : Nat × Nat :=
  match region with
  | 1 => (902000, 928000) | 2 => (915000, 928000) | 3 => (863000, 870000) | 4 => (920000, 928000) | _ => (0, 0)

/-- Channel count N (R353). -/
def channelCount (region mode : Nat) : Nat := ((bandEdges region).2 - (bandEdges region).1) / (phyOf mode).spacing

/-- Size H of the hop set (R354). -/
def hopSize (n : Nat) : Nat := if 18 ≤ n then 16 else if 10 ≤ n then 8 else 0

/-- The spares (R354). -/
def sparesOf (n : Nat) : List Nat := (List.range (min (n - 1) (hopSize n + 8))).filter fun c => decide (hopSize n ≤ c)

/-- The PHY in force. -/
def State.phy (s : State) : Phy := phyOf (s.eff 0x300300)

/-- N in force. -/
def State.channels (s : State) : Nat := channelCount (s.eff 0x300200) (s.eff 0x300300)

/-- The four values of 0x300B, in force. -/
def State.channelPlan (s : State) : List Nat :=
  [s.channels, hopSize s.channels, s.channels - 1, (sparesOf s.channels).length]

/-- Kind of slot `i` of port `n` in force (R355). -/
def State.slotKind (n i : Nat) (s : State) : Nat := s.eff ((0x3010 + n) * 256 + i + 1)

/-- The channel that stands for a hop channel (R359, R380). -/
def remapped (l : List RemapPair) (c : Nat) : Nat :=
  match l.find? fun p => p.chan == c with
  | some p => p.spare
  | none => c

/-- HOP with the remap (R359). -/
def State.hopChannel (n asn : Nat) (s : State) : Nat :=
  remapped s.air.remap ((7 * ((asn + s.eff (0x300401 + n)) % 64) + s.eff 0x300100) % hopSize s.channels)

/-- Is slot 1 of this cycle the port's rendezvous (R364)? -/
def rendezvous (n cycle : Nat) : Bool := cycle % 8 == n

/-- The channel of port `n` in the slot that begins at `t` (R359). -/
def State.channelAt (n : Nat) (t : FT) (s : State) : Nat :=
  if FT.slot t = 1 ∧ rendezvous n (FT.cycle t) = true then s.channels - 1 else s.hopChannel n (FT.asn t)

/-- Field Air port `n`. -/
def State.airPort (n : Nat) (s : State) : AirPort := s.air.ports.getD n ⟨0, [], false, none, [], [], none, none⟩

/-- Change port `n`. -/
def State.modPort (n : Nat) (f : AirPort → AirPort) (s : State) : State :=
  { s with air.ports := modAt s.air.ports n f }

/-- The machine that holds a slot: not ABSENT, on that port and slot. -/
def State.slotHolder (n i : Nat) (s : State) : Option Nat :=
  machineNumbers.find? fun k =>
    let m := s.machine k
    m.link != .absent && m.port == n && m.slot == i

/-! ### Guard and contact (R375) -/

/-- Guard in units of 2^-32 ns after Δ units since the reference; 100 µs where there is none. -/
def guardAfter (delta : Nat) : Nat := min (429496729600000 + 40 * delta / 1000000) 4294967296000000

/-- The instant that Δ counts from: the later of the latest contact and the latest release, if there is either. -/
def State.guardFrom (k : Nat) (s : State) : Option FT :=
  let c := (s.machine k).contact
  match s.pipe.released with
  | none => if c = ⟨0, 0, 0⟩ then none else some c
  | some r => some (if FT.le c r then r else c)

/-- Δ at an instant. -/
def State.guardDelta (k : Nat) (at_ : FT) (s : State) : Nat :=
  match s.guardFrom k with
  | none => 0
  | some r => FT.units at_ - FT.units r

/-- g of machine `k` at an instant. -/
def State.guard (k : Nat) (at_ : FT) (s : State) : Nat := guardAfter (s.guardDelta k at_)

/-- Is a first symbol inside the window for offset `eps` and guard `g` (R375)? -/
def inWindow (start first : FT) (eps : Int) (g : Nat) : Bool :=
  let x := (FT.units first : Int) - FT.units start
  decide (max (nsUnits 100000) (nsUnits 400000 + eps - g) ≤ x) && decide (x ≤ nsUnits 400000 + eps + g)

/-! ### Frames from the machines (R361, R371, R372) -/

/-- The blocks of an UP payload, or none where they do not fill it exactly (R371). -/
def splitBlocks : Nat → List Byte → Option (List (Nat × List Byte))
  | 0, _ => none
  | fuel + 1, b =>
    if b.isEmpty then some []
    else if b.length < 3 + field b 1 2 then none
    else (splitBlocks fuel (b.drop (3 + field b 1 2))).map fun l => (field b 0 1, (b.drop 3).take (field b 1 2)) :: l

/-- How many blocks of a type. -/
def blockCount (t : Nat) (l : List (Nat × List Byte)) : Nat := (l.filter fun x => x.1 == t).length

/-- The structure check of R371 on the blocks. -/
def blocksOk (l : List (Nat × List Byte)) : Bool :=
  l.all (fun x => decide (1 ≤ x.1) && decide (x.1 ≤ 4)) && decide (blockCount 1 l ≤ 1) && decide (blockCount 2 l ≤ 1) &&
    decide (blockCount 3 l ≤ 1) && decide (blockCount 4 l ≤ 4)

/-- A block's own range check (R371); a Field Obs is checked by SORT. -/
def bodyOk (t : Nat) (b : List Byte) : Bool :=
  match t with
  | 2 => b.length == 4 && decide (field b 0 2 ≤ 1000) && decide (field b 3 1 ≤ 200)
  | 3 => b.length == 2 + 2 * field b 1 1 && decide (1 ≤ field b 1 1) && decide (field b 1 1 ≤ 32)
  | 4 => b.length == 8 && decide (1 ≤ field b 4 1) && decide (field b 4 1 ≤ 5) && decide (field b 5 1 ≤ 100)
  | _ => true

/-- The payload of a PSDU with its FCS (R361). -/
def psduPayload (p : List Byte) : List Byte := (p.drop 9).take (p.length - 13)

/-- The frame type of a PSDU. -/
def psduType (p : List Byte) : Nat := field p 0 1 % 16

/-- The blocks of an UP frame. -/
def upBlocks (p : List Byte) : Option (List (Nat × List Byte)) :=
  splitBlocks ((psduPayload p).length + 1) (psduPayload p)

/-- A frame as the port hands it over: port, PSDU with FCS, first symbol and end. -/
structure RxFrame where
  port  : Nat
  psdu  : List Byte
  first : FT
  end_  : FT
  rssi  : Int

/-- Does port `n` listen for JOIN_REQ in slot 1 of this cycle (R364)? -/
def State.listens (n cycle : Nat) (s : State) : Bool :=
  !rendezvous n cycle && (s.airPort n).answer != some cycle

/-- Row 5 of R363: the frame's type, slot, ASN_LOW and addresses. The row asks the source of an UP frame only. -/
def State.placed (f : RxFrame) (s : State) : Bool :=
  let i := FT.slot f.first
  let src := field f.psdu 4 2
  (field f.psdu 8 1 == FT.asn f.first % 256) && (field f.psdu 2 2 == 0) &&
    (if psduType f.psdu = 5 then s.slotKind f.port i == 3 && s.slotHolder f.port i == some src
     else psduType f.psdu == 6 && s.slotKind f.port i == 2 && s.listens f.port (FT.cycle f.first))

/-- Row 4 of R363. A sender that no contact or release gives a guard has ε 0 and g 100 µs. -/
def State.timely (f : RxFrame) (s : State) : Bool :=
  let start := FT.slotStart f.first
  let known := psduType f.psdu = 5 ∧ field f.psdu 4 2 ≤ 128
  let k := if known then field f.psdu 4 2 else 0
  inWindow start f.first (if known then (s.machine k).epsilon else 0)
      (if known then s.guard k start else guardAfter 0) &&
    FT.le f.end_ (FT.addNs start 3900000)

/-- Row 6 of R363: a frame that repeats the SEQ last accepted from its machine (R373). -/
def State.repeats (f : RxFrame) (s : State) : Bool :=
  let m := s.machine (field f.psdu 4 2)
  psduType f.psdu == 5 && (m.link == .joining || m.link == .associated) && m.seq == field f.psdu 1 1

/-- Row 7 of R363. -/
def structured (p : List Byte) : Bool :=
  if psduType p = 5 then
    match upBlocks p with
    | none => false
    | some l => blocksOk l
  else (psduPayload p).length == 8

/-- The first failing row of R363 as the subindex of its counter in 0x3030; 0 where every row passes. -/
def State.rxCheck (f : RxFrame) (s : State) : Nat :=
  let n := f.psdu.length
  firstCase [
    (decide (n ≤ 12), 0x03), (decide (1024 ≤ n), 0x04), (!fcsGood f.psdu, 0x05),
    (field f.psdu 0 1 / 16 != 1 || field f.psdu 6 2 != s.eff 0x300100, 0x06),
    (!s.timely f, 0x08), (!s.placed f, 0x07), (s.repeats f, 0x09), (!structured f.psdu, 0x0A)]

/-- The counters of R363 in the order of its rows. -/
def rxRows : List Nat := [0x03, 0x04, 0x05, 0x06, 0x08, 0x07, 0x09, 0x0A]

/-- A frame is discarded by a row (R363). -/
def State.rxDrop (n row : Nat) (s : State) : State :=
  (s.count (0x303000 + row)).recordRows n 0x6007 [.u8 n] (rxRows.map fun r => if r = row then 1 else 0)

/-! ### Association (R373, R377, R378) -/

/-- Is the slot of machine `k` pinned? -/
def State.pinned (k : Nat) (s : State) : Bool := (s.cfg (0x302100 + k)).testBit 15

/-- Port and slot of a pin. -/
def State.pinOf (k : Nat) (s : State) : Nat × Nat := (s.cfg (0x302100 + k) % 8, s.cfg (0x302100 + k) / 256 % 32)

/-- Machine `k` becomes ABSENT and frees its slot unless it is pinned (R377). -/
def State.dropLink (k : Nat) (s : State) : State :=
  let keep := s.pinned k
  s.modMachine k fun m =>
    { m with link := .absent, change := none, joinSent := none, port := if keep then m.port else 0,
             slot := if keep then m.slot else 0, period := if keep then m.period else 0 }

/-- The slot that brought a frame is acknowledged, `logged` if the frame went to INGEST (R374, R380). -/
def State.acknowledge (n asn : Nat) (logged : Bool) (s : State) : State :=
  s.modPort n fun p => { p with got := List.take 50 ((asn, logged) :: p.got) }

/-- The contact of an accepted or duplicate frame (R375, R377). -/
def State.contacted (k : Nat) (first : FT) (s : State) : State :=
  s.modMachine k fun m =>
    { m with contact := first, missed := 0,
             epsilon := (FT.units first : Int) - FT.units (FT.addNs (FT.slotStart first) 400000) }

/-- A frame of a JOINING machine in its slot associates it (R377). -/
def State.associate (k : Nat) (s : State) : State :=
  let m := s.machine k
  if m.link = .joining then
    ((s.modMachine k fun m => { m with link := .associated, seq := 0x100, joinSent := none }).count 0x30300D).record 0x6001
      [.u8 k, .u64 (s.cfg (0x302000 + k)), .u8 m.port, .u8 m.slot]
  else s

/-- An UP frame of machine `k` that passes R363 is accepted (R373, R377); one of an ADRIFT machine is not. -/
def State.acceptUp (n k seq : Nat) (first : FT) (s : State) : State :=
  match (s.machine k).link with
  | .adrift => s
  | .absent => s
  | _ => (((s.associate k).modMachine k fun m => { m with seq := seq }).contacted k first).acknowledge n (FT.asn first) true

/-- The UP slots of port `n` that are free for machine `k`: held by none and pinned for no other (R378). -/
def State.freeSlot (k n i : Nat) (s : State) : Bool :=
  s.slotKind n i == 3 && (s.slotHolder n i).all (· == k) &&
    !(machineNumbers.any fun j => j != k && s.pinned j && s.pinOf j == (n, i))

/-- The slot that R378 gives machine `k` on port `n`, if one is available. -/
def State.assignSlot (k n : Nat) (s : State) : Option Nat :=
  if s.pinned k then
    if s.slotKind n (s.pinOf k).2 == 3 && (s.slotHolder n (s.pinOf k).2).all (· == k) then some (s.pinOf k).2 else none
  else (List.range 25).find? fun i => s.freeSlot k n i

/-- A response joins port `n`'s queue. -/
def State.respond (n : Nat) (r : JoinResp) (s : State) : State := s.modPort n fun p => { p with queue := p.queue ++ [r] }

/-- A request is refused (R377). -/
def State.joinRefused (n eui status : Nat) (at_ : FT) (s : State) : State :=
  (((s.respond n ⟨eui, status, n, 0, 0, 0, at_⟩).count 0x30300E)).record 0x6003 [.u64 eui, .u8 n, .u8 status]

/-- A request is granted: JOINING with a slot (R377, R378). -/
def State.joinGranted (n k eui port slot : Nat) (at_ : FT) (s : State) : State :=
  (s.modMachine k fun m =>
    { m with link := .joining, port := port, slot := slot, period := 1, change := none, joinSent := none, seq := 0x100,
             missed := 0 }).respond n ⟨eui, 0, port, k, slot, 1, at_⟩

/-- The association logic takes a JOIN_REQ of an EUI-64 logged on port `n` (R377). -/
def State.joinLogic (n eui : Nat) (at_ : FT) (s : State) : State :=
  if 8 ≤ (s.airPort n).queue.length then s.count 0x30300F
  else
    match machineNumbers.find? fun k => eui != 0 && s.cfg (0x302000 + k) == eui with
    | none => s.joinRefused n eui 1 at_
    | some k =>
      let m := s.machine k
      if m.link = .joining then s
      else if s.pinned k ∧ (s.pinOf k).1 ≠ n then s.respond n ⟨eui, 3, (s.pinOf k).1, 0, 0, 0, at_⟩
      else if m.link = .absent then
        match s.assignSlot k n with
        | some i => s.joinGranted n k eui n i at_
        | none => s.joinRefused n eui 2 at_
      else s.joinGranted n k eui m.port m.slot at_

/-- What the association logic makes of a logged frame (R377): a JOIN_REQ or an UP frame. -/
def State.airLogged (n : Nat) (p : List Byte) (first at_ : FT) (s : State) : State :=
  if psduType p = 6 then s.joinLogic n (leNat (psduPayload p)) at_
  else s.acceptUp n (field p 4 2) (field p 1 1) first

/-- The first symbol of a logged frame, of which only the end is logged (R352). -/
def State.firstSymbol (p : List Byte) (end_ : FT) (s : State) : FT :=
  FT.addUnits end_ (-nsUnits (s.phy.airtime p.length))

/-- Blocks that fail their own check are counted (R371). -/
def State.countBadBlocks (p : List Byte) (s : State) : State :=
  if psduType p = 5 then
    s.countN 0x30300A (((upBlocks p).getD []).filter fun x => !bodyOk x.1 x.2).length
  else s

/-- A duplicate is acknowledged and not delivered (R373). -/
def State.rxDuplicate (f : RxFrame) (s : State) : State :=
  (s.contacted (field f.psdu 4 2) f.first).acknowledge f.port (FT.asn f.first) false

/-- One SPI transaction (R347): opcode, length, data. -/
def State.spi (n op : Nat) (data : List Byte) (s : State) : State :=
  s.emit (.spi n ([byte op] ++ leBytes 2 data.length ++ data))

/-- A frame ends on a port and is read out (R347, R363, R371, R373, R377). A port that is disabled, or that a stop holds (R381), receives
nothing; a unit that follows its peer's log counts what it hears and logs nothing (R544). -/
def State.airReceive (f : RxFrame) (s : State) : State :=
  if !s.airEnabled.testBit f.port || s.stop.latch then s
  else
    let s := s.spi f.port 7 []
    let row := s.rxCheck f
    if row ≠ 0 then when (row == 9 && !s.follows) (State.rxDuplicate f) (s.rxDrop f.port row)
    else
      let s := (s.count 0x303002).countBadBlocks f.psdu
      if s.ingestOpen && !s.follows then
        let s := s.airLogged f.port f.psdu f.first f.end_
        let s := when (psduType f.psdu == 5) (State.modMachine (field f.psdu 4 2) fun m => { m with rssi := f.rssi }) s
        s.takeIn f.port f.end_ f.psdu
      else s

/-! ### Exchanges (R377, R379, R380) -/

/-- Is cycle `c` an exchange of machine `k` (R377)? -/
def State.exchangeIn (k c : Nat) (s : State) : Bool :=
  let p := (s.machine k).period
  p != 0 && c % p == k % p

/-- The cycle of the next exchange after the one in cycle `c` (R378). -/
def State.nextExchange (k c : Nat) (s : State) : Nat :=
  let m := s.machine k
  match m.change with
  | some (_, e) => if e ≤ c + m.period then e else c + m.period
  | none => c + m.period

/-- The channel in use saw an expected uplink (R380). -/
def State.expected (chan : Nat) (failed : Bool) (s : State) : State :=
  { s with air.windows :=
      SMap.put (fun _ => []) chan (List.take 4096 (failed :: SMap.getD [] chan s.air.windows)) s.air.windows }

/-- Machine `k` is declared ADRIFT (R379). -/
def State.declareAdrift (k cause : Nat) (s : State) : State :=
  ((s.modMachine k fun m => { m with link := .adrift }).count 0x30300C).record 0x6002
    [.u8 k, .u8 cause, .ft (s.machine k).contact]

/-- An exchange of machine `k` is missed in the slot that begins at `start` (R377, R379). -/
def State.missExchange (k : Nat) (start : FT) (s : State) : State :=
  let s := (s.modMachine k fun m => { m with missed := m.missed + 1 }).count 0x30300B
  let c := FT.cycle start
  let next := FT.addNs start ((s.nextExchange k c - c) * 100000000)
  if 4 ≤ (s.machine k).missed then s.declareAdrift k 0
  else if 22500 * 1000000 * 4294967296 < s.guardDelta k next then s.declareAdrift k 1
  else s

/-- Does a command bring a frame to port `n` (R80)? -/
def frameAt (n : Nat) (i : Instr) : Bool :=
  match i with
  | .upFrameReceived p _ _ _ => p.val == n
  | .joinReq p _ _ _ => p.val == n
  | _ => false

/-- The receive deadline of the slot that holds now, on port `n` (R357, R377, R379, R380): reached, with no frame arriving on its
tick (R79, R80), and judged once. -/
def State.slotDeadline (n : Nat) (s : State) : State :=
  let start := FT.slotStart s.now
  let i := FT.slot start
  if FT.lt s.now (FT.addNs start 3900000) || s.arriving (frameAt n) || (s.airPort n).judged == some (FT.asn start) then s
  else
  let s := s.modPort n fun p => { p with judged := some (FT.asn start) }
  match s.slotHolder n i with
  | none => s
  | some k =>
    if (s.machine k).link = .associated ∧ s.slotKind n i = 3 ∧ s.exchangeIn k (FT.cycle start) = true ∧
        s.pipe.stopOn = false then
      let s := s.modMachine k fun m => { m with exchange := some (FT.addNs start 4000000) }
      let got := (s.airPort n).got.find? fun g => g.1 == FT.asn start
      let s := s.expected (s.channelAt n start) (got.all fun g => !g.2)
      if got.isSome then s else s.missExchange k start
    else s

/-- A STATUS block asks for a period (R378), in the cycle of its slot. -/
def State.sleepRequest (k p cycle : Nat) (s : State) : State :=
  let m := s.machine k
  let new := min (max p 1) (s.eff 0x300800)
  let now := match m.change with
    | some c => c.1
    | none => m.period
  if m.link = .associated ∧ new ≠ now then
    let c := cycle + 4
    s.modMachine k fun m => { m with change := some (new, c + (k % new + new - c % new) % new) }
  else s

/-- A new PERIOD takes effect at the start of its EFFECTIVE cycle (R378). -/
def State.periodTurns (k : Nat) (s : State) : State :=
  match (s.machine k).change with
  | some (p, e) =>
    if e ≤ FT.cycle s.now then s.modMachine k fun m => { m with period := p, change := none } else s
  | none => s

/-- A machine still JOINING when its limit ends is ABSENT again (R377). -/
def State.joinEnds (k : Nat) (s : State) : State :=
  let m := s.machine k
  match m.joinSent with
  | some c =>
    if m.link = .joining ∧ c + s.eff 0x300900 ≤ FT.cycle s.now then (s.dropLink k).record 0x6008 [.u8 k, .u8 m.port] else s
  | none => s

/-! ### Adaptive channel exclusion (R380) -/

/-- The lowest free spare: neither paired nor resting. -/
def State.freeSpare (s : State) : Option Nat :=
  (sparesOf s.channels).find? fun c =>
    !(s.air.remap.any fun p => p.spare == c) && !(s.air.resting.any fun r => r.1 == c && FT.lt s.now r.2)

/-- A change of the remap is announced for 20 cycles (R365, R380). -/
def State.announce (l : List RemapPair) (s : State) : State :=
  ({ s with air.pending := some (FT.cycle s.now + 20, l) }).count 0x303010

/-- No spare is free (R380). -/
def State.noSpare (chan share : Nat) (s : State) : State := (s.count 0x303011).record 0x6006 [.u8 chan, .u8 share]

/-- Channel `h` of the hop set is paired with a spare. -/
def State.excludeHop (h share : Nat) (s : State) : State :=
  match s.freeSpare with
  | none => s.noSpare h share
  | some sp => (s.announce (s.air.remap ++ [⟨h, sp, s.now⟩])).record 0x6004 [.u8 h, .u8 sp, .u8 share]

/-- A spare that stands in is set to rest and replaced by the next free spare. -/
def State.excludeSpare (p : RemapPair) (share : Nat) (s : State) : State :=
  match s.freeSpare with
  | none => s.noSpare p.spare share
  | some sp =>
    let s := { s with air.resting := s.air.resting ++ [(p.spare, FT.addNs s.now (s.eff 0x300A03 * 1000000000))] }
    (s.announce (s.air.remap.map fun q => if q = p then ⟨p.chan, sp, s.now⟩ else q)).record 0x6004
      [.u8 p.spare, .u8 sp, .u8 share]

/-- Evaluate one channel at a slot 0; while a change is pending the next waits (R380). -/
def State.evalChannel (c : Nat) (s : State) : State :=
  let w := s.eff 0x300A01
  let l := SMap.getD [] c s.air.windows
  let fails := ((l.take w).filter id).length
  if s.air.pending.isSome || decide (l.length < w) || decide (fails * 100 < s.eff 0x300A02 * w) then s
  else
    let share := fails * 100 / w
    match s.air.remap.find? fun p => p.spare == c with
    | some p => s.excludeSpare p share
    | none => if c < hopSize s.channels ∧ !(s.air.remap.any fun p => p.chan == c) then s.excludeHop c share else s

/-- Evaluate every channel, and forget the rests that have ended. -/
def State.evalChannels (s : State) : State :=
  let s := { s with air.resting := s.air.resting.filter fun r => FT.lt s.now r.2 }
  each s.air.windows.keys State.evalChannel s

/-- The oldest pair that has stood for 0x300A.03 is removed, its window restarting (R380). -/
def State.expirePair (s : State) : State :=
  match s.air.remap.find? fun p => FT.le (FT.addNs p.made (s.eff 0x300A03 * 1000000000)) s.now with
  | none => s
  | some p =>
    if s.air.pending.isSome then s
    else
      let s := (s.announce (s.air.remap.filter fun q => q != p)).record 0x6005 [.u8 p.chan, .u8 p.spare]
      { s with air.windows := SMap.erase p.chan s.air.windows }

/-- The announced remap takes effect at slot 0 of PENDING_CYCLE (R365). -/
def State.remapTurns (s : State) : State :=
  match s.air.pending with
  | some (c, l) => if c ≤ FT.cycle s.now then { s with air.remap := l, air.pending := none } else s
  | none => s

/-! ### Radio settings and transceivers (R347, R349, R369, R382) -/

/-- Do committed changes of an object wait for slot 0 of the second cycle (R356, R382)? -/
def radioDelayed (o : Nat) : Bool :=
  let i := o / 256
  (decide (0x3000 ≤ i) && decide (i ≤ 0x300A)) || (decide (0x3010 ≤ i) && decide (i ≤ 0x3017))

/-- A committed radio setting waits for its cycle. -/
def State.radioLater (o : Nat) (v : Val) (at_ : FT) (s : State) : State :=
  { s with air.changes := s.air.changes ++ [(FT.cycle at_ + 2, o, v)] }

/-- The PSDU of a frame of the unit's own, with its FCS (R361). The 32-bit FCS of IEEE 802.15.4 is the CRC-32 of IEEE 802.3, least
significant octet first (PRESUMED, assumption 20). -/
def State.airPsdu (type seq dst low : Nat) (payload : List Byte) (s : State) : List Byte :=
  let m := [byte (0x10 + type), byte seq] ++ leBytes 2 dst ++ leBytes 2 0 ++ leBytes 2 (s.eff 0x300100) ++ [byte low] ++ payload
  m ++ fcs m

/-- A STOP payload (R369). -/
def stopPayload (state flags asn : Nat) : List Byte := [byte state, byte flags] ++ leBytes 8 asn

/-- CONFIG and the stop frame of buffer 1 go to port `n`'s transceiver (R347, R349, R369). -/
def State.configPort (n : Nat) (s : State) : State :=
  let f0 := (bandEdges (s.eff 0x300200)).1 + s.phy.spacing / 2
  let data := [byte (s.eff 0x300300)] ++ leBytes 4 f0 ++ leBytes 2 s.phy.spacing ++ [byte (s.eff (0x300501 + n))]
  (s.spi n 1 data).spi n 4 (s.airPsdu 2 0 0xFFFF 0 (stopPayload 1 1 0))

/-- What CONFIG and buffer 1 hold of the settings in force. -/
def State.configData (n : Nat) (s : State) : List Nat :=
  [s.eff 0x300100, s.eff 0x300200, s.eff 0x300300, s.eff (0x300501 + n)]

/-- The radio settings due at this slot 0 take effect (R349, R356, R382): a port that becomes enabled, or whose CONFIG
or stop frame changes, is configured. -/
def State.radioApply (s : State) : State :=
  let due := s.air.changes.filter fun c => decide (c.1 ≤ FT.cycle s.now)
  let s' := { s with air.changes := s.air.changes.filter fun c => !decide (c.1 ≤ FT.cycle s.now),
                     effective := due.foldl (fun m c => SMap.put Catalog.dflt c.2.1 c.2.2 m) s.effective }
  each (List.range 8) (fun n t =>
    when (t.airEnabled.testBit n && (!s.airEnabled.testBit n || t.configData n != s.configData n))
      (State.configPort n) (when (!s.airEnabled.testBit n && t.airEnabled.testBit n) (State.emit (.airReset n)) t)) s'

/-! ### Commits of pair-common settings (R349, R377, R475, R545) -/

/-- The comparators of the ports follow AIR_ENABLE (R349). -/
def State.airClaims (s : State) : State :=
  each (List.range 8) (fun n s =>
    if (s.cfg 0x300000).testBit n then s.claimComparator (0x100 + n) else s.releaseComparator (0x100 + n)) s

/-- A committed value of a pair-common setting and what it does at once, at the instant of its commit. -/
def State.commitCommon (o : Nat) (v : Val) (at_ : FT) (s : State) : State :=
  let old := s.setting o
  let s := when (enabling o) State.claimBalls (s.setCfg o v)
  let i := o / 256
  if radioDelayed o then (s.radioLater o v at_).airClaims
  else if i = 0x3020 ∧ old ≠ v then s.dropLink (o % 256)
  else if 0x3800 ≤ i ∧ i ≤ 0x3807 ∧ o % 256 = 1 then
    (s.axisModeSet (i - 0x3800) old.int.toNat v.int.toNat).gateWatch (i - 0x3800)
  else if 0x3800 ≤ i ∧ i ≤ 0x3807 ∧ 3 ≤ o % 256 ∧ o % 256 ≤ 6 ∧ old ≠ v then s.limitChanged (i - 0x3800) at_
  else s

end Sys2Proof.Machine
end

