-- ==== Sys2Proof/Machine/Air.lean ====
section
/-!
DEFINITION. The commands of Field Air (chapter 11) but the slot loads of LAUNCH: received frames, receive deadlines,
joins, channel exclusion and radio settings.
-/

namespace Sys2Proof.Machine

/-- A frame ends now; its delimiter pulse came `age` ns ago, and its first symbol 0x3007 before that (R375). -/
def State.rxFrame (port : Nat) (psdu : List Byte) (age : Nat) (rssi : Int) (s : State) : RxFrame :=
  ⟨port, psdu, FT.addUnits s.now (-nsUnits (age + s.eff (0x300701 + port) * 1000)), s.now, rssi⟩

/-- UP_FRAME_RECEIVED (R363, R371, R373, R377). -/
def execUpFrameReceived (port : Fin 8) (psdu : List Byte) (age : Nat) (rssi : Int) (s : State) :
    Host.Outcome State Fault Refusal :=
  .next (s.airReceive (s.rxFrame port.val psdu age rssi))

/-- JOIN_REQ (R363, R372, R377, R378). -/
def execJoinReq (port : Fin 8) (psdu : List Byte) (age : Nat) (rssi : Int) (s : State) :
    Host.Outcome State Fault Refusal :=
  .next (s.airReceive (s.rxFrame port.val psdu age rssi))

/-- RECEIVE_DEADLINE of the present slot on a port (R357, R379, R380). -/
def execReceiveDeadline (port : Fin 8) (s : State) : Host.Outcome State Fault Refusal :=
  .next (s.slotDeadline port.val)

/-- JOIN_ABANDONED of machine `k` (R377). -/
def execJoinAbandoned (k : Fin 129) (s : State) : Host.Outcome State Fault Refusal := .next (s.joinEnds k.val)

/-- CHANNEL_EXCLUSION_EVAL (R380). -/
def execChannelExclusionEval (s : State) : Host.Outcome State Fault Refusal := .next s.evalChannels

/-- EXCLUSION_EXPIRED (R380). -/
def execExclusionExpired (s : State) : Host.Outcome State Fault Refusal := .next s.expirePair

/-- REMAP_APPLY (R365, R380). -/
def execRemapApply (s : State) : Host.Outcome State Fault Refusal := .next s.remapTurns

/-- PERIOD_EFFECTIVE of machine `k` (R378). -/
def execPeriodEffective (k : Fin 129) (s : State) : Host.Outcome State Fault Refusal := .next (s.periodTurns k.val)

/-- RADIO_CONFIG_APPLY (R349, R356, R382). -/
def execRadioConfigApply (s : State) : Host.Outcome State Fault Refusal := .next s.radioApply

end Sys2Proof.Machine
end

