-- ==== Sys2Proof/Machine/Allot.lean ====
section
/-!
DEFINITION. ALLOT (chapter 09): edits and reports in log order, the life cycle, learned quantities, the auction and the
routes of awards.
-/

namespace Sys2Proof.Machine

/-! ### Reports (R305, R317, R318) -/

/-- The effect of a report that R318 applies. -/
def State.applyReport (r : Report) (at_ : FT) (s : State) : State :=
  match r.code with
  | 1 => (s.modTask r.task fun t => { t with state := .running, timer := none }).count 0x2E4003
  | 2 => s.modTask r.task fun t => { t with progress := r.progress }
  | 3 => ((s.finish r.task .done 1 at_).modTask r.task fun t => { t with progress := 100 }).count 0x2E4004
  | 4 => s.leaveTask r.task 3 at_
  | _ =>
    (s.modTask r.task fun t =>
      { t with bars := (r.machine, FT.addNs r.stamp (s.eff 0x2E0800 * 1000000000)) :: t.bars }).leaveTask r.task 2 at_

/-- Is a report's code valid for a state (R318)? -/
def reportFits (code : Nat) (st : TaskState) : Bool :=
  match code, st with
  | 1, .awarded => true | 5, .awarded => true | 2, .running => true | 3, .running => true | 4, .running => true
  | _, _ => false

/-- One TASK_REPORT (R318). -/
def State.report (at_ : FT) (r : Report) (s : State) : State :=
  let t := s.task r.task
  let mine := decide (r.task < 1024) && t.machine == r.machine && t.award == r.award
  if mine && reportFits r.code t.state then s.applyReport r at_
  else if mine && t.state == .running && r.code == 1 then s
  else (s.count 0x2E4009).recordSince r.machine 0x5023 1 [.u8 r.machine, .u16 r.task, .u8 r.code]

/-- Steps 1 and 2 of R303. Where an edit and a report meet in one run, log order decides (R307): at equal stamps a
frame's source code precedes that of a dictionary write (R232). -/
def State.applyInputs (t1 : Nat) (at_ : FT) : Nat → List Edit → List Report → State → State
  | 0, _, _, s => s
  | _ + 1, [], [], s => s
  | n + 1, e :: es, [], s => (s.applyTaskEdit t1 at_ e).applyInputs t1 at_ n es []
  | n + 1, [], r :: rs, s => (s.report at_ r).applyInputs t1 at_ n [] rs
  | n + 1, e :: es, r :: rs, s =>
    if FT.le r.stamp e.stamp then (s.report at_ r).applyInputs t1 at_ n (e :: es) rs
    else (s.applyTaskEdit t1 at_ e).applyInputs t1 at_ n es (r :: rs)

/-! ### Step 3 (R305 to R307) -/

/-- Nanoseconds that count toward a timer begun at `start`, when `snaps` snapshots under stop had been (R307). -/
def State.counted (start : FT) (snaps : Nat) (to_ : FT) (s : State) : Nat :=
  FT.nsSince start to_ - (s.pipe.stopSnaps - snaps) * 100000000

/-- Is the machine of a task lost at the snapshot (R305)? -/
def State.lost (k : Nat) (s : State) : Bool :=
  let m := s.machine k
  m.snapLink == .adrift ||
    (match m.snap with
      | some f => f.pos.status == 0
      | none => true) ||
    (match m.snapStatus with
      | some st => decide (s.eff 0x2E0300 * 1000000000 < s.counted st.stamp st.snaps s.pipe.snapAt)
      | none => true)

/-- Step 3 for one task. -/
def State.ageTask (t1 : Nat) (t1At at_ : FT) (i : Nat) (s : State) : State :=
  let s := when ((s.task i).state == .waiting && msAtOrBefore (s.task i).release t1)
    (State.modTask i fun t => { t with state := .open_ }) s
  let t := s.task i
  match t.state with
  | .open_ =>
    if t.expire && t.deadline != 0 && msAtOrBefore t.deadline t1 then
      ((s.finish i .failed 4 at_).count 0x2E4005).record 0x5022 [.u16 i, .u8 0, .u8 4]
    else s
  | .awarded =>
    if s.pipe.stopSnap then s
    else if (match t.timer with
        | some x => decide (s.eff 0x2E0100 * 1000000000 < s.counted x.1 x.2 t1At)
        | none => false) then (s.count 0x2E400B).leaveTask i 0 at_
    else if s.lost t.machine then (s.count 0x2E400C).leaveTask i 1 at_
    else s
  | .running =>
    if !s.pipe.stopSnap && s.lost t.machine then (s.count 0x2E400C).leaveTask i 1 at_ else s
  | .empty => s
  | .waiting => s
  | _ => if s.eff 0x2E0400 * 1000000000 ≤ FT.nsSince t.final t1At then s.putTask i .blank else s

/-! ### Learned quantities (R308, R309) -/

/-- The nominal passage time of a segment in ms, rounded up. -/
def nominalMs (g : Seg) : Nat := (g.length * 100 + g.speed - 1) / g.speed

/-- τ of segment `j`. -/
def State.tau (j : Nat) (s : State) : Nat := SMap.getD (nominalMs (s.tracks.seg j)) j s.tasks.tau

/-- One passage (R308): m is bounded to half and four times the nominal time, and τ moves an eighth of the way. -/
def State.learnPassage (p : Nat × Nat) (s : State) : State :=
  let nom := nominalMs (s.tracks.seg p.1)
  let m2 : Int := clamp nom (8 * nom : Nat) (2 * p.2 : Nat)
  let tau : Int := s.tau p.1
  let new := (tau + Int.fdiv (m2 - 2 * tau) 16).toNat
  { s with tasks.tau := SMap.put (fun j => nominalMs (s.tracks.seg j)) p.1 new s.tasks.tau }

/-- D_k of machine `k`. -/
def State.drainRate (k : Nat) (s : State) : Nat := (s.machine k).drain.getD (s.eff 0x2E1200)

/-- D after one STATUS pair (R309): the measured rate in 0.001 % per second, rounded down; two entries of one stamp give none
(DESIGN CHOICE, assumption 23). -/
def drainAfter (d : Nat) (p : Nat × Nat) : Nat :=
  if p.2 = 0 then d
  else
    let rate : Int := (p.1 * 100 * 1000000000 / p.2 : Nat)
    (clamp 0 65535 (d + Int.fdiv (rate - d) 16)).toNat

/-- The drain rate of machine `k` after its STATUS pairs (R309). -/
def State.learnDrain (k : Nat) (s : State) : State :=
  let l := (s.machine k).pairFall
  if l.isEmpty then s
  else
    let d := l.foldl drainAfter (s.drainRate k)
    s.modMachine k fun m => { m with drain := some d, pairFall := [] }

/-- Step 4 of R303. -/
def State.learn (s : State) : State :=
  let s := each s.tasks.passages State.learnPassage { s with tasks.passages := [] }
  each machineNumbers State.learnDrain s

/-! ### Paths (R313, R314) -/

/-- The best path known to a node: its time and its segments. -/
structure Path where
  node : Nat
  time : Nat
  segs : List Nat
  deriving DecidableEq, Repr

/-- Is one list of numbers lower than another at the first place where they differ? -/
def lexLower : List Nat → List Nat → Bool
  | _, [] => false
  | [], _ :: _ => true
  | a :: as, b :: bs => decide (a < b) || (a == b && lexLower as bs)

/-- The order of R313 between two paths. -/
def Path.better (a b : Path) : Bool :=
  decide (a.time < b.time) ||
    (a.time == b.time && (decide (a.segs.length < b.segs.length) ||
      (a.segs.length == b.segs.length && lexLower a.segs b.segs)))

/-- Keep the better path to a node. -/
def keepBest (p : Path) : List Path → List Path
  | [] => [p]
  | q :: l => if q.node = p.node then (if p.better q then p :: l else q :: l) else q :: keepBest p l

/-- May machine `k` pass segment `j` (R313)? -/
def State.passable (k j : Nat) (s : State) : Bool :=
  let g := s.tracks.seg j
  g.valid && !g.closed &&
    !s.tracks.res.any fun e => e.2.state == .held && e.2.seg == j && e.2.machine != k

/-- One round of relaxation over the passable segments. -/
def State.relax (segs : List Nat) (best : List Path) (s : State) : List Path :=
  segs.foldl (fun best j =>
    let g := s.tracks.seg j
    let best := match best.find? fun p => p.node == g.src with
      | some p => keepBest ⟨g.dst, p.time + s.tau j, p.segs ++ [j]⟩ best
      | none => best
    if g.oneWay then best
    else match best.find? fun p => p.node == g.dst with
      | some p => keepBest ⟨g.src, p.time + s.tau j, p.segs ++ [j]⟩ best
      | none => best) best

/-- Relax so many times; as many rounds as there are segments find every least path. -/
def State.relaxN (segs : List Nat) : Nat → List Path → State → List Path
  | 0, best, _ => best
  | n + 1, best, s =>
    let next := s.relax segs best
    if next = best then best else s.relaxN segs n next

/-- The starts of a path on segment `j` (R313): toward TO, and toward FROM unless it is ONE_WAY. -/
def State.starts (j : Nat) (p : PosRec) (s : State) : List Path :=
  let g := s.tracks.seg j
  let f := s.tracks.along g p.east p.north
  let start (n part : Nat) : Path :=
    if part = 0 then ⟨n, 0, []⟩ else ⟨n, (s.tau j * part + f.2 - 1) / f.2, [j]⟩
  if g.oneWay then [start g.dst (f.2 - f.1)] else [start g.dst (f.2 - f.1), start g.src f.1]

/-- The path of machine `k` to a node (R313), if there is one. -/
def State.pathTo (k node : Nat) (s : State) : Option Path :=
  match (s.machine k).snap with
  | none => none
  | some f =>
    let start := ((s.tracks.at_ f.pos.east f.pos.north).flatMap fun j => s.starts j f.pos).foldl (fun l p => keepBest p l) []
    let segs := (s.tracks.segs.keys).filter fun j => s.passable k j
    (s.relaxN segs segs.length start).find? fun p => p.node == node

/-! ### The auction (R310 to R312) -/

/-- Is machine `k` free (R310)? -/
def State.isFree (k : Nat) (s : State) : Bool :=
  let m := s.machine k
  !(s.tasks.tasks.any fun e => e.2.heldBy k) &&
    (match m.snap with
      | some f => f.sure
      | none => false) &&
    (match m.snapStatus with
      | some st => st.flags.testBit 0
      | none => false) &&
    m.snapLink == .associated

/-- What a task costs a machine (R311): the cost, where the machine is eligible (R310), and its path. -/
def State.bid (t1 : Nat) (t1At : FT) (t : Task) (k : Nat) (s : State) : Option (Nat × Path) :=
  if !t.classes.testBit (s.eff (0x2E1000 + k)) || t.bars.any (fun b => b.1 == k && FT.lt t1At b.2) then none
  else match s.pathTo k t.startNode, (s.machine k).snapStatus with
    | some p, some st =>
      let travel : Nat := (p.time * s.drainRate k + 99999) / 100000
      let left : Int := (st.battery : Int) - travel
      let after := left - t.energy
      if (if t.kind = 4 then decide (0 ≤ left) else decide ((s.eff 0x2E0500 : Int) ≤ after)) then
        let late : Nat := if t.deadline = 0 then 0
          else (msDiff ((t1 + p.time + 100 * t.work) % 2 ^ 40) t.deadline).toNat
        some (p.time + s.eff 0x2E0600 * (1000 - after).toNat + s.eff 0x2E0700 * late, p)
      else none
    | _, _ => none

/-- Sorting key of an OPEN task (R312). -/
def auctionKey (t1 : Nat) (e : Nat × Task) : List Int :=
  [-(e.2.prio : Int), if e.2.deadline = 0 then 2 ^ 41 else msDiff e.2.deadline t1,
    if e.2.release = 0 then -(2 ^ 41) else msDiff e.2.release t1, e.1]

/-- Is one key lower? -/
def keyLower : List Int → List Int → Bool
  | _, [] => false
  | [], _ :: _ => true
  | a :: as, b :: bs => decide (a < b) || (a == b && keyLower as bs)

/-- Insert a task by its key. -/
def insertTask (t1 : Nat) (x : Nat × Task) : List (Nat × Task) → List (Nat × Task)
  | [] => [x]
  | y :: l => if keyLower (auctionKey t1 x) (auctionKey t1 y) then x :: y :: l else y :: insertTask t1 x l

/-- The OPEN tasks in the order of R312. -/
def State.auctionOrder (t1 : Nat) (s : State) : List Nat :=
  ((s.tasks.tasks.filter fun e => e.2.state == .open_).foldl (fun l x => insertTask t1 x l) []).map Prod.fst

/-- The lowest cost of a list of bids, the first breaking a tie. -/
def lowest : List (Nat × Nat × Path) → Option (Nat × Nat × Path)
  | [] => none
  | b :: l => match lowest l with
    | none => some b
    | some c => if c.2.1 < b.2.1 then some c else some b

/-- Task `i` is awarded (R305, R312, R314). -/
def State.awardTo (i k cost eligible : Nat) (p : Path) (s : State) : State :=
  ((s.modTask i fun t => { t with state := .awarded, machine := k, award := FT.cycle s.pipe.snapAt % 65536,
                                  route := p.segs.take 32, timer := none }).count 0x2E4002).record 0x5020
    [.u16 i, .u8 k, .u64 cost, .u32 eligible]

/-- The auction over the OPEN tasks in order (R312): `free` are the machines still free, `left` the awards left. -/
def State.auction (t1 : Nat) (t1At : FT) : List Nat → List Nat → Nat → State → State
  | [], _, _, s => s
  | i :: is, free, left, s =>
    if left = 0 then s
    else
      let bids := free.filterMap fun k => (s.bid t1 t1At (s.task i) k).map fun b => (k, b.1, b.2)
      match lowest bids with
      | none => (s.count 0x2E4008).auction t1 t1At is free left
      | some b => (s.awardTo i b.1 b.2.1 bids.length b.2.2).auction t1 t1At is (free.filter (· != b.1)) (left - 1)

/-- One ALLOT run (R303, R304). -/
def State.allotRun (s : State) : State :=
  if s.tasks.due then
    let t1At := FT.addNs s.pipe.snapAt 20000000
    let t1 := FT.ms t1At
    let at_ := FT.addNs s.pipe.snapAt 8000000
    let es := s.tasks.inEdits
    let rs := s.tasks.inReports
    let s := s.adopt 0x2E00 0x2E12
    let before : Option AllotUndo :=
      if s.follows then some ⟨s.tasks, s.machines.map fun m => (m.drain, m.pairFall)⟩ else none
    let s : State := { s with tasks := { s.tasks with inEdits := [], inReports := [], due := false }, pipe.undo := before }
    let s := s.applyInputs t1 at_ (es.length + rs.length) es rs
    let s := (each s.tasks.tasks.keys (State.ageTask t1 t1At at_) s).learn
    let s := if s.pipe.stopSnap then s
      else s.auction t1 t1At (s.auctionOrder t1) (machineNumbers.filter fun k => s.isFree k) (s.eff 0x2E0000)
    (s.show 0x2E3200 (SMap.count (fun t => t.state == .open_) s.tasks.tasks)).stageDone 5
      (FT.cycle s.pipe.snapAt) (FT.addNs s.pipe.snapAt 15000000)
  else s

/-- ALLOT's result is abandoned whole (R243, R304): its inputs wait for the next run. -/
def State.allotAbandoned (s : State) : State := ({ s with tasks.due := false } : State).count 0x2C1008

/-- Does a command run ALLOT? -/
def runsAllot (i : Instr) : Bool :=
  match i with
  | .allotRun => true
  | _ => false

/-- ALLOT_DEADLINE, t₀ + 95 ms, on a unit that takes its own fallbacks (R227, R243, R252). -/
def State.allotFallback (s : State) : State :=
  if s.tasks.due && !s.follows && s.ripe s.pipe.snapAt 15000000 && !s.arriving runsAllot then
    let cyc := FT.cycle s.pipe.snapAt
    (s.allotAbandoned.stageMissed 5 0 cyc).marker 5 0 cyc
  else s

/-- ALLOT_DEADLINE (R243). -/
def execAllotDeadline (s : State) : Host.Outcome State Fault Refusal := .next s.allotFallback

/-- TASK_ENTRY_WRITE (R300): a write to 0x4301. -/
def execTaskEntryWrite (w : Writer) (v : List Byte) (s : State) : Host.Outcome State Fault Refusal :=
  .next (s.editRow w 0x430100 v)

/-- TASK_CANCEL (R301): OP 1 of 0x2E30; `rest` are the octets after OP. -/
def execTaskCancel (w : Writer) (rest : List Byte) (s : State) : Host.Outcome State Fault Refusal :=
  .next (s.editRow w 0x2E3000 (1#8 :: rest))

/-- TASK_REQUEUE (R301): OP 2. -/
def execTaskRequeue (w : Writer) (rest : List Byte) (s : State) : Host.Outcome State Fault Refusal :=
  .next (s.editRow w 0x2E3000 (2#8 :: rest))

/-- TASK_CLEAR (R301): OP 3. -/
def execTaskClear (w : Writer) (rest : List Byte) (s : State) : Host.Outcome State Fault Refusal :=
  .next (s.editRow w 0x2E3000 (3#8 :: rest))

end Sys2Proof.Machine
end

