-- ==== Sys2Proof/Machine/Stop.lean ====
section
/-!
DEFINITION. Stopping the fleet (chapter 12): stop inputs and their cross-monitoring, the stop command filter, release,
readback and SAFE.
-/

namespace Sys2Proof.Machine

/-- Record the level of a stop input: `true` is stop level. -/
def StopSt.setInput (i : Nat) (v : Bool) (p : StopSt) : StopSt :=
  match i with
  | 0 => { p with inA := v }
  | 1 => { p with inB := v }
  | _ => { p with key := v }

/-- Both inputs of the chain stand at stop level: a full operation of the chain has begun (R391). -/
def StopSt.noteBoth (p : StopSt) : StopSt :=
  if p.inA && p.inB then { p with bothStop := true, firstRun := none } else p

/-- The inputs of the chain after a change: since when they differ (R390), `old` being their levels before it. -/
def StopSt.noteApart (hb : Nat) (p old : StopSt) : StopSt :=
  if p.inA = p.inB then { p with apart := none }
  else if old.inA = old.inB then { p with apart := some hb }
  else p

/-- A stop level qualifies (R386 to R388). -/
def State.stopInput (i : Nat) (s : State) : State :=
  ({ s with stop := ((s.stop.setInput i true).noteBoth).noteApart s.time.hb s.stop }).setLatch i

/-- Milliseconds as CK_HB counts at the nominal 4 MHz (R81). -/
def hbMs (ms : Nat) : Nat := ms * 4000

/-- Does a command bring a change of an input of the chain (R80)? -/
def chainChanges (i : Instr) : Bool :=
  match i with
  | .stopInputQualified k => decide (k.val < 2)
  | .stopInputRunLevel k => decide (k.val < 2)
  | _ => false

/-- A discrepancy arises (R390): the two inputs have differed for longer than 0x3401, counted on CK_HB. -/
def State.discrepancy (s : State) : State :=
  match s.stop.apart with
  | none => s
  | some c =>
    if s.time.hb ≤ c + hbMs (s.cfg 0x340100) || s.arriving chainChanges then s
    else
      let stop := { s.stop with discrepancy := true, bothStop := false, firstRun := none, apart := none }
      (({ s with stop := stop }).count 0x343007).record 0x7003 [.u8 (b2n !s.stop.inA), .u8 (b2n !s.stop.inB)]

/-- One input of the chain returns to run level (R391): the second return within 0x3401 of the first clears
DISCREPANCY. -/
def StopSt.returned (limit hb : Nat) (p : StopSt) : StopSt :=
  if p.bothStop then
    match p.firstRun with
    | none => { p with firstRun := some hb }
    | some t =>
      if p.inA || p.inB then p
      else { p with bothStop := false, firstRun := none, discrepancy := p.discrepancy && decide (limit < hb - t) }
  else p

/-- A stop input returns to run level. -/
def State.stopInputRun (i : Nat) (s : State) : State :=
  let p := (s.stop.setInput i false).noteApart s.time.hb s.stop
  { s with stop := if i < 2 then p.returned (hbMs (s.cfg 0x340100)) s.time.hb else p }

/-! ### Stop commands (R392 to R396) -/

/-- The key of a slot; an empty slot has none. -/
def State.stopKey (k : Nat) (s : State) : List Byte := s.sec.stopKeys.getD k []

/-- The checks of R394: the failing row and its result code, if any. `role` is that of a dictionary writer, `none` for
the other routes. -/
def State.stopFilter (role : Option Nat) (m : List Byte) (s : State) : Option (Nat × Nat) :=
  let slot := field m 2 1 % 4
  if m.length ≠ 32 ∨ field m 0 1 ≠ 1 ∨ (field m 1 1 ≠ 1 ∧ field m 1 1 ≠ 2) ∨ 4 ≤ field m 2 1 ∨ field m 3 1 ≠ 0 then
    some (1, 0x20)
  else if (match role with | some r => decide (r < 1) | none => false) then some (2, 0x30)
  else if s.stopKey slot = [] ∨ Config.aesCmac (s.stopKey slot) (m.take 16) ≠ m.drop 16 ∨
      (field m 8 8 ≠ 0 ∧ field m 8 8 ≠ Config.serial) then some (3, 0x30)
  else if field m 4 4 ≤ s.stop.counters.getD slot 0 then some (4, 0x40)
  else none

/-- The filter drops a command (R394). -/
def State.stopRejected (route row : Nat) (s : State) : State :=
  (s.count 0x343008).recordSince route 0x7004 1 [.u8 route, .u8 row]

/-- The conditions of R399 on the unit and its inputs, in table order: the refusal, 0 if they all hold. -/
def State.releaseBars (s : State) : Nat :=
  firstCase [
    (!(s.pair.output && (s.power.mode == .solo || s.power.mode == .active || s.power.mode == .handover)), 0x11),
    (s.stop.inA || s.stop.inB || s.stop.key, 0x11),
    (s.stop.discrepancy || s.stop.outFault, 0x41),
    (!s.stop.latch || decide (s.ticks - s.stop.setTick < msTicks (s.cfg 0x340200)), 0x10)]

/-- A RELEASE that passed the filter (R399, R400): its result code. -/
def State.releaseCode (s : State) : Nat :=
  let c := s.releaseBars
  if c ≠ 0 then c else if s.stop.release.isSome then 0x10 else 1

/-- The release that an acceptance now leaves pending (R400): t_r is the first slot 0 at least 4 ms later. -/
def State.releaseDue (route slot : Nat) (s : State) : Release :=
  ⟨s.now, FT.slot0From (FT.addNs s.now 4000000), route, slot⟩

/-- A RELEASE is accepted or refused. -/
def State.askRelease (route slot : Nat) (s : State) : State :=
  if s.releaseCode = 1 then { s with stop.release := some (s.releaseDue route slot) } else s.count 0x343006

/-- The filter accepts a command (R395): its COUNTER is kept, in PD_BKP and in the secure store. -/
def State.keepCounter (m : List Byte) (s : State) : State :=
  let slot := field m 2 1 % 4
  { s with stop := { s.stop with counters := setAt s.stop.counters slot (field m 4 4),
                                 stored := setAt s.stop.stored slot (field m 4 4) } }

/-- The result code of a stop command (R394, R395, R399). -/
def State.stopCode (role : Option Nat) (m : List Byte) (s : State) : Nat :=
  match s.stopFilter role m with
  | some f => f.2
  | none => if field m 1 1 = 1 then 0 else (s.keepCounter m).releaseCode

/-- A stop command by any route (R392 to R399); 0x3403 takes its result. -/
def State.stopCommand (route : Nat) (role : Option Nat) (m : List Byte) (s : State) : State :=
  let code := s.stopCode role m
  let t := match s.stopFilter role m with
    | some f => s.stopRejected route f.1
    | none =>
      if field m 1 1 = 1 then (s.keepCounter m).setLatch 3
      else (s.keepCounter m).askRelease route (field m 2 1 % 4)
  { t with stop.lastResult := code }

/-- A stop command as a row of its own: the dictionary route answers (R396). -/
def State.stopRow (route : Nat) (w : Writer) (m : List Byte) (s : State) : State :=
  if route = 2 then (s.stopCommand 2 (some (s.roleOf w)) m).answer w 0x341000 (s.stopCode (some (s.roleOf w)) m)
  else s.stopCommand route none m

/-- May a command bring a stop on this tick (R401)? -/
def bringsStop (i : Instr) : Bool :=
  match i with
  | .stopInputQualified _ => true
  | .stopCommandStop _ _ _ => true
  | .ethFrameReceived _ _ _ _ => true
  | .canFrameReceived _ _ _ _ _ => true
  | _ => false

/-- t_r of a pending release (R400, R401): a source that sets the latch on the tick of t_r comes first. -/
def State.releaseApplied (s : State) : State :=
  match s.stop.release with
  | none => s
  | some r =>
    if FT.lt s.now r.due || s.arriving bringsStop then s
    else if s.releaseBars = 0 then (s.clearLatch r.route r.slot).logStop 0 0 r.due
    else ({ s with stop.release := none }).count 0x343006

/-- A logged change of the holder's stop state reaches a unit that follows it (R403). -/
def State.peerStop (state mask : Nat) (s : State) : State :=
  let s := { s with stop.logged := (state, mask) }
  if state = 1 then s.setLatch 4
  else if !(s.stop.inA || s.stop.inB || s.stop.key) && !s.stop.discrepancy && !s.stop.outFault then
    if s.stop.latch then s.clearLatch 3 0xFF else s
  else (s.count 0x343006).record 0x7005
    [.u8 state, .u8 (b2n !s.stop.inA), .u8 (b2n !s.stop.inB), .u8 (b2n !s.stop.key), .u8 s.stop.mask]

/-! ### Readback and SAFE -/

/-- A STOPOUT ball differs from its driven level (R405). -/
def State.stopoutDiffers (out : Nat) (read : Bool) (s : State) : State :=
  if read = s.stopout then s
  else (({ s with stop := { s.stop with outFault := true, faultTick := s.ticks } }).count 0x343009).record 0x7006 [.u8 out, .u8 (b2n s.stopout), .u8 (b2n read)]

/-- In SAFE an axis drops EN, STEP and IREF when its ramp has ended or 2 s have passed (R406). -/
def State.safeDrop (n : Nat) (s : State) : State :=
  when (s.power.mode == .safe && (!(s.axis n).ramping || decide (secTicks 2 ≤ s.ticks - s.stop.safeTick)))
    (State.modAxis n fun a => { a with en := false, current := .off }) s

/-- STOP_INPUT_QUALIFIED (R387). -/
def execStopInputQualified (input : Fin 3) (s : State) : Host.Outcome State Fault Refusal := .next (s.stopInput input.val)

/-- STOP_DISCREPANCY (R390). -/
def execStopDiscrepancy (s : State) : Host.Outcome State Fault Refusal := .next s.discrepancy

/-- STOP_INPUT_RUN_LEVEL (R391). -/
def execStopInputRunLevel (input : Fin 3) (s : State) : Host.Outcome State Fault Refusal := .next (s.stopInputRun input.val)

/-- STOP_COMMAND_STOP (R395): a command with OP 1 meets the filter. -/
def execStopCommandStop (route : Fin 3) (w : Writer) (msg : List Byte) (s : State) : Host.Outcome State Fault Refusal :=
  .next (s.stopRow route.val w msg)

/-- STOP_COMMAND_RELEASE (R399): a command with OP 2 meets the filter. -/
def execStopCommandRelease (route : Fin 3) (w : Writer) (msg : List Byte) (s : State) :
    Host.Outcome State Fault Refusal :=
  .next (s.stopRow route.val w msg)

/-- STOP_RELEASED (R400). -/
def execStopReleased (s : State) : Host.Outcome State Fault Refusal := .next s.releaseApplied

/-- STOPOUT_FAULT (R405). -/
def execStopoutFault (out : Fin 2) (read : Bool) (s : State) : Host.Outcome State Fault Refusal :=
  .next (s.stopoutDiffers out.val read)

/-- Both levels have agreed for 1 s while the latch is set (R405): not sooner than 1 s after the fault and the setting. -/
def State.stopoutAgrees (s : State) : State :=
  if s.stop.latch && s.passed (max s.stop.faultTick s.stop.setTick) (secTicks 1) then { s with stop.outFault := false } else s

/-- STOPOUT_FAULT_CLEAR (R405). -/
def execStopoutFaultClear (s : State) : Host.Outcome State Fault Refusal := .next s.stopoutAgrees

/-- In SAFE every enabled port is strobed once every 16,000 CK_HB counts, whatever the output stage (R406); the first time so many
counts after the entry (DESIGN CHOICE, assumption 33). -/
def State.safeStrobes (s : State) : State :=
  when (s.power.mode == .safe && s.hbPassed s.stop.strobeHb 16000)
    (fun s => ({ s with stop.strobeHb := s.time.hb }).emit (.strobe s.airEnabled)) s

/-- SAFE_STROBE (R406). -/
def execSafeStrobe (s : State) : Host.Outcome State Fault Refusal := .next s.safeStrobes

/-- SAFE_AXIS_DROP (R406). -/
def execSafeAxisDrop (n : Fin 8) (s : State) : Host.Outcome State Fault Refusal := .next (s.safeDrop n.val)

end Sys2Proof.Machine
end

