-- ==== Sys2Proof/Machine/Axes.lean ====
section
/-!
DEFINITION. Gate axes (chapter 15): targets and commands, moves, changes in motion, homing, current and stall, limits.
-/

namespace Sys2Proof.Machine

/-- An axis's signed object 0x3800 + n, subindex `sub`. -/
def State.axisCfgI (n sub : Nat) (s : State) : Int := s.cfgI ((0x3800 + n) * 256 + sub)

/-- GATE_TARGET of position `p` (0x2D20 + n). -/
def State.gateTarget (n p : Nat) (s : State) : Int := s.cfgI ((0x2D20 + n) * 256 + p + 1)

/-! ### Moves -/

/-- Does a command that R476 puts before the start of an armed move wait in the queue: one that may set the stop latch, a stall or
limit of the axis, or a commit? -/
def beforeStart (n : Nat) (i : Instr) : Bool :=
  bringsStop i || match i with
    | .stallDetected k => k.val == n
    | .limitReached k _ _ => k.val == n
    | .axisTarget _ k _ => k.val == n
    | .axisStop _ k => k.val == n
    | .axisHome _ k => k.val == n
    | .axisClear _ k => k.val == n
    | .dictWrite _ _ _ => true
    | .groupCommit _ _ _ => true
    | .canWrite _ _ _ => true
    | .canGroup _ _ _ => true
    | _ => false

/-- A plan of axis `n` from rest at its counter, with the limits in force. -/
def State.planFrom (n : Nat) (kind : PlanKind) (start : FT) (target : Int) (speed vmax : Nat) (s : State) : Plan :=
  { kind := kind, start := FT.grid start, byTicks := none, origin := (s.axis n).pos, target := target, done := 0,
    speed := speed * 10 ^ 9, acc := 0, vmax := vmax, accel := s.axisCfg n 4, decel := s.axisCfg n 5, jerk := s.axisCfg n 6,
    profile := s.axisCfg n 2 }

/-- The profile of a move of axis `n` from rest at its counter (R477). -/
def State.planFor (n : Nat) (start : FT) (target : Int) (s : State) : Plan :=
  s.planFrom n .move start target 0 (s.axisCfg n 3)

/-- The level of AXn_DIR for positive or negative travel (R471). -/
def State.dirLevel (n : Nat) (positive : Bool) (s : State) : Bool := positive != (s.axisCfg n 0x0A).testBit 0

/-- A move begins on an IDLE axis at its start instant (R475, R477, R485, R489); a move to where the counter stands ends at once,
as one that has just had its last step. -/
def State.beginMove (n : Nat) (start : FT) (target : Int) (s : State) : State :=
  if target = (s.axis n).pos then
    (s.modAxis n fun a => { a with target := target, current := .run, lastStep := some s.ticks }).countAxis n 1
  else
    let plan := s.planFor n start target
    s.modAxis n fun a =>
      { a with state := .moving, target := target, plan := some plan, current := .run, dir := s.dirLevel n plan.positive,
               lastStep := none }

/-- A begun move ramps at once while Field Time is about to jump (R250). -/
def State.beginOrVoid (n : Nat) (start : FT) (target : Int) (s : State) : State :=
  when s.pipe.void.isSome (State.axisVoided n) (s.beginMove n start target)

/-- The instant at which an accepted TARGET starts (R479): the first 100 µs boundary at least 2 ms after the commit. -/
def targetStart (now : FT) : FT := FT.ofNs ((FT.ns (FT.addNs now (if now.frac = 0 then 2000000 else 2000001)) + 99999) / 100000 * 100000)

/-- Is the limit in the direction of a target active (R479)? -/
def Axis.limited (target : Int) (a : Axis) : Bool :=
  if a.pos < target then a.inputs.testBit 1 else if target < a.pos then a.inputs.testBit 2 else false

/-- The decision on a write to TARGET (R479). -/
def State.targetCheck (role n : Nat) (v : List Byte) (s : State) : Nat :=
  let a := s.axis n
  let t := toSigned 32 (leNat v)
  firstCase [
    (decide (role < 1), 0x30),
    (s.axisCfg n 1 != 2 || s.power.mode == .standby || s.stop.latch || a.state == .unhomed || a.state == .fault ||
      a.state == .disabled, 0x11),
    (v.length != 4, 0x21),
    (a.busy, 0x12),
    (decide (t < s.axisCfgI n 0x0B) || decide (s.axisCfgI n 0x0C < t), 0x20),
    (a.limited t, 0x41),
    (true, 1)]

/-- An accepted TARGET waits for its start; the holder tells its peer (R479, R543). -/
def State.targetApply (n : Nat) (v : List Byte) (s : State) : State :=
  let t := toSigned 32 (leNat v)
  (s.modAxis n fun a => { a with start := some (targetStart s.now, t) }).sendAxis n 1 0 t (targetStart s.now)

/-- A refused write to an axis object counts (R479, R497). -/
def State.axisRefused (n : Nat) (s : State) : State := s.countAxis n 4

/-- AXIS_TARGET as a row of its own. -/
def State.targetRow (w : Writer) (n : Nat) (v : List Byte) (s : State) : State :=
  let c := s.targetCheck (s.roleOf w) n v
  (if c = 1 then s.targetApply n v else s.axisRefused n).answer w ((0x3820 + n) * 256 + 1) c

/-- The start instant of an accepted TARGET (R479), once it is reached and nothing comes before it (R476): the move begins if the
axis is still IDLE in HOST mode. -/
def State.hostStart (n : Nat) (s : State) : State :=
  match (s.axis n).start with
  | some t =>
    if FT.lt s.now t.1 || s.arriving (beforeStart n) then s
    else
      let s := s.modAxis n fun a => { a with start := none }
      if (s.axis n).state = .idle ∧ s.axisCfg n 1 = 2 ∧ s.stop.latch = false then s.beginOrVoid n t.1 t.2 else s
  | none => s

/-- The last step of a move (R475): all its steps are placed. -/
def State.endMove (n inputs : Nat) (s : State) : State :=
  if (s.axis n).state = .moving ∧ s.axisPos n = (s.axis n).target then
    (s.modAxis n fun a => { a.still a.target s.ticks with state := .idle, inputs := inputs }).countAxis n 1
  else s.modAxis n fun a => { a with inputs := inputs }

/-- A gate move that may not begin is dropped (R489): counter, record, and FAULT with cause 4, for an axis in motion
at the end of its ramp. -/
def State.dropGateMove (n p : Nat) (s : State) : State :=
  let st := (s.axis n).state
  let s := (s.countAxis n 3).record 0x9005 [.u8 n, .u8 p, .u8 st.code]
  if s.axisCfg n 1 ≠ 1 then s
  else match st with
    | .fault => s
    | .disabled => s
    | .moving => s.axisRamp n (s.stopDecel n) (.fault 4)
    | .homing => s.homingRamp n (.fault 4)
    | .stopping => s.modAxis n fun a => { a with landing := .fault 4 }
    | .idle => s.axisFault n 4
    | .unhomed => s.axisFault n 4

/-- The start of the first armed gate move (R489), once it is reached and nothing comes before it (R476). -/
def State.gateStart (n : Nat) (s : State) : State :=
  match (s.axis n).armed with
  | [] => s
  | g :: rest =>
    if FT.lt s.now g.start || s.arriving (beforeStart n) then s
    else
      let s := (s.modAxis n fun a => { a with armed := rest }).armNext n
      if (s.axis n).state = .idle ∧ s.axisCfg n 1 = 1 then s.beginOrVoid n g.start (s.gateTarget n g.pos)
      else s.dropGateMove n g.pos

/-! ### Changes in motion (R480, R481) -/

/-- The boundary after a committed change of limits (R480): the moving axis replans from its present motion to the same
target, with the substitution of R481. -/
def State.replan (n : Nat) (s : State) : State :=
  match (s.axis n).plan, (s.axis n).changed with
  | some p, some b =>
    if (s.axis n).state ≠ .moving ∨ FT.lt s.now b = true then s
    else
      let asked := (s.axisCfg n 5, s.axisCfg n 6)
      let q : Plan := { p.rebase b s.ticks with
        vmax := s.axisCfg n 3, accel := s.axisCfg n 4, decel := asked.1, jerk := asked.2 }
      let applied := q.substituted
      let t := s.modAxis n fun a =>
        { a with changed := none, plan := some { q with decel := applied.1, jerk := applied.2 } }
      t.decelSubstituted n asked applied
  | _, _ => s

/-! ### Commands (R497) -/

/-- The decision on AXIS_COMMAND value `v` (R497). -/
def State.axisCommandCheck (role n v : Nat) (s : State) : Nat :=
  let a := s.axis n
  let host := s.axisCfg n 1 == 2
  firstCase [
    (decide (role < 1), 0x30),
    (a.state == .disabled || s.power.mode == .standby, 0x11),
    (decide (v < 1) || decide (3 < v), 0x20),
    (v == 1 && host && (a.state == .idle || a.state == .unhomed || a.state == .fault), 0),
    (v == 2 && (s.stop.latch || (a.state == .idle && s.axisCfg n 1 == 1 && s.power.mode != .maintain)), 0x11),
    (v == 2 && a.busy, 0x12),
    (v == 3 && a.state != .fault, 0x11),
    (v == 3 && (a.cause == 1 || a.cause == 2 || a.cause == 3), 0x41),
    (v == 2, 1)]

/-- STOP during a ramp (R475, R492): it goes on at no less than the stop deceleration, and a GATE-mode axis lands in FAULT. -/
def State.rampStopped (n : Nat) (s : State) : State :=
  (s.axisBrake n (s.stopDecel n)).modAxis n fun a =>
    { a with landing := match a.landing with
               | .fault c => .fault c
               | l => if s.axisCfg n 1 = 1 then .fault 5 else l }

/-- STOP (R475, R492): a ramp where the axis moves; a GATE-mode axis ends in FAULT with cause 5, and an axis already in
FAULT keeps its cause (assumption 8). -/
def State.stopAxis (n : Nat) (s : State) : State :=
  let gate := s.axisCfg n 1 == 1
  let landing : Landing := if gate then .fault 5 else .idle
  match (s.axis n).state with
  | .disabled => s
  | .moving => (s.countAxis n 2).axisRamp n (s.stopDecel n) landing
  | .homing => if (s.axis n).ramping then s.rampStopped n else s.homingStopped n (if gate then .fault 5 else .unhomed)
  | .stopping => s.rampStopped n
  | .idle => if gate then s.axisFault n 5 else s
  | .unhomed => if gate then s.axisFault n 5 else s
  | .fault => s

/-- Is the switch that the homing seeks active already (R482)? -/
def State.homeSwitch (n : Nat) (s : State) : Bool :=
  let i := (s.axis n).inputs
  if s.axisCfg n 0x0D = 3 then (if s.axisCfg n 0x0E = 1 then i.testBit 1 else i.testBit 2) else i.testBit 0

/-- A target beyond every search, for a phase of a homing that has none (R482). -/
def farTarget (from_ : Int) (positive : Bool) : Int := if positive then from_ + 2 ^ 32 else from_ - 2 ^ 32

/-- A phase of a homing begins at standstill (R482): fast under R477 up to HOME_SPEED, or creeping at HOME_CREEP. -/
def State.homePhase (n : Nat) (phase : HomePhase) (positive : Bool) (s : State) : State :=
  let target := farTarget (s.axis n).pos positive
  let plan := if phase = .fast then s.planFrom n .move s.now target 0 (s.axisCfg n 0x0F)
    else s.planFrom n .creep s.now target (s.axisCfg n 0x10) (s.axisCfg n 0x10)
  s.modAxis n fun a => { a with phase := phase, plan := some plan, dir := s.dirLevel n positive }

/-- HOME (R475, R482, R485). A switch that is active already is taken as just reached, at standstill: the axis creeps back from it
(the spec is silent: DESIGN CHOICE, assumption 9). -/
def State.homeAxis (n : Nat) (s : State) : State :=
  let back := s.axisCfg n 0x0D != 2 && s.homeSwitch n
  let phase : HomePhase := if s.axisCfg n 0x0D = 2 ∨ back = true then .creep else .fast
  (s.modAxis n fun a =>
    { a with state := .homing, cause := 0, homeFrom := a.pos, current := .run, ramping := false, start := none,
             lastStep := none }).homePhase n phase (back != (s.axisCfg n 0x0E == 1))

/-- CLEAR (R475). -/
def State.clearAxis (n : Nat) (s : State) : State :=
  if (s.axis n).state = .fault ∧ ((s.axis n).cause = 4 ∨ (s.axis n).cause = 5) then
    s.modAxis n fun a => { a with state := .idle, cause := 0 }
  else s

/-- An accepted AXIS_COMMAND acts. -/
def State.axisAct (n v : Nat) (s : State) : State :=
  match v with
  | 1 => s.stopAxis n
  | 2 => s.homeAxis n
  | _ => s.clearAxis n

/-- An accepted AXIS_COMMAND acts, and the holder tells its peer (R543). -/
def State.axisCommandApply (n v : Nat) (s : State) : State := (s.axisAct n v).sendAxis n 2 v 0 s.now

/-- AXIS_COMMAND as a row of its own. -/
def State.axisCommandRow (w : Writer) (n v : Nat) (s : State) : State :=
  let c := s.axisCommandCheck (s.roleOf w) n v
  (if c ≤ 1 then s.axisCommandApply n v else s.axisRefused n).answer w ((0x3820 + n) * 256 + 2) c

/-! ### Current and stall (R485 to R487) -/

/-- One millisecond of load (R486): IREF rises toward I_CEILING while the load exceeds LOAD_THRESH, and falls back toward
I_RUN once it is below LOAD_THRESH − LOAD_HYST. -/
def State.nextRaise (n load : Nat) (s : State) : Nat :=
  let a := s.axis n
  if s.axisCfg n 0x19 < load then min (s.axisCfg n 0x17 - s.runCode n) (a.raise + s.axisCfg n 0x18)
  else if load + s.axisCfg n 0x1A < s.axisCfg n 0x19 then a.raise - s.axisCfg n 0x18
  else a.raise

/-- The filtered load of an axis (R473): since when it exceeds LOAD_THRESH without interruption. -/
def State.noteLoad (n load : Nat) (s : State) : State :=
  s.modAxis n fun a =>
    { a with load := load,
             loadHigh := if s.axisCfg n 0x19 < load ∧ a.busy = true then some (a.loadHigh.getD s.ticks) else none }

/-- The boost of a moving or homing axis, once per millisecond (R486): each rise from I_RUN counts, and the record carries the
highest code and load since. -/
def State.boost (n load : Nat) (s : State) : State :=
  let a := s.axis n
  let next := s.nextRaise n load
  let rise := decide (a.raise = 0) && decide (0 < next)
  let code := s.runCode n + next
  let t := s.modAxis n fun a =>
    { a with raise := next, boosted := some s.ticks, peakIref := if rise then code else max a.peakIref code,
             peakLoad := if rise then load else max a.peakLoad load }
  let t := when rise (State.countAxis n 0x0A) t
  when (decide (0 < a.raise) || rise) (State.recordIn n 0x9006 [.u8 n, .u16 (t.axis n).peakIref, .u16 (t.axis n).peakLoad]) t

/-- The filtered load of an axis, and its boost where a millisecond has passed since the last (R473, R486). -/
def State.boostStep (n load : Nat) (s : State) : State :=
  let t := s.noteLoad n load
  when ((t.axis n).busy && (t.axis n).boosted.all fun k => t.passed k 500000) (State.boost n load) t

/-- Is a stall declared (R486): IREF at I_CEILING, the load above LOAD_THRESH for STALL_TIME without interruption? -/
def State.stallDue (n : Nat) (s : State) : Bool :=
  (s.axis n).current == .run && s.irefNow n == s.axisCfg n 0x17 &&
    (s.axis n).loadHigh.any fun k => s.passed k (s.axisCfg n 0x1B * 500000)

/-! ### Homing (R482 to R484) -/

/-- Steps that a creep has taken since it began. -/
def Axis.crept (now : FT) (ticks : Nat) (a : Axis) : Nat :=
  match a.plan with
  | some p => p.placed (p.elapsed now ticks)
  | none => 0

/-- Has the homing of axis `n` found its home point (R482)? Methods 0 and 3: the switch that was sought is inactive again;
method 1: at a multiple of INDEX_PERIOD since EN last rose; method 2: a stall is declared. -/
def State.homeFound (n inputs : Nat) (s : State) : Bool :=
  let a := s.axis n
  a.state == .homing && !a.ramping && a.phase == .creep &&
    match s.axisCfg n 0x0D with
    | 0 => !inputs.testBit 0
    | 1 => !inputs.testBit 0 && (s.axisPos n - a.enPos) % (s.axisCfg n 0x13 : Int) == 0
    | 2 => s.stallDue n
    | _ => !inputs.testBit (if s.axisCfg n 0x0E = 1 then 1 else 2)

/-- Steps since the home point: those that the filter of the switch let pass after the step it names (R473, R482); with an index or
a stall the home point is where the counter stands. -/
def State.stepsAfter (n after : Nat) (s : State) : Nat :=
  if s.axisCfg n 0x0D = 0 ∨ s.axisCfg n 0x0D = 3 then min after ((s.axis n).crept s.now s.ticks) else 0

/-- The home point is found, `after` steps ago (R475, R482, R483): the creep stops at once, and the counter is set so that the
home point reads HOME_OFFSET. -/
def State.homed (n after : Nat) (inputs : Nat) (s : State) : State :=
  if s.homeFound n inputs then
    let steps : Int := s.stepsAfter n after
    let pos := s.axisCfgI n 0x11 + (if (s.axis n).plan.all Plan.positive then steps else -steps)
    let shift := pos - s.axisPos n
    ((s.modAxis n fun a =>
      { a.still pos s.ticks with
        enPos := a.enPos + shift, state := .idle, cause := 0, inputs := inputs }).countAxis n 6).record 0x9002
        [.u8 n, .u8 (s.axisCfg n 0x0D), .i32 pos]
  else s.modAxis n fun a => { a with inputs := inputs }

/-- The switch of the fast phase becomes active (R482): decelerate at DECEL, under the profile of the fast phase. -/
def State.homeReached (n inputs : Nat) (s : State) : State :=
  s.modAxis n fun a =>
    if a.state = .homing ∧ a.phase = .fast then
      { a with inputs := inputs, phase := .decelerating,
               plan := a.plan.map fun p => (p.rebase s.now s.ticks).braked p.profile (s.axisCfg n 5) (s.axisCfg n 6) }
    else { a with inputs := inputs }

/-- A homing fails (R484): on a limit the axis ramps, otherwise its steps cease at once. -/
def State.homingFails (n reason : Nat) (s : State) : State :=
  if (s.axis n).state = .homing ∧ (s.axis n).ramping = false then
    let pos := s.axisPos n
    let s := (s.countAxis n 7).record 0x9003 [.u8 n, .u8 reason, .i32 pos]
    if reason = 1 then s.homingRamp n (.fault 3)
    else (s.modAxis n fun a => a.still pos s.ticks).axisFault n 3
  else s

/-- Does a limit whose bits stand in `inputs` fail a homing (R484): either in methods 0, 1 and 2, the one opposite to HOME_DIR in
method 3? -/
def State.limitFails (n inputs : Nat) (s : State) : Bool :=
  let positive := s.axisCfg n 0x0E == 1
  let other := s.axisCfg n 0x0D != 3
  (inputs.testBit 1 && (other || !positive)) || (inputs.testBit 2 && (other || positive))

/-- Why the homing of axis `n` fails (R484): its travel is spent, a limit has become active, or a stall is declared. The travel is
the distance of the counter from where the homing began (DEDUCED, assumption 9). -/
def State.homingCause (n inputs : Nat) (s : State) : Option Nat :=
  let a := s.axis n
  if s.axisCfg n 0x12 ≤ (s.axisPos n - a.homeFrom).natAbs then some 0
  else if s.limitFails n (inputs - (inputs &&& a.inputs)) then some 1
  else if s.axisCfg n 0x0D ≠ 2 ∧ s.stallDue n = true then some 2
  else none

/-- HOMING_FAILED: the homing fails if one of the three cases holds. -/
def State.homingChecked (n inputs : Nat) (s : State) : State :=
  let t := s.modAxis n fun a => { a with inputs := inputs }
  match s.homingCause n inputs with
  | some reason => t.homingFails n reason
  | none => t

/-! ### Stall, limits, standstill (R475, R486 to R488) -/

/-- A stall is declared (R475, R484, R486, R487): steps cease, IREF goes to hold and the axis to FAULT; in a stall homing it is
the home point. -/
def State.stalled (n : Nat) (s : State) : State :=
  if !s.stallDue n then s
  else match (s.axis n).state with
    | .moving =>
      ((s.modAxis n fun a => { a.still (s.axisPos n) s.ticks with current := .hold, lastStep := none }).countAxis n 8).axisFault n 1
    | .homing => if s.axisCfg n 0x0D = 2 then s.homed n 0 (s.axis n).inputs else (s.countAxis n 8).homingFails n 2
    | _ => s

/-- A limit becomes active (R475, R484, R488); `positive` names it. A move whose steps are all placed completes (R476). -/
def State.limitHit (n : Nat) (positive : Bool) (inputs : Nat) (s : State) : State :=
  let a := s.axis n
  let t := s.modAxis n fun a => { a with inputs := inputs }
  match a.state with
  | .moving =>
    if a.plan.all (fun p => p.positive == positive) ∧ s.axisPos n ≠ a.target then
      (t.countAxis n 9).axisRamp n (s.stopDecel n) (.fault 2)
    else t
  | .homing =>
    if s.axisCfg n 0x0D = 3 ∧ decide (s.axisCfg n 0x0E = 1) = positive then t.homeReached n inputs
    else t.homingFails n 1
  | _ => t

/-- Standstill (R475, R482, R492), once the ramp has ended: a stop ramp lands; the fast phase of a homing turns into the creep
back. -/
def State.standstill (n : Nat) (inputs : Nat) (s : State) : State :=
  let a := s.axis n
  let t := s.modAxis n fun a => { a with inputs := inputs }
  if !s.axisRests n then t
  else if a.ramping then (t.modAxis n fun a => a.still (s.axisPos n) s.ticks).axisLand n a.landing
  else if a.phase = .decelerating then
    (t.modAxis n fun a => { a with pos := s.axisPos n, plan := none }).homePhase n .creep (!a.plan.all Plan.positive)
  else t

/-! ### Hold and run current (R485) -/

/-- Does a start of axis `n` lie no later than 1 ms ahead? -/
def State.startNear (n : Nat) (s : State) : Bool :=
  let near := fun (t : FT) => FT.le t (FT.addNs s.now 1000000)
  (s.axis n).start.any (fun t => near t.1) || (s.axis n).armed.any (fun g => near g.start)

/-- HOLD_DELAY after the last step (R485): IREF goes to hold, unless the axis moves again or is about to. -/
def State.holdCurrent (n : Nat) (s : State) : State :=
  if !(s.axis n).busy && !s.startNear n && (s.axis n).lastStep.any fun k => s.passed k (s.axisCfg n 0x16 * 500000) then
    s.modAxis n fun a => { a with current := .hold, lastStep := none }
  else s

/-- 1 ms before the start of the next move (R485): IREF goes to I_RUN, and back to hold HOLD_DELAY later if the move is cancelled
(the spec is silent: DESIGN CHOICE, assumption 9). -/
def State.runCurrent (n : Nat) (s : State) : State :=
  when (s.startNear n && (s.axis n).state != .disabled) (State.modAxis n fun a => { a with current := .run, lastStep := some (a.lastStep.getD s.ticks) }) s

/-! ### Commands -/

/-- AXIS_TARGET (R479). -/
def execAxisTarget (w : Writer) (n : Fin 8) (v : List Byte) (s : State) : Host.Outcome State Fault Refusal :=
  .next ((s.targetRow w n.val v).gateWatch n.val)

/-- MOVE_START (R477, R479). -/
def execMoveStart (n : Fin 8) (s : State) : Host.Outcome State Fault Refusal := .next ((s.hostStart n.val).gateWatch n.val)

/-- MOVE_END (R475). -/
def execMoveEnd (n : Fin 8) (inputs : Fin 8) (s : State) : Host.Outcome State Fault Refusal :=
  .next ((s.endMove n.val inputs.val).gateWatch n.val)

/-- GATE_MOVE_START (R489). -/
def execGateMoveStart (n : Fin 8) (s : State) : Host.Outcome State Fault Refusal := .next ((s.gateStart n.val).gateWatch n.val)

/-- PROFILE_REPLAN (R480, R481). -/
def execProfileReplan (n : Fin 8) (s : State) : Host.Outcome State Fault Refusal := .next ((s.replan n.val).gateWatch n.val)

/-- AXIS_STOP (R497, value 1). -/
def execAxisStop (w : Writer) (n : Fin 8) (s : State) : Host.Outcome State Fault Refusal := .next ((s.axisCommandRow w n.val 1).gateWatch n.val)

/-- AXIS_HOME (R497, value 2). -/
def execAxisHome (w : Writer) (n : Fin 8) (s : State) : Host.Outcome State Fault Refusal := .next ((s.axisCommandRow w n.val 2).gateWatch n.val)

/-- AXIS_CLEAR (R497, value 3). -/
def execAxisClear (w : Writer) (n : Fin 8) (s : State) : Host.Outcome State Fault Refusal := .next ((s.axisCommandRow w n.val 3).gateWatch n.val)

/-- AXIS_HOMED (R483): the home point lies `after` steps back. -/
def execAxisHomed (n : Fin 8) (after : Nat) (inputs : Fin 8) (s : State) : Host.Outcome State Fault Refusal :=
  .next ((s.homed n.val after inputs.val).gateWatch n.val)

/-- HOMING_FAILED (R484). -/
def execHomingFailed (n : Fin 8) (inputs : Fin 8) (s : State) : Host.Outcome State Fault Refusal :=
  .next ((s.homingChecked n.val inputs.val).gateWatch n.val)

/-- LIMIT_REACHED (R488). -/
def execLimitReached (n : Fin 8) (positive : Bool) (inputs : Fin 8) (s : State) : Host.Outcome State Fault Refusal :=
  .next ((s.limitHit n.val positive inputs.val).gateWatch n.val)

/-- CURRENT_BOOSTED (R486): the filtered load. -/
def execCurrentBoosted (n : Fin 8) (load : Nat) (s : State) : Host.Outcome State Fault Refusal :=
  .next ((s.boostStep n.val load).gateWatch n.val)

/-- STALL_DETECTED (R486). -/
def execStallDetected (n : Fin 8) (s : State) : Host.Outcome State Fault Refusal := .next ((s.stalled n.val).gateWatch n.val)

/-- AXIS_STANDSTILL (R475). -/
def execAxisStandstill (n : Fin 8) (inputs : Fin 8) (s : State) : Host.Outcome State Fault Refusal :=
  .next ((s.standstill n.val inputs.val).gateWatch n.val)

/-- HOLD_CURRENT (R485). -/
def execHoldCurrent (n : Fin 8) (s : State) : Host.Outcome State Fault Refusal := .next (s.holdCurrent n.val)

/-- RUN_CURRENT_RESTORE (R485). -/
def execRunCurrentRestore (n : Fin 8) (s : State) : Host.Outcome State Fault Refusal :=
  .next ((s.runCurrent n.val).gateWatch n.val)

/-- HOME_SWITCH_REACHED (R482). -/
def execHomeSwitchReached (n : Fin 8) (inputs : Fin 8) (s : State) : Host.Outcome State Fault Refusal :=
  .next ((s.homeReached n.val inputs.val).gateWatch n.val)

end Sys2Proof.Machine
end

