-- ==== Sys2Proof/Machine/Limited.lean ====
section
/-!
DEFINITION. Write-limited parameters and the change record (R579 to R582).
-/

namespace Sys2Proof.Machine

/-- The budget of a parameter (R579), by its PARAM of R582. -/
def budget (param : Nat) : Nat :=
  match param with
  | 1 => 16 | 2 => 4 | 3 => 3 | 4 => 32 | _ => 0

/-- Units spent of a parameter: its entries in the change record (R580). -/
def State.spent (param : Nat) (s : State) : Nat := (s.dict.changes.filter fun e => e.param == param).length

/-- Is there no free entry in the change record (R580)? -/
def State.recordFull (s : State) : Bool := decide (512 ≤ s.dict.changes.length)

/-- Is a write-limited write refused with LIMIT_SPENT (R581)? -/
def State.limitSpent (param : Nat) (s : State) : Bool := decide (budget param ≤ s.spent param) || s.recordFull

/-- One entry is written into the change record (R580, R582); a void one has PARAM 0xFF. The 512 fuse entries are never
erased, and a full record takes none. -/
def State.changeEntry (param role port sess : Nat) (value : List Byte) (s : State) : State :=
  if s.recordFull then s
  else { s with dict.changes := s.dict.changes ++ [⟨param, role, port, sess, s.now, (Config.sha384 value).take 8⟩] }

/-- The entry of a write: void where its verification failed (R580). -/
def State.spend (param role port sess : Nat) (value : List Byte) (verified : Bool) (s : State) : State :=
  s.changeEntry (if verified then param else 0xFF) role port sess value

end Sys2Proof.Machine
end

