-- ==== Sys2Proof/Machine/Obs.lean ====
section
/-!
DEFINITION. The checks of a Field Obs (R198 to R201, R205) and its decoding (R199 to R202).
-/

namespace Sys2Proof.Machine

/-- The signal codes of R119. -/
def signalCodes : List Nat :=
  [0x01, 0x02, 0x03, 0x04, 0x11, 0x12, 0x13, 0x14, 0x21, 0x22, 0x23, 0x24, 0x25, 0x31, 0x32, 0x33]

/-- Are the elements of a list all different? -/
def allDifferent : List Nat → Bool
  | [] => true
  | a :: l => !l.contains a && allDifferent l

/-- SYS_SV and NS of each satellite block (R200). -/
def obsSats (b : List Byte) : List (Nat × Nat) :=
  (List.range (field b 8 1)).map fun i => (field b (12 + 7 * i) 1, field b (13 + 7 * i) 1 / 64 + 1)

/-- SIGNAL of signal block `i` (R201). -/
def obsSignal (b : List Byte) (i : Nat) : Nat := field b (12 + 7 * field b 8 1 + 8 * i) 1

/-- The signals of each satellite, from signal block `i` on (R201). -/
def obsGroups (b : List Byte) : Nat → List (Nat × Nat) → List (Nat × List Nat)
  | _, [] => []
  | i, s :: l => (s.1, (List.range s.2).map fun j => obsSignal b (i + j)) :: obsGroups b (i + s.2) l

/-- The Layout row of R205. -/
def obsLayout (b : List Byte) : Bool :=
  let nsat := field b 8 1
  let nsig := field b 9 1
  let sats := obsSats b
  decide (1 ≤ nsat) && decide (nsat ≤ 24) && decide (1 ≤ nsig) && decide (nsig ≤ 37) &&
    decide ((sats.map Prod.snd).sum = nsig) && allDifferent (sats.map Prod.fst) &&
    (obsGroups b 0 sats).all fun g =>
      allDifferent g.2 && g.2.all fun c => signalCodes.contains c && c / 16 == g.1 / 64

/-- The first failing row of R205 for a Field Obs of machine `k` whose uplink slot lies in cycle `c`, `last` being the
EPOCH last accepted; 0 where it passes. -/
def obsCheck (k c : Nat) (last : Option Nat) (b : List Byte) : Nat :=
  let epoch := field b 2 2
  let off := toSigned 32 (field b 4 4)
  firstCase [
    (decide (b.length < 27) || decide (380 < b.length) || b.length != 12 + 7 * field b 8 1 + 8 * field b 9 1, 1),
    (field b 0 1 != 1, 2),
    (field b 1 1 == 0 || decide (128 < field b 1 1) || field b 1 1 != k, 3),
    (!obsLayout b, 4),
    (decide (500000 < off) || decide (off < -500000), 5),
    (epoch != c % 65536 && epoch != (c - 1) % 65536, 6),
    (last == some epoch, 7),
    (match last with
      | some l => decide ((l + 65536 - epoch) % 65536 < 32768)
      | none => false, 8)]

/-- The counter of a row of R205. -/
def obsCounter (row : Nat) : Nat :=
  match row with
  | 3 => 0x284003 | 6 => 0x284004 | 7 => 0x284005 | 8 => 0x284004 | _ => 0x284002

/-! ### Decoding (R199 to R202) -/

/-- A fine value of `w` bits: none where it holds the invalid code (R201). -/
def fineValue (w n : Nat) : Option Int := if n = 2 ^ (w - 1) then none else some (toSigned w n)

/-- Signal block `i` of the satellite block at octet `o` (R200 to R202). -/
def obsDecodeSig (b : List Byte) (o i : Nat) : ObsSig :=
  let q := 12 + 7 * field b 8 1 + 8 * i
  let rough : Int := field b (o + 2) 3
  let lock := field b (q + 6) 1
  { signal := field b q 1, sv := field b o 1 % 64, gloK := field b (o + 1) 1 % 16,
    code := (fineValue 16 (field b (q + 1) 2)).map fun x => (8192 * rough + 32 * x) * 299792458,
    phase := (fineValue 24 (field b (q + 3) 3)).map fun x => (8192 * rough + x) * 299792458,
    rate := toSigned 16 (field b (o + 5) 2) * 100, lock := lock / 16, half := lock.testBit 3, slip := lock.testBit 2,
    cn0 := field b (q + 7) 1 }

/-- The signals of the satellite blocks from block `a` on, the next of their signal blocks being `i`; `n` blocks are left. -/
def obsDecodeSats (b : List Byte) : Nat → Nat → Nat → List ObsSig
  | 0, _, _ => []
  | n + 1, a, i =>
    let ns := field b (13 + 7 * a) 1 / 64 + 1
    ((List.range ns).map fun j => obsDecodeSig b (12 + 7 * a) (i + j)) ++ obsDecodeSats b n (a + 1) (i + ns)

/-- What an accepted Field Obs holds. -/
def obsDecode (b : List Byte) : Obs :=
  let flags := field b 10 1
  { offset := toSigned 32 (field b 4 4), static := flags.testBit 0, steered := flags.testBit 1,
    sigs := obsDecodeSats b (field b 8 1) 0 0 }

/-- LOCK_IND of a lock time in units of 100 ms (R202). -/
def lockInd (t : Nat) : Nat := if t < 10 then 0 else min 15 (Nat.log2 (t / 10) + 1)

end Sys2Proof.Machine
end

