-- ==== Sys2Proof/Machine/Rtk.lean ====
section
/-!
DEFINITION. The Solve engine on one rover (R206 to R217, R220, R742): double differences, the float filter, slips, the search
and the solution states. Where a rule names a computation and gives no formula, Config holds it without a body (assumption 6).
-/

namespace Sys2Proof

open Machine

/-! ### The local frame (R220) -/

/-- A vector of the Earth frame or of a local one. -/
abbrev Vec := Int × Int × Int

/-- Scalar product. -/
def dot (a b : Vec) : Int := a.1 * b.1 + a.2.1 * b.2.1 + a.2.2 * b.2.2

/-- Difference. -/
def vsub (a b : Vec) : Vec := (a.1 - b.1, a.2.1 - b.2.1, a.2.2 - b.2.2)

/-- Sum. -/
def vadd (a b : Vec) : Vec := (a.1 + b.1, a.2.1 + b.2.1, a.2.2 + b.2.2)

/-- Length, rounded down. -/
def vlen (a : Vec) : Nat := Nat.sqrt (dot a a).toNat

/-- The tangent of the geodetic latitude on the GRS80 ellipsoid (a = 6,378,137 m, e² = 0.00669438002290) in 2^-40, for a point in
0.1 mm at distance `p` from the axis: `n` rounds of tan φ = (Z + e² N sin φ) / p. -/
def tanLatitude (p z : Int) : Nat → Int
  | 0 => z * 2 ^ 40 / p
  | n + 1 =>
    let t := tanLatitude p z n
    let w : Int := Nat.sqrt (2 ^ 80 + (100000000000000 - 669438002290) * t * t / 100000000000000).toNat
    (z + 669438002290 * 63781370000 * t / (100000000000000 * w)) * 2 ^ 40 / p

/-- East, north and ellipsoidal up at a point in the Earth frame (0.1 mm), as unit vectors in 2^-30 (R220). -/
def localAxes (r : Vec) : List Vec :=
  let p : Int := max 1 (Nat.sqrt (r.1 * r.1 + r.2.1 * r.2.1).toNat)
  let t := tanLatitude p r.2.2 8
  let h : Int := Nat.sqrt (2 ^ 80 + t * t).toNat
  let sp := t * 2 ^ 30 / h
  let cp := 2 ^ 70 / h
  let sl := r.2.1 * 2 ^ 30 / p
  let cl := r.1 * 2 ^ 30 / p
  [((-sl), cl, 0), ((-sp) * cl / 2 ^ 30, (-sp) * sl / 2 ^ 30, cp), (cp * cl / 2 ^ 30, cp * sl / 2 ^ 30, sp)]

/-- One axis of a local frame. -/
def axisOf (axes : List Vec) (i : Nat) : Vec := axes.getD i (0, 0, 0)

/-- A local vector in the Earth frame. -/
def toEarth (axes : List Vec) (v : Vec) : Vec :=
  let c := fun (f : Vec → Int) => (v.1 * f (axisOf axes 0) + v.2.1 * f (axisOf axes 1) + v.2.2 * f (axisOf axes 2)) / 2 ^ 30
  (c fun a => a.1, c fun a => a.2.1, c fun a => a.2.2)

/-- The sine of whole degrees from 0 to 30, in 2^-30: what 0x2810 may hold. -/
def sineDegrees (d : Nat) : Int :=
  [0, 18739379, 37473049, 56195305, 74900443, 93582766, 112236583, 130856211, 149435979, 167970228, 186453311,
   204879599, 223243478, 241539355, 259761657, 277904834, 295963357, 313931728, 331804471, 349576144, 367241333,
   384794656, 402230767, 419544355, 436730145, 453782903, 470697435, 487468587, 504091252, 520560366, 536870912].getD d 536870912

/-! ### Settings of the engine (R225) -/

/-- 0x2810 to 0x281A as the engine uses them. -/
structure SolveSet where
  mask      : Nat
  cn0       : Nat
  codeSigma : Nat
  phaseSigma : Nat
  accH      : Nat
  accV      : Nat
  baseline  : Nat
  iono      : Nat
  gate      : Nat
  resid     : Nat

/-! ### Observations of both ends (R202, R206 to R208) -/

/-- A signal both ends observe: the rover's, the base's ranges at the rover's instant in 2^-29 mm, MULTIPATH of the base, carrier
in Hz, position of the satellite (mm) and the sine of its elevation at the origin (2^-30). -/
structure Common where
  sig   : ObsSig
  code  : Option Int
  phase : Option Int
  multi : Bool
  hz    : Int
  sat   : Vec
  sine  : Int

/-- The key of a signal of a satellite. -/
def ObsSig.key (x : ObsSig) : Nat := x.signal * 256 + x.sv

/-- The range rate of a base record in 2^-29 mm a second: −Doppler × wavelength. -/
def baseRate (m : MeasRec) : Int := (-m.doppler) * 299792458 * 2 ^ 29 / max 1 m.carrier

/-- What the base observed of a signal, carried forward by `ns` at its carrier phase rate (R206, R207): code and carrier range. -/
def baseRanges (ns : Int) (m : MeasRec) : Option Int × Option Int :=
  let d := baseRate m * ns / 1000000000
  (if m.prValid then some (m.w1 * 512000 + d) else none,
   if m.cpValid then some (m.phase * 299792458 * 1000 * 2 ^ 13 / max 1 m.carrier + d) else none)

/-- The signals that enter the double differences (R208): valid at the rover, in the base observables for the same satellite
and code, high and strong enough. One whose satellite's ephemeris is not known has no elevation and stays out (DEDUCED,
assumption 22). `ns` is the time from the base epoch to the rover's measurements, `at_` the epoch in TAI ns. -/
def commonSignals (p : SolveSet) (ref : Vec) (eph : Nat → Nat → Option (List Byte)) (at_ : Nat) (ns : Int) (base : List MeasRec)
    (o : Obs) : List Common :=
  let up := axisOf (localAxes ref) 2
  o.sigs.filterMap fun x =>
    match base.find? fun m => m.signal == x.signal && m.sv == x.sv, eph x.signal x.sv with
    | some m, some e =>
      let sat := Config.satPosition e at_
      let d := vsub (10 * sat.1, 10 * sat.2.1, 10 * sat.2.2) ref
      let sine := dot d up / max 1 (vlen d)
      let b := baseRanges ns m
      if (x.code.isSome || x.phase.isSome) && decide (sineDegrees p.mask ≤ sine) && decide (4 * p.cn0 ≤ x.cn0) then
        some ⟨x, b.1, b.2, m.multipath, m.carrier, sat, sine⟩
      else none
    | _, _ => none

/-- Carrier range of the rover less that of the base, where both are valid. -/
def Common.diff (c : Common) : Option Int := c.sig.phase.bind fun a => c.phase.map fun b => a - b

/-- The same for the code. -/
def Common.codeDiff (c : Common) : Option Int := c.sig.code.bind fun a => c.code.map fun b => a - b

/-- The pivot of a signal code (R208): the highest satellite with valid phase on both sides, the first of equal ones. -/
def pivotOf (signal : Nat) (l : List Common) : Option Common :=
  (l.filter fun c => c.sig.signal == signal && c.diff.isSome).foldl (fun best c => some (match best with
    | none => c
    | some b => if b.sine < c.sine then c else b)) none

/-- σ₀ × (0.5 + 0.5 / sin E) in µm for σ₀ in µm (R209), rounded down. -/
def weighted (sigma : Nat) (sine : Int) : Nat := ((sigma : Int) * (sine + 2 ^ 30) / (2 * max 1 sine)).toNat

/-- The double difference of a signal against its pivot (R208, R209); four times the code deviation where the base signal has
MULTIPATH. -/
def doubleDiff (p : SolveSet) (piv c : Common) : DDiff :=
  let sub := fun (a b : Option Int) => a.bind fun x => b.map fun y => x - y
  { signal := c.sig.signal, sv := c.sig.sv, pivot := piv.sig.sv, hz := c.hz, sine := c.sine,
    code := sub c.codeDiff piv.codeDiff, phase := sub c.diff piv.diff,
    codeSd := weighted (p.codeSigma * 10000) c.sine * (if c.multi then 4 else 1),
    phaseSd := weighted (p.phaseSigma * 1000) c.sine, sat := c.sat, piv := piv.sat }

/-- The double differences of an epoch (R208). -/
def doubleDiffs (p : SolveSet) (l : List Common) : List DDiff :=
  l.filterMap fun c => (pivotOf c.sig.signal l).bind fun piv =>
    if piv.sig.sv = c.sig.sv then none
    else
      let d := doubleDiff p piv c
      if d.code.isSome || d.phase.isSome then some d else none

/-- The key of a double difference. -/
def DDiff.key (d : DDiff) : Nat := d.signal * 256 + d.sv

/-- The satellites in double differences, pivots among them (0x2832.02). -/
def satellitesIn (l : List DDiff) : List Nat :=
  (l.flatMap fun d => [svKey d.signal d.sv, svKey d.signal d.pivot]).eraseDups

/-! ### The filter's states and covariance (R210) -/

/-- Label of an ambiguity, and of the ionospheric delay of a satellite. -/
def ambLabel (key : Nat) : Nat := 0x20000 + key

/-- See `ambLabel`. -/
def ionoLabel (sat : Nat) : Nat := 0x10000 + sat

/-- The value of a state; 0 where it is not open. -/
def Filter.value (f : Filter) (label : Nat) : Int := ((f.states.find? fun x => x.1 == label).map Prod.snd).getD 0

/-- Is a state open? -/
def Filter.open_ (f : Filter) (label : Nat) : Bool := f.states.any fun x => x.1 == label

/-- The covariance of two states. -/
def Filter.covar (f : Filter) (a b : Nat) : Int :=
  match f.states.findIdx? (fun x => x.1 == a), f.states.findIdx? (fun x => x.1 == b) with
  | some i, some j => (f.cov.getD i []).getD j 0
  | _, _ => 0

/-- A new state as a combination of the old ones, with what is added to its value. -/
structure Row where
  label : Nat
  combo : List (Nat × Int)
  add   : Int

/-- A state that stays as it is. -/
def Row.same (label : Nat) : Row := ⟨label, [(label, 1)], 0⟩

/-- The filter with new states, linear in the old ones; `noise` is added to their covariance. -/
def Filter.linear (rows : List Row) (noise : Nat → Nat → Int) (f : Filter) : Filter :=
  { f with
    states := rows.map fun r => (r.label, (r.combo.map fun x => x.2 * f.value x.1).sum + r.add),
    cov := rows.map fun r => rows.map fun q =>
      (r.combo.flatMap fun x => q.combo.map fun y => x.2 * y.2 * f.covar x.1 y.1).sum + noise r.label q.label }

/-- Process noise of one epoch by labels (R210): an acceleration constant over the epoch, white from epoch to epoch (DESIGN
CHOICE, assumption 22). While STATIC is set the velocity is zero within 1 mm/s. -/
def processNoise (p : SolveSet) (static : Bool) (a b : Nat) : Int :=
  let q : Int := 100 * (if a % 3 = 2 then p.accV else p.accH)
  if 6 ≤ a ∨ 6 ≤ b ∨ a % 3 ≠ b % 3 then 0
  else if static = true then (if a = b then 10000 else 0)
  else if a < 3 ∧ b < 3 then q * q / 4
  else if 3 ≤ a ∧ 3 ≤ b then q * q
  else q * q / 2

/-- The time update by one epoch (R210). -/
def Filter.predict (p : SolveSet) (static : Bool) (f : Filter) : Filter :=
  f.linear (f.states.map fun x =>
    if static = true then (if 3 ≤ x.1 ∧ x.1 < 6 then ⟨x.1, [], 0⟩ else .same x.1)
    else if x.1 < 3 then ⟨x.1, [(x.1, 1), (x.1 + 3, 1)], 0⟩ else .same x.1) (processNoise p static)

/-- The time update by `n` epochs. -/
def Filter.predictBy (p : SolveSet) (static : Bool) : Nat → Filter → Filter
  | 0, f => f
  | n + 1, f => Filter.predictBy p static n (f.predict p static)

/-- The time update to the epoch of a fleet cycle. -/
def Filter.advance (p : SolveSet) (static : Bool) (cycle : Nat) (f : Filter) : Filter :=
  { f.predictBy p static (cycle - f.cycle) with cycle := cycle }

/-- States are closed. -/
def Filter.close (labels : List Nat) (f : Filter) : Filter :=
  f.linear ((f.states.filter fun x => !labels.contains x.1).map fun x => .same x.1) fun _ _ => 0

/-- The float baseline to the origin in µm. -/
def Filter.distance (f : Filter) : Nat := vlen (f.value 0, f.value 1, f.value 2)

/-- Distance to ANT_A in mm (0x2832.05). -/
def Filter.baseline (f : Filter) : Nat := f.distance / 1000

/-- Is the baseline longer than a limit in m? -/
def Filter.beyond (limit : Nat) (f : Filter) : Bool := decide (limit * 1000000 < f.distance)

/-- The ambiguities open, as signal × 256 + satellite. -/
def Filter.ambs (f : Filter) : List Nat := (f.states.filter fun x => decide (0x20000 ≤ x.1)).map fun x => x.1 - 0x20000

/-- The pivot that the ambiguities of a signal code refer to. -/
def Filter.pivot (f : Filter) (signal : Nat) : Option Nat := (f.pivots.find? fun x => x.1 == signal).map Prod.snd

/-- An ambiguity against the pivot of a double difference, as a combination of those open: where the pivot has changed, less
that of the new pivot against the old one; none where they do not give it. -/
def Filter.refer (f : Filter) (d : DDiff) : Option (List (Nat × Int)) :=
  let at_ := fun (sv : Nat) => ambLabel (d.signal * 256 + sv)
  let has := fun (sv : Nat) => f.open_ (at_ sv)
  match f.pivot d.signal with
  | none => none
  | some old =>
    if old = d.pivot then (if has d.sv then some [(at_ d.sv, 1)] else none)
    else if has d.pivot = false then none
    else if d.sv = old then some [(at_ d.pivot, -1)]
    else if has d.sv then some [(at_ d.sv, 1), (at_ d.pivot, -1)]
    else none

/-- Integers against the pivots of new double differences. -/
def Filter.referInts (f : Filter) (l : List DDiff) (set : List (Nat × Int)) : List (Nat × Int) :=
  l.filterMap fun d => (f.refer d).bind fun c =>
    if c.all fun x => set.any fun e => ambLabel e.1 == x.1 then
      some (d.key, (c.map fun x => x.2 * ((set.find? fun e => ambLabel e.1 == x.1).map Prod.snd).getD 0).sum)
    else none

/-- The states that the double differences of an epoch call for (R210): an ionospheric delay per non-pivot satellite where the
baseline exceeds 0x2818, an ambiguity per non-pivot signal with valid phase once they are open; those no longer called for
close, the others go over to the new pivots. -/
def Filter.arrange (p : SolveSet) (amb : Bool) (l : List DDiff) (f : Filter) : Filter :=
  let base := (List.range 7).map Row.same
  let sats := if f.beyond p.iono then (l.map fun d => svKey d.signal d.sv).eraseDups else []
  let iono := sats.map fun x =>
    let n := ionoLabel x
    if f.open_ n then Row.same n else ⟨n, [], Config.startValue l n⟩
  let phases := l.filter fun d => d.phase.isSome
  let ambs := if amb then phases.map fun d =>
      let n := ambLabel d.key
      match f.refer d with
      | some c => ⟨n, c, 0⟩
      | none => ⟨n, [], Config.startValue l n⟩
    else []
  let rows : List Row := base ++ iono ++ ambs
  let fresh := (rows.filter fun r => r.combo.isEmpty).map fun r => r.label
  { f.linear rows (fun (a b : Nat) => if a = b ∧ fresh.contains a then Config.startVariance a else 0) with
    pivots := (phases.map fun d => (d.signal, d.pivot)).eraseDups,
    set := f.referInts phases f.set, news := f.referInts phases f.news }

/-- The measurement update (R209, R210). -/
def Filter.measure (ref : Vec) (l : List DDiff) (f : Filter) : Filter :=
  let axes := localAxes ref
  { f with
    states := f.states.map fun x => (x.1, Config.updateStates ref axes f.states f.cov l x.1),
    cov := f.states.map fun x => f.states.map fun y => Config.updateCov ref axes f.states f.cov l x.1 y.1 }

/-- A filter initialised from the code double differences (R216). -/
def Filter.start (ref : Vec) (cycle : Nat) (l : List DDiff) : Filter :=
  { Filter.empty with
    cycle := cycle, states := (List.range 7).map fun x => (x, Config.codeStates ref l x),
    cov := (List.range 7).map fun x => (List.range 7).map fun y => Config.codeCov ref l x y }

/-! ### Slips (R211) -/

/-- Has the filter an ambiguity that a slip on this signal touches: its own, or as pivot those of its code? -/
def Filter.touches (f : Filter) (key : Nat) : Bool :=
  f.open_ (ambLabel key) || (f.pivot (key / 256) == some (key % 256) && f.ambs.any fun a => a / 256 == key / 256)

/-- The carrier change between two epochs against the mean of their range rates over `ns` (R211), more than half a cycle?
Changes in 2^-29 mm, rates in mm/s. -/
def rateDeparts (hz ns : Int) (a b : Int) (ra rb : Int) : Bool :=
  let d := (b - a) * 2000000000 - (ra + rb) * ns * 2 ^ 29
  decide (2 * d.natAbs * hz > 2000000000 * 2 ^ 29 * 1000 * 299792458)

/-- Slips that a signal shows by itself (R211): SLIP, LOCK_IND fallen, the carrier change against the range rate. -/
def Filter.slipsAlone (f : Filter) (at_ : Int) (hz : Int) (x : ObsSig) : Bool :=
  match f.seen.find? fun e => e.key == x.key with
  | none => x.slip
  | some e =>
    x.slip || e.slip || decide (x.lock < e.lock) ||
      match e.phase, x.phase with
      | some a, some b => rateDeparts hz (at_ - f.at_) a b e.rate x.rate
      | _, _ => false

/-- The change since the previous epoch of a signal's rover-minus-base carrier range. -/
def Filter.change (f : Filter) (c : Common) : Option Int :=
  (f.seen.find? fun e => e.key == c.sig.key).bind fun e => e.diff.bind fun a => c.diff.map fun b => b - a

/-- The change of the double difference of a signal against its pivot. -/
def Filter.ddChange (f : Filter) (l : List Common) (c : Common) : Option Int :=
  (pivotOf c.sig.signal l).bind fun p => (f.change c).bind fun a => (f.change p).map fun b => a - b

/-- The signals of an epoch with a cycle slip (R211). The geometry-free double difference is that of the signal and the
satellite's first other signal without a slip of its own (DESIGN CHOICE, assumption 22). -/
def Filter.slips (f : Filter) (at_ : Int) (l : List Common) : List Nat :=
  let own := (l.filter fun c => f.slipsAlone at_ c.hz c.sig).map fun c => c.sig.key
  let free := fun (c : Common) => !own.contains c.sig.key &&
    (pivotOf c.sig.signal l).all fun p => !own.contains p.sig.key
  let far := l.filter fun c => free c &&
    match l.find? fun d => d.sig.signal != c.sig.signal && svKey d.sig.signal d.sig.sv == svKey c.sig.signal c.sig.sv && free d &&
        (f.ddChange l d).isSome with
    | none => false
    | some d =>
      match f.ddChange l c, f.ddChange l d with
      | some a, some b => decide (50 * 2 ^ 29 < (a - b).natAbs)
      | _, _ => false
  (own ++ far.map fun c => c.sig.key).filter f.touches

/-- The ambiguities that slips touch. -/
def Filter.touched (f : Filter) (slips : List Nat) : List Nat :=
  f.ambs.filter fun a => slips.contains a || slips.any fun k => k / 256 == a / 256 && f.pivot (a / 256) == some (k % 256)

/-- Ambiguities restart as new float states and leave the fixed set (R211, R216). -/
def Filter.restart (keys : List Nat) (f : Filter) : Filter :=
  { f.close (keys.map ambLabel) with
    set := f.set.filter fun e => !keys.contains e.1, news := f.news.filter fun e => !keys.contains e.1 }

/-- What an epoch leaves for the next one's slip tests. -/
def Filter.look (at_ : Int) (o : Obs) (l : List Common) (f : Filter) : Filter :=
  { f with
    at_ := at_,
    seen := o.sigs.map fun x =>
      ⟨x.key, (l.find? fun c => c.sig.key == x.key).bind Common.diff, x.phase, x.rate, x.lock, false⟩ }

/-- An epoch of a time update only: a SLIP it reports is acted on at the next measurement update (DEDUCED, assumption 22). -/
def Filter.noteSlips (o : Obs) (f : Filter) : Filter :=
  { f with seen := f.seen.map fun e => { e with slip := e.slip || o.sigs.any fun x => x.key == e.key && x.slip } }

/-! ### The integer search (R212 to R214, R217) -/

/-- The ambiguities that may be fixed (R212): not those of GLONASS L1OF and L2OF. -/
def Filter.fixable (f : Filter) : List Nat := f.ambs.filter fun a => !isFdma (a / 256)

/-- Does the search run (R213): float horizontal 1-sigma and baseline within their gates? -/
def Filter.searchable (p : SolveSet) (f : Filter) : Bool :=
  decide (f.covar 0 0 + f.covar 1 1 ≤ ((p.gate * 1000) ^ 2 : Nat)) && !f.beyond p.baseline

/-- Is the ratio of a search at least 3.0 (R213)? -/
def Filter.passes (held : List (Nat × Int)) (keys : List Nat) (f : Filter) : Bool :=
  let n := Config.searchNorms f.states f.cov held keys
  decide (3 * n.1 ≤ n.2)

/-- The ratio of a search in 0.1, saturating at 255. -/
def Filter.ratio (held : List (Nat × Int)) (keys : List Nat) (f : Filter) : Nat :=
  let n := Config.searchNorms f.states f.cov held keys
  if n.1 = 0 then 255 else min 255 (10 * n.2 / n.1)

/-- The best integers of a search. -/
def Filter.integers (held : List (Nat × Int)) (keys : List Nat) (f : Filter) : List (Nat × Int) :=
  keys.map fun k => (k, Config.bestInteger f.states f.cov held keys k)

/-- The satellites that ambiguities cover, pivots among them. -/
def Filter.covers (f : Filter) (keys : List Nat) : List Nat :=
  (keys.flatMap fun k => svKey (k / 256) (k % 256) :: ((f.pivot (k / 256)).map fun p => svKey (k / 256) p).toList).eraseDups

/-- The lowest satellite of ambiguities. -/
def lowestOf (l : List DDiff) (keys : List Nat) : Option Nat :=
  ((l.filter fun d => keys.contains d.key).foldl (fun (best : Option DDiff) d => some (match best with
    | none => d
    | some b => if d.sine < b.sine then d else b)) none).map fun d => svKey d.signal d.sv

/-- The search set (R213): the ambiguities of the lowest satellite leave it until the ratio reaches 3.0 or fewer than 5
satellites or 6 ambiguities remain. `n` bounds the rounds. -/
def Filter.searchSet (l : List DDiff) (f : Filter) : Nat → List Nat → Option (List Nat)
  | 0, _ => none
  | n + 1, keys =>
    if (f.covers keys).length < 5 ∨ keys.length < 6 then none
    else if f.passes [] keys then some keys
    else match lowestOf l keys with
      | none => none
      | some low => f.searchSet l n (keys.filter fun k => svKey (k / 256) (k % 256) != low)

/-- The sum of the squares of the fixed carrier residuals of a set, in µm². -/
def Filter.residuals (ref : Vec) (l : List DDiff) (set : List (Nat × Int)) (f : Filter) : List (Nat × Nat) :=
  set.map fun e => (e.1, Config.fixedResidual ref (localAxes ref) f.states f.cov set l e.1)

/-- Is the RMS of the fixed carrier residuals at most 0x281A (R214)? -/
def residualsOk (limit : Nat) (l : List (Nat × Nat)) : Bool :=
  decide ((l.map fun e => e.2 * e.2).sum ≤ l.length * (limit * 1000) ^ 2)

/-- Does the fixed position lie within three float standard deviations of the float one on each axis (R214)? -/
def Filter.near (set : List (Nat × Int)) (f : Filter) : Bool :=
  [0, 1, 2].all fun i => decide ((Config.fixedStates f.states f.cov set i - f.value i) ^ 2 ≤ 9 * f.covar i i)

/-- Is the epoch consistent with the provisional fix (R214)? An ambiguity of the set that is no longer observed leaves no
integer to compare. -/
def Filter.consistent (p : SolveSet) (ref : Vec) (l : List DDiff) (size : Nat) (f : Filter) : Bool :=
  let keys := f.set.map Prod.fst
  f.searchable p && decide (f.set.length = size) && f.passes [] keys && f.integers [] keys == f.set &&
    residualsOk p.resid (f.residuals ref l f.set) && f.near f.set

/-! ### The solution states (R216, R217) -/

/-- What a change of the solution state makes known: a provisional fix opened with so many ambiguities, confirmed, withdrawn for
a cause of R340; the same of provisional newcomers; FIXED lost, with the cause of record 0x4003. -/
inductive SolveFx where
  | opened (n : Nat)
  | confirmed
  | withdrawn (cause n : Nat)
  | newOpened (n : Nat)
  | newConfirmed
  | newWithdrawn (cause n : Nat)
  | lost (cause : Nat)
  deriving DecidableEq, Repr

/-- A solution with its events. -/
abbrev Solved := Solver × List SolveFx

/-- PROVISIONAL with a set of `n` ambiguities falls back to FLOAT (R216). -/
def Solver.withdraw (cause n : Nat) (x : Solver) : Solved :=
  ({ x with solve := .float, count := 0, filter := { x.filter with set := [] } }, [.withdrawn cause n])

/-- The `n` provisional newcomers of R217 are withdrawn, if there are any. -/
def Solver.dropNews (cause n : Nat) (x : Solver) : Solved :=
  if x.newCount = 0 then (x, [])
  else ({ x with newCount := 0, filter := { x.filter with news := [] } }, [.newWithdrawn cause n])

/-- FIXED falls back to FLOAT (R216); `trace` is the cause for newcomers of R340. -/
def Solver.lose (cause trace : Nat) (x : Solver) : Solved :=
  let y := x.dropNews trace x.filter.news.length
  ({ y.1 with solve := .float, fixAge := 0, filter := { y.1.filter with set := [] } }, y.2 ++ [.lost cause])

/-- The filter is cleared: NONE (R216). -/
def Solver.clear (x : Solver) : Solved :=
  (Solver.init, (if x.solve = .provisional then [.withdrawn 5 x.filter.set.length] else []) ++ (x.dropNews 5 x.filter.news.length).2)

/-- A missing epoch (R214, R216); `limit` is 0x281B. -/
def Solver.missing (limit : Nat) (x : Solver) : Solved :=
  let y := { x with gap := x.gap + 1, sats := 0 }
  match y.solve with
  | .provisional => y.withdraw 3 y.filter.set.length
  | .fixed => if limit < y.gap then y.lose 3 3 else y.dropNews 3 y.filter.news.length
  | _ => (y, [])

/-- The newcomers of R217 while FIXED: opened by a search with ratio 3.0, then the same integers at four more epochs
(DEDUCED from R32 and R36, assumption 22). -/
def Solver.newcomers (p : SolveSet) (size : Nat) (x : Solver) : Solved :=
  let f := x.filter
  if x.newCount = 0 then
    let keys := f.fixable.filter fun k => !f.set.any fun e => e.1 == k
    if !keys.isEmpty && f.searchable p && f.passes f.set keys then
      ({ x with newCount := 1, filter := { f with news := f.integers f.set keys } }, [.newOpened keys.length])
    else (x, [])
  else
    let keys := f.news.map Prod.fst
    if f.searchable p && decide (f.news.length = size) && f.passes f.set keys && f.integers f.set keys == f.news then
      if x.newCount < 4 then ({ x with newCount := x.newCount + 1 }, [])
      else ({ x with newCount := 0, filter := { f with set := f.set ++ f.news, news := [] } }, [.newConfirmed])
    else
      ({ x with newCount := 0, filter := { f with news := [] } }, [.newWithdrawn 2 size])

/-- FIXED at an epoch (R216): the tests that lose the fix, then the newcomers. -/
def Solver.held (p : SolveSet) (ref : Vec) (l : List DDiff) (newSize : Nat) (x : Solver) : Solved :=
  let f := x.filter
  let r := f.residuals ref l f.set
  if !residualsOk p.resid r then
    let bad := (r.filter fun e => decide (p.resid * 1000 < e.2)).map Prod.fst
    let y := x.lose 0 2
    ({ y.1 with filter := y.1.filter.restart bad }, y.2)
  else if (f.covers (f.set.map Prod.fst)).length < 4 then x.lose 1 2
  else if f.beyond p.baseline then x.lose 2 2
  else Solver.newcomers p newSize { x with fixAge := min 65535 (x.fixAge + 1) }

/-- "Field Obs accepted" with at least four satellites in common (R216). The slips of the epoch have been acted on: `slipSet`
says that one met the provisional set, `size` and `newSize` how many ambiguities it and the newcomers had before. -/
def Solver.event (p : SolveSet) (ref : Vec) (cycle : Nat) (l : List DDiff) (slipSet slipNews : Bool) (size newSize : Nat)
    (x : Solver) : Solved :=
  let phased := (satellitesIn (l.filter fun d => d.phase.isSome)).length
  let use := fun (amb : Bool) => if amb then l else l.map fun (d : DDiff) => { d with phase := none }
  let step := fun (amb : Bool) => { x with filter := (x.filter.arrange p amb l).measure ref (use amb) }
  match x.solve with
  | .none => ({ x with solve := .code, filter := Filter.start ref cycle l }, [])
  | .code => if 5 ≤ phased then ({ step true with solve := .float }, []) else (step false, [])
  | .float =>
    let y := step true
    let f := y.filter
    if f.searchable p then
      match f.searchSet l (f.fixable.length + 1) f.fixable with
      | some keys =>
        ({ y with solve := .provisional, count := 1, filter := { f with set := f.integers [] keys } }, [.opened keys.length])
      | none => (y, [])
    else (y, [])
  | .provisional =>
    let y := step true
    if slipSet then y.withdraw 4 size
    else if y.filter.consistent p ref l size then
      if 4 ≤ y.count then ({ y with solve := .fixed, count := 0, fixAge := 0 }, [.confirmed])
      else ({ y with count := y.count + 1 }, [])
    else y.withdraw 2 size
  | .fixed =>
    let y := step true
    let z := if slipNews then y.dropNews 4 newSize else (y, [])
    let w := z.1.held p ref l newSize
    (w.1, z.2 ++ w.2)

/-- The base observables that serve an epoch, the epoch's instant in TAI ns, and the time from theirs to the rover's
measurements. -/
structure BaseView where
  recs : List MeasRec
  at_  : Nat
  ns   : Int

/-- The outcome of an epoch: the solution, its events, slips counted, satellites in common. -/
structure EpochOut where
  solver : Solver
  fx     : List SolveFx
  slips  : Nat
  common : Nat

/-- An epoch with base observables (R206 to R217): below four satellites in common a time update only. -/
def Solver.epoch (p : SolveSet) (ref : Vec) (eph : Nat → Nat → Option (List Byte)) (cycle : Nat) (b : BaseView) (o : Obs)
    (x : Solver) : EpochOut :=
  let l := commonSignals p ref eph b.at_ b.ns b.recs o
  let dd := doubleDiffs p l
  let n := (satellitesIn dd).length
  let at_ : Int := b.at_ + o.offset
  let f := x.filter.advance p o.static cycle
  let slips := f.slips at_ l
  let hit := f.touched slips
  let slipSet := f.set.any fun e => hit.contains e.1
  let slipNews := f.news.any fun e => hit.contains e.1
  let y : Solver := { x with gap := 0, sats := n, filter := f.restart hit }
  let z := if n < 4 then
      (if slipSet = true ∧ x.solve = .provisional then y.withdraw 4 f.set.length else if slipNews then y.dropNews 4 f.news.length else (y, []))
    else y.event p ref cycle dd slipSet slipNews f.set.length f.news.length
  { solver := { z.1 with filter := z.1.filter.look at_ o l }, fx := z.2, slips := slips.length, common := n }

/-- An epoch without base observables (R206): the time update only. -/
def Solver.timeOnly (p : SolveSet) (cycle : Nat) (o : Obs) (x : Solver) : Solver :=
  { x with gap := 0, sats := 0, filter := (x.filter.advance p o.static cycle).noteSlips o }

/-! ### Results -/

/-- Ambiguities in the confirmed fixed set (0x2832.03). -/
def Solver.ambFixed (x : Solver) : Nat := if x.solve = .fixed then x.filter.set.length else 0

/-- Ambiguities held float (0x2832.04). -/
def Solver.ambFloat (x : Solver) : Nat := x.filter.ambs.length - x.ambFixed

/-- A state and a covariance of the confirmed solution (R218): with the held integers in FIXED, else the float one. -/
def Solver.result (x : Solver) (label : Nat) : Int :=
  if x.solve = .fixed then Config.fixedStates x.filter.states x.filter.cov x.filter.set label else x.filter.value label

/-- See `Solver.result`. -/
def Solver.resultCov (x : Solver) (a b : Nat) : Int :=
  if x.solve = .fixed then Config.fixedCov x.filter.states x.filter.cov x.filter.set a b else x.filter.covar a b

/-- STATUS of a solution state: PROVISIONAL reads FLOAT (R218). -/
def SolveState.status : SolveState → Nat
  | .none => 0 | .code => 1 | .float => 2 | .provisional => 2 | .fixed => 3

/-- A base epoch seen from a rover's measurements at RX_OFFSET after epoch `t` (R206, R207). -/
def BaseEpoch.view (t : Nat) (offset : Int) (b : BaseEpoch) : BaseView :=
  ⟨b.recs, FT.ns (cycleInstant t), (t - b.cycle : Nat) * 100000000 + offset⟩

end Sys2Proof
end

