-- ==== Sys2Proof/Machine/SolveCore.lean ====
section
/-!
DEFINITION. The Solve engine of the machines (R206 to R218, R742): base observables, counters, records, missing epochs.
-/

namespace Sys2Proof.Machine

/-! ### Provisional fixes (R32 to R37, R214, R217, R218) -/

/-- A provisional fix is opened: counters, a speculation and its trace record. -/
def State.openFix (k n : Nat) (s : State) : State :=
  let m := s.machine k
  (((s.modMachine k fun m => { m with provOpened := (m.provOpened + 1) % 2 ^ 32 }).count 0x500004).traceSpec 1 k
    (m.lastEpoch.getD 0) 0 n)

/-- A provisional fix is confirmed: counters. -/
def State.confirmFix (k : Nat) (s : State) : State :=
  (s.modMachine k fun m => { m with provConfirmed := (m.provConfirmed + 1) % 2 ^ 32 }).count 0x500005

/-- A provisional fix is withdrawn for a cause of R340: counters, purge of its speculation, trace record. -/
def State.withdrawFix (k spec cause n : Nat) (s : State) : State :=
  let m := s.machine k
  (((s.modMachine k fun m => { m with provWithdrawn := (m.provWithdrawn + 1) % 2 ^ 32 }).count 0x500006).purge
    spec).traceWithdrawn 1 k (m.lastEpoch.getD 0) 0 n 0x3FFF cause

/-- A new speculation number. -/
def State.newSpec (s : State) : Nat × State :=
  (s.sched.specNext, { s with sched.specNext := s.sched.specNext + 1 })

/-! ### The engine's solution and its events (R216, R217) -/

/-- Settings 0x2810 to 0x281A in force (R225). -/
def State.solveSet (s : State) : SolveSet :=
  ⟨s.eff 0x281000, s.eff 0x281100, s.eff 0x281200, s.eff 0x281300, s.eff 0x281400, s.eff 0x281500, s.eff 0x281700,
    s.eff 0x281800, s.eff 0x281900, s.eff 0x281A00⟩

/-- What an event of machine `k`'s solution does outside it (R37, R216, R217): counters, the speculation, record 0x4003. -/
def State.solveFx (k : Nat) (e : SolveFx) (s : State) : State :=
  match e with
  | .opened n =>
    let x := s.newSpec
    (x.2.modMachine k fun m => { m with spec := x.1 }).openFix k n
  | .confirmed => (s.modMachine k fun m => { m with spec := 0 }).confirmFix k
  | .withdrawn cause n => (s.withdrawFix k (s.machine k).spec cause n).modMachine k fun m => { m with spec := 0 }
  | .newOpened n =>
    let x := s.newSpec
    (x.2.modMachine k fun m => { m with newSpec := x.1 }).openFix k n
  | .newConfirmed => (s.modMachine k fun m => { m with newSpec := 0 }).confirmFix k
  | .newWithdrawn cause n =>
    (s.withdrawFix k (s.machine k).newSpec cause n).modMachine k fun m => { m with newSpec := 0 }
  | .lost cause => (s.count 0x284009).record 0x4003 [.u8 k, .u8 cause]

/-- Machine `k` takes a solution and its events. -/
def State.takeSolved (k : Nat) (x : Solved) (s : State) : State :=
  each x.2 (State.solveFx k) (s.modMachine k fun m => { m with rtk := x.1 })

/-- The filter is cleared (R216): any provisional fix is withdrawn, counter, record 0x4006 with its cause. A data error counts
and is recorded in every state, NONE included (R41; DEDUCED, assumption 22). -/
def State.clearFilter (k cause : Nat) (s : State) : State :=
  if (s.machine k).rtk.solve = .none ∧ cause ≠ 2 then s
  else ((s.takeSolved k (s.machine k).rtk.clear).count 0x284008).record 0x4006 [.u8 k, .u8 cause]

/-! ### Records (R218 to R220, R742) -/

/-- A quantity in units of `u` to the nearest whole unit, halves up (DESIGN CHOICE, assumption 22). -/
def nearest (u x : Int) : Int := (x + u / 2) / u

/-- A record of states and covariance by label (R219): positions in µm, velocities in µm per 100 ms. -/
def PosRec.ofStates (k status epoch nsat : Nat) (v : Nat → Int) (c : Nat → Nat → Int) : PosRec :=
  { PosRec.none_ k epoch with
      status := status, east := nearest 1000 (v 0), north := nearest 1000 (v 1), up := nearest 1000 (v 2),
      velE := nearest 100 (v 3), velN := nearest 100 (v 4), velU := nearest 100 (v 5),
      sigH := min 65535 (nearest 1000 (Nat.sqrt (c 0 0 + c 1 1).toNat)).toNat,
      sigU := min 65535 (nearest 1000 (Nat.sqrt (c 2 2).toNat)).toNat, nsat := nsat }

/-- The record of a time update only (R742). -/
def predicted (k epoch : Nat) (x : Solver) : PosRec := PosRec.ofStates k 4 epoch 0 x.filter.value x.filter.covar

/-- The record after a measurement update: the float solution, or the held integers' one when FIXED (R218, R224). RATIO is
that of a search over the fixed set at this epoch (DESIGN CHOICE, assumption 22). -/
def solvedRecord (k epoch limit : Nat) (aged newFix : Bool) (x : Solver) : PosRec :=
  if x.solve = .none then .none_ k epoch
  else
    let r := PosRec.ofStates k x.solve.status epoch x.sats x.result x.resultCov
    { r with aged := aged, long := x.filter.beyond limit, newFix := newFix,
             ratio := if x.solve = .fixed then x.filter.ratio [] (x.filter.set.map Prod.fst) else 0,
             age := if x.solve = .fixed then x.fixAge else 0 }

/-! ### Base observables (R206) -/

/-- The later of two base epochs. -/
def laterBase (best : Option BaseEpoch) (b : BaseEpoch) : Option BaseEpoch :=
  match best with
  | none => some b
  | some x => if x.cycle < b.cycle then some b else some x

/-- The base epoch that serves epoch `t` (R206): itself, or the latest no more than 0x2816 older. -/
def State.baseFor (t : Nat) (s : State) : Option BaseEpoch :=
  (s.pipe.bases.filter fun b => decide (b.cycle ≤ t) && decide (t - b.cycle ≤ s.eff 0x281600)).foldl laterBase none

/-- The newest released base epoch. -/
def State.newestBase (s : State) : Option Nat := (s.pipe.bases.foldl laterBase none).map fun b => b.cycle

/-- No base epoch serves: the counter, and one record for each run of such epochs (R206). The age of the newest base epoch
is a free value where there has been none. -/
def State.baseMissing (k t : Nat) (s : State) : State :=
  let age := match s.newestBase with
    | some b => (t - b) * 100000000
    | none => s.free
  let s := s.count 0x28400B
  if (s.machine k).stale then s
  else ((s.modMachine k fun m => { m with stale := true }).record 0x4005 [.ft (cycleInstant t), .u64 age]).drawn

/-- The ephemeris in use of a satellite. -/
def State.ephOf (s : State) (signal sv : Nat) : Option (List Byte) := (s.ephemeris signal sv).used

/-! ### One Field Obs (R181, R206 to R218) -/

/-- A committed antenna position, X, Y, Z in 0.1 mm: 0 ANT_A, 1 ANT_B. -/
def State.antPosition (p : Nat) (s : State) : Int × Int × Int :=
  let d := fun i => (s.shownVal ((0x2802 + p) * 256 + i)).int
  (d 1, d 2, d 3)

/-- The committed ANT_A position, if there is one (R181): the origin of every machine position. -/
def State.refPosition (s : State) : Option (Int × Int × Int) :=
  if (s.shownNat 0x280700).testBit 0 then some (s.antPosition 0) else none

/-- The epoch of machine `k` with base observables: its record, and the state after it. -/
def State.solveWith (k : Nat) (ref : Vec) (w : SolveWait) (b : BaseEpoch) (s : State) : PosRec × State :=
  let epoch := w.cycle % 65536
  let was := (s.machine k).rtk.solve
  let r := (s.machine k).rtk.epoch s.solveSet ref s.ephOf w.cycle (b.view w.cycle w.obs.offset) w.obs
  let s := (s.takeSolved k (r.solver, r.fx)).countN 0x284007 r.slips
  if r.common < 4 then
    if was = .none then (.none_ k epoch, s) else (predicted k epoch r.solver, s.count 0x284006)
  else
    (solvedRecord k epoch (s.eff 0x281700) (b.cycle != w.cycle) (r.solver.solve == .fixed && was != .fixed) r.solver, s)

/-- The record of an epoch and the filter after it (R181, R206, R216). -/
def State.solveObs (k : Nat) (w : SolveWait) (s : State) : PosRec × State :=
  let epoch := w.cycle % 65536
  match s.baseFor w.cycle with
  | none =>
    let s := s.baseMissing k w.cycle
    let x := (s.machine k).rtk
    if x.solve = .none then (.none_ k epoch, s)
    else
      let y := x.timeOnly s.solveSet w.cycle w.obs
      (predicted k epoch y, s.modMachine k fun m => { m with rtk := y })
  | some b =>
    let s := when (b.cycle != w.cycle) (State.count 0x28400A) (s.modMachine k fun m => { m with stale := false })
    match s.refPosition with
    | none => (.none_ k epoch, s)
    | some ref => s.solveWith k ref w b

/-- SOLVE completes for machine `k`'s waiting Field Obs: the record goes to COMPOSE unless its stand-in has taken its
place (R238). -/
def State.solveDone (k : Nat) (s : State) : State :=
  match (s.machine k).wait with
  | none => s
  | some w =>
    let x := s.solveObs k w
    let s := (x.2.modMachine k fun m => { m with wait := none }).stageDone 3
      (FT.cycle w.end_) (FT.addNs w.end_ 4000000)
    if w.standIn then s else s.sendPosition k w x.1 false

/-! ### Missing epochs and timeouts (R214 to R216) -/

/-- Did an exchange whose slot ended at `end_` bring an accepted Field Obs? -/
def Machine.observedAt (end_ : FT) (m : Machine) : Bool :=
  m.wait.any (fun w => w.end_ == end_) || m.fixes.any (fun f => f.end_ == end_)

/-- A missing epoch of machine `k` (R214, R216). -/
def State.epochMissing (k : Nat) (s : State) : State :=
  s.takeSolved k ((s.machine k).rtk.missing (s.eff 0x281B00))

/-- The evaluation of R215 at tᵤ + 4 ms of the slot in which an exchange passed: whether it was one was decided in that slot. -/
def State.missingEpoch (k : Nat) (s : State) : State :=
  match (s.machine k).exchange with
  | none => s
  | some e =>
    if FT.lt s.now (FT.addNs e 4000000) then s
    else
      let m := s.machine k
      let s := s.modMachine k fun m => { m with exchange := none }
      if m.observedAt e then s else s.epochMissing k

/-- The test of 0x281C at a slot 0 (R216). -/
def State.filterTimeout (k : Nat) (s : State) : State :=
  let m := s.machine k
  when (m.rtk.solve != .none && FT.le (FT.addNs m.lastObs (s.eff 0x281C00 * 1000000000)) s.now) (State.clearFilter k 0) s

end Sys2Proof.Machine
end

