-- ==== Sys2Proof/Machine/Errors.lean ====
section
/-!
DEFINITION. Memory errors (R41 to R44, R264, R647): corrected ones, uncorrectable ones in data and in control.
-/

namespace Sys2Proof.Machine

/-- An uncorrectable error strikes reservation entry `i` (R264): toward the blocking side. The withdrawal of a leg for this
reason has no CAUSE of R340, so its trace record holds a free value there (assumption 5). -/
def State.entryStruck (i : Nat) (s : State) : State :=
  match (s.tracks.entry i).state with
  | .free => s
  | .speculative => s.drawn.withdrawLegs (s.free % 16) fun l => l.entries.contains i
  | .confirmed => s.holdEntries [i] 5
  | .held => s.holdStruck i

/-- The host fields of task `i` as the latest save has them (R302, R306); an entry that it does not hold keeps its own. -/
def State.savedHost (i : Nat) (s : State) : Task :=
  let t := s.task i
  let x := SMap.getD .blank i s.tasks.saved
  if x.state = .empty then t
  else { t with prio := x.prio, kind := x.kind, startNode := x.startNode, endNode := x.endNode, classes := x.classes,
                expire := x.expire, release := x.release, work := x.work, deadline := x.deadline, energy := x.energy,
                tag := x.tag, param := x.param }

/-- An uncorrectable error strikes task `i` (R42, R306): its host fields are those of the latest save; one that a machine holds
is unassigned without spending a retry, any other keeps its state. Every entry but an EMPTY one is counted and recorded (R41;
DEDUCED, assumption 23). -/
def State.taskStruck (i : Nat) (s : State) : State :=
  let t := s.task i
  if t.state = .empty then s
  else
    let held := t.state == .awarded || t.state == .running
    let h := s.savedHost i
    let s := when held (State.revoke i) s
    let s := s.putTask i (if held then { h with state := .open_, machine := 0, route := [], timer := none } else h)
    (s.count 0x2E4007).record 0x5021 [.u16 i, .u8 t.machine, .u8 4, .u8 t.retries]

/-- An uncorrectable error in data (R42): 0 a reservation entry, 1 a task, 2 a machine's filter or covariance. -/
def State.dataStruck (kind item : Nat) (s : State) : State :=
  match kind with
  | 0 => s.entryStruck (item % resEntries)
  | 1 => s.taskStruck (item % 1024)
  | _ => s.clearFilter (item % 128 + 1) 2

/-- UNIT_FAULT's items (R743): `part` names the core or clock for causes 0, 1, 3 and 4, `addr` the address for 0, 1, 2
and 5. -/
def State.controlStruck (cause part addr : Nat) (s : State) : State :=
  s.unitFault cause (if cause = 2 ∨ cause = 5 then 0xFF else part) (if cause = 3 ∨ cause = 4 then 0 else addr)

/-- A single-bit error is corrected (R647). -/
def State.corrected (ddr : Bool) (s : State) : State := s.count (0x3F5003 + b2n ddr)

/-- UNCORRECTABLE_DATA_ERROR (R42). -/
def execUncorrectableDataError (kind : Fin 3) (item : Nat) (s : State) : Host.Outcome State Fault Refusal :=
  .next (s.dataStruck kind.val item)

/-- UNIT_FAULT (R43, R44). -/
def execUnitFault (cause : Fin 6) (part addr : Nat) (s : State) : Host.Outcome State Fault Refusal :=
  .next (s.controlStruck cause.val part addr)

/-- ECC_CORRECTED (R647): a foreground access corrects a word of SRAM, or of LPDDR4X. -/
def execEccCorrected (ddr : Bool) (s : State) : Host.Outcome State Fault Refusal := .next (s.corrected ddr)

end Sys2Proof.Machine
end

