-- ==== Sys2Proof/Machine/Launch.lean ====
section
/-!
DEFINITION. COMPOSE and LAUNCH (R244 to R251, R364 to R370): the per-cycle units, their release into the slots of the
next cycle, and the frame of every slot.
-/

namespace Sys2Proof.Machine

/-! ### COMPOSE: the per-cycle units (R244, R245, R316, R368) -/

/-- The segment of the earliest HELD entry of cause GATE or DATA (R368); 0xFFFF none. -/
def revokeSegment (l : List (Nat × Resv)) : Nat :=
  match l.find? fun e => e.2.state == .held && (e.2.cause == 5 || e.2.cause == 6) with
  | some e => e.2.seg
  | none => 0xFFFF

/-- Does an entry go into a grant unit with BASE `base` (R368)? -/
def granted (base : Nat) (e : Resv) : Bool :=
  decide (msDiff e.start base ≤ 0xFFFE) &&
    ((e.state == .confirmed && msAfter e.stop base) || (e.state == .held && e.cause == 1))

/-- The six octets of an ENTRY (R368). -/
def grantEntry (base : Nat) (e : Resv) : List Byte :=
  leBytes 2 e.seg ++ leBytes 2 (max 0 (msDiff e.start base)).toNat ++
    leBytes 2 (if e.state = .held then 0xFFFF else min 0xFFFE (msDiff e.stop base).toNat)

/-- Insert an entry by WIN_START, then by its number. -/
def insertByStart (base : Nat) (x : Nat × Resv) : List (Nat × Resv) → List (Nat × Resv)
  | [] => [x]
  | y :: l => if msDiff x.2.start base < msDiff y.2.start base then x :: y :: l else y :: insertByStart base x l

/-- A machine's entries by WIN_START, then by number. -/
def State.entriesByStart (k base : Nat) (s : State) : List (Nat × Resv) :=
  (s.tracks.res.filter fun e => e.2.machine == k).foldl (fun l x => insertByStart base x l) []

/-- The body of a grant unit (R368). -/
def State.grantBody (k base : Nat) (s : State) : List Byte :=
  let l := s.entriesByStart k base
  let es := (l.filter fun e => granted base e.2).take 16
  [byte k, byte es.length] ++ leBytes 2 (s.machine k).leg ++ leBytes 2 (revokeSegment l) ++ [0#8, 0#8] ++
    es.flatMap fun e => grantEntry base e.2

/-- The grant unit of a machine. -/
def State.grantUnit (k base : Nat) (s : State) : DownUnit :=
  ⟨2, k, (s.machine k).leg, s.grantBody k base, s.now, s.now⟩

/-- The AWARD units of the tasks that stand AWARDED, and the REVOKE units under repetition (R316). -/
def State.taskUnits (s : State) : List DownUnit :=
  (s.tasks.tasks.filterMap fun e =>
    if e.2.state = .awarded then some ⟨3, e.2.machine, e.1, e.2.unit 1 e.1, s.now, s.now⟩ else none) ++
    (s.tasks.revokes.filterMap fun r =>
      if 0 < r.left then some ⟨3, r.machine, r.task, r.body, s.now, s.now⟩ else none)

/-- Every per-cycle unit of the cycle after the snapshot's. -/
def State.cycleUnits (s : State) : List DownUnit :=
  let base := FT.nextCycleMs s.pipe.snapAt % 2 ^ 40
  (s.pipe.assoc.map fun k => s.grantUnit k base) ++ s.taskUnits

/-- One cycle of each revocation has been composed (R316). -/
def State.revokesUsed (s : State) : State :=
  { s with tasks.revokes := (s.tasks.revokes.map fun r => { r with left := r.left - 1 }).filter fun r => decide (0 < r.left) }

/-- The machines whose units are withheld: late ones, and those whose leg is still speculative (R245). -/
def State.withheldMachines (late : List Nat) (s : State) : List Nat :=
  machineNumbers.filter fun k => late.contains k || s.tracks.legs.any fun l => l.machine == k

/-- How many machines a list of units serves. -/
def machinesServed (l : List DownUnit) : Nat := (machineNumbers.filter fun k => l.any fun u => u.machine == k).length

/-- The per-cycle units go to LAUNCH (R245): `late` are machines, `lateMoves` axes, whose units are incomplete. -/
def State.compose (late lateMoves : List Nat) (s : State) : State :=
  let units := s.cycleUnits
  let cyc := FT.cycle s.pipe.snapAt
  let all := s.pipe.withheld == some cyc
  let out := if s.follows then [] else s.withheldMachines late
  let outMoves := if s.follows then [] else lateMoves
  let keep := if all then [] else units.filter fun u => !out.contains u.machine
  let keepMoves := if all then [] else s.tracks.moves.filter fun m => !outMoves.contains m.1
  let gone := (machinesServed units - machinesServed keep) + (s.tracks.moves.length - keepMoves.length)
  let s : State := { s.revokesUsed with
    tracks := { s.tracks with moves := [] },
    pipe := { s.pipe with composed := keep, moves := keepMoves, planning := false } }
  if all then s.countN 0x2C1009 gone
  else if gone = 0 then s.stageDone 6 cyc (FT.addNs s.pipe.snapAt 16000000)
  else ((s.countN 0x2C1009 gone).stageMissed 6 0 cyc).marker 6 0 cyc

/-- Does COMPOSE wait, on a unit that follows, for a stage of its own that has not ended (R253)? -/
def State.composeWaits (s : State) : Bool := s.follows && (s.tracks.open_ || s.tasks.due)

/-- COMPOSE ends (R245): with every unit complete, or at its deadline, t₀ + 96 ms, without those that are not. -/
def State.composeDue (late lateMoves : List Nat) (s : State) : State :=
  let ends := (late.isEmpty && lateMoves.isEmpty) || s.ripe s.pipe.snapAt 16000000
  if s.pipe.planning && !s.composeWaits && ends then s.compose late lateMoves else s

/-- A replayed marker withholds the units of a cycle, composed or not (R253). -/
def State.withholdCycle (cyc : Nat) (s : State) : State :=
  let n := machinesServed s.pipe.composed + s.pipe.moves.length
  let s : State := { s with pipe := { s.pipe with withheld := some cyc, composed := [], moves := [] } }
  ((s.countN 0x2C1009 n).stageMissed 6 0 cyc).marker 6 0 cyc

/-! ### LAUNCH at slot 0 (R247, R251, R378) -/

/-- A unit joins LAUNCH's list of its machine's port. -/
def State.enqueueUnit (u : DownUnit) (s : State) : State :=
  { s with pipe.launch := modAt s.pipe.launch (s.machine u.machine).port fun l => l ++ [u] }

/-- The instants of a unit released at this slot 0: it may use the slots of this cycle. -/
def State.released (u : DownUnit) (s : State) : DownUnit :=
  { u with since := s.now, limit := FT.addNs (FT.cycleStart s.now) 96000000 }

/-- The timer of 0x2E01 starts at the release of an award's first unit (R305). -/
def State.startTimer (u : DownUnit) (s : State) : State :=
  if u.kind = 3 ∧ field u.body 1 1 = 1 then
    s.modTask u.ref fun t => { t with timer := some (t.timer.getD (s.now, s.pipe.stopSnaps)) }
  else s

/-- The SLOT unit of a machine with a PERIOD change (R378). -/
def State.slotUnit (k : Nat) (s : State) : Option DownUnit :=
  let m := s.machine k
  match m.change with
  | some (p, e) =>
    let c := FT.cycle s.now
    if c < e ∧ e ≤ c + 3 then
      some ⟨4, k, 0, [byte k, byte m.slot, byte p, 0#8] ++ leBytes 2 (e % 65536) ++ [0#8, 0#8], s.now, s.now⟩
    else none
  | none => none

/-- The tag of a unit at LAUNCH (R33): a grant unit has one while a leg of its machine is under check. -/
def State.unitTag (u : DownUnit) (s : State) : Option SpecTag :=
  if u.kind = 2 ∧ (s.tracks.legs.any fun l => l.machine == u.machine) = true then some ⟨u.machine, 0, u.ref⟩ else none

/-- The tag of a gate move (R33): it serves an entry of a leg under check. -/
def State.moveTag (n : Nat) (g : GateMove) (s : State) : Option SpecTag :=
  let serves := fun (i : Nat) =>
    let e := s.tracks.entry i
    s.tracks.isGatedOn n e.seg && (s.tracks.seg e.seg).gatePos == g.pos &&
      (e.start + 2 ^ 40 - s.gateLead n) % 2 ^ 40 == FT.ms g.start
  (s.tracks.legs.find? fun l => l.entries.any serves).map fun l => ⟨l.machine, 0, l.leg⟩

/-- A per-cycle unit passes LAUNCH (R34, R247). A tagged one is withheld; the unit that takes its place carries the confirmed
reservations only (a grant unit lists no SPECULATIVE entry, R368). -/
def State.launchUnit (u : DownUnit) (s : State) : State :=
  let pass := fun s : State => (s.startTimer u).enqueueUnit (s.released u)
  pass (s.atBoundary 0 (s.unitTag u) id)

/-- A gate move passes the comparator arming path (R33, R34): a tagged one arms nothing. -/
def State.launchMove (m : Nat × GateMove) (s : State) : State := s.atBoundary 4 (s.moveTag m.1 m.2) (State.armMove m.1 m.2)

/-- LAUNCH releases what COMPOSE handed it, unless the cycle is the quiet one after a discontinuity (R247, R251). -/
def State.launchRelease (s : State) : State :=
  let quiet := s.pipe.quiet == some (FT.cycle s.now)
  let units := if quiet then [] else s.pipe.composed
  let moves := if quiet then [] else s.pipe.moves
  let s : State := { s with pipe := { s.pipe with composed := [], moves := [], quiet := if quiet then none else s.pipe.quiet } }
  let s := each moves State.launchMove (each units State.launchUnit s)
  if s.perCycle then each (machineNumbers.filterMap fun k => s.slotUnit k) (fun u s => s.enqueueUnit (s.released u)) s else s

/-- A unit that follows uses the result of a stage that ended after COMPOSE's deadline (R253): it composes then, and
releases at once what the slot 0 that has passed would have released. -/
def State.composeLate (s : State) : State :=
  if s.follows && s.pipe.planning && !s.composeWaits && FT.lt (FT.addNs s.pipe.snapAt 16000000) s.now then
    let t := s.compose [] []
    when (decide (FT.cycle s.pipe.snapAt < FT.cycle s.now)) State.launchRelease t
  else s

/-! ### Placement (R248, R249, R367, R542) -/

/-- The rank of a unit's type (R367). -/
def DownUnit.before (a b : DownUnit) : Bool :=
  decide (a.kind < b.kind) || (a.kind == 2 && b.kind == 2 && decide (a.machine < b.machine))

/-- Insert a unit behind those of its rank. -/
def insertUnit (x : DownUnit) : List DownUnit → List DownUnit
  | [] => [x]
  | y :: l => if x.before y then x :: y :: l else y :: insertUnit x l

/-- The units in the order in which LAUNCH takes them. -/
def unitOrder (l : List DownUnit) : List DownUnit := l.foldl (fun l x => insertUnit x l) []

/-- Octets of a unit in a DOWN payload. -/
def DownUnit.bytes (u : DownUnit) : List Byte := [byte u.kind, byte u.body.length] ++ u.body

/-- Pack each unit that still fits (R367): the packed ones and the others. -/
def packUnits : Nat → List DownUnit → List DownUnit × List DownUnit
  | _, [] => ([], [])
  | room, u :: l =>
    if u.bytes.length ≤ room then
      let r := packUnits (room - u.bytes.length) l
      (u :: r.1, r.2)
    else
      let r := packUnits room l
      (r.1, u :: r.2)

/-- The holder notes what became of a unit, for its next CONFIRM (R542): 0 placed, 1 dropped, 2 deferred. -/
def State.placement (n asn outcome : Nat) (u : DownUnit) (s : State) : State :=
  if s.inPair && s.holdsOwn then
    { s with pair.placed := s.pair.placed ++ [[asn % 2 ^ 32, n, outcome, u.kind, u.machine, u.ref]] }
  else s

/-- The units LAUNCH holds for port `n`. -/
def State.launchList (n : Nat) (s : State) : List DownUnit := s.pipe.launch.getD n []

/-- Replace them. -/
def State.setLaunch (n : Nat) (l : List DownUnit) (s : State) : State :=
  { s with pipe.launch := setAt s.pipe.launch n l }

/-- A unit whose time has passed is dropped: a position record is counted (R248), a per-cycle unit is not (R249). -/
def State.dropUnit (n asn : Nat) (u : DownUnit) (s : State) : State :=
  (if u.kind = 1 then (s.count 0x2C100B).recordSince u.machine 0x5003 1 [.u8 u.machine, .u16 u.ref] else s).placement n asn 1 u

/-- Drop the units of port `n` that no slot from `t` on can take. -/
def State.dropStale (n : Nat) (t : FT) (s : State) : State :=
  let l := s.launchList n
  each (l.filter fun u => FT.lt u.limit t) (State.dropUnit n (FT.asn t))
    (s.setLaunch n (l.filter fun u => !FT.lt u.limit t))

/-- May a unit go into the slot that begins at `t` (R248)? -/
def DownUnit.ready (t : FT) (u : DownUnit) : Bool := FT.le (FT.addNs u.since 200000) t

/-- A unit moves to a later slot (R249). -/
def State.deferUnit (n asn : Nat) (u : DownUnit) (s : State) : State := (s.count 0x2C100A).placement n asn 2 u

/-- The port cannot take its DOWN slot: every unit ready for it misses its hand-off and is deferred (R249, R254). -/
def State.deferAll (n : Nat) (t : FT) (s : State) : State :=
  let l := (s.launchList n).filter (DownUnit.ready t)
  if s.slotKind n (FT.slot t) = 4 ∧ l ≠ [] then (each l (State.deferUnit n (FT.asn t)) s).noteMissed 7 (FT.cycle t)
  else s

/-! ### Frames of the unit's own (R364 to R370, R374) -/

/-- ACK_MAP of port `n` in the slot of ASN σ (R374). -/
def State.ackMap (n sigma : Nat) (s : State) : Nat :=
  ((List.range 25).map fun k =>
    let a := (sigma - 2) - ((sigma - 2) % 25 + 25 - k) % 25
    if s.slotKind n k = 3 ∧ (s.airPort n).got.any (fun g => g.1 == a) then 2 ^ k else 0).sum

/-- SLOT_MAP of port `n` (R365). -/
def State.slotMap (n : Nat) (s : State) : List Byte :=
  (List.range 13).map fun i =>
    byte (s.slotKind n (2 * i) + (if 2 * i + 1 < 25 then s.slotKind n (2 * i + 1) else 0) * 16)

/-- The octets of remap pairs. -/
def remapBytes (l : List RemapPair) : List Byte := l.flatMap fun p => [byte p.chan, byte p.spare]

/-- The BEACON payload (R365). -/
def State.beacon (n mode : Nat) (t : FT) (s : State) : List Byte :=
  let next := (s.air.pending.map Prod.snd).getD []
  leBytes 8 (FT.asn t) ++ [byte n, byte (s.eff (0x300401 + n)), byte mode, byte (b2n s.air.pending.isSome)] ++
    leBytes 4 (s.ackMap n (FT.asn t)) ++ s.slotMap n ++
    [byte (s.eff 0x300300), byte (s.eff 0x300200), byte s.time.state.code] ++
    leBytes 2 ((s.air.pending.map Prod.fst).getD 0 % 65536) ++ zeros 6 ++
    [byte s.air.remap.length, byte next.length] ++ remapBytes s.air.remap ++ remapBytes next

/-- A frame is loaded for the slot that begins at `t`, and the port's comparator armed for the edge of AIRn_TXEN that sends it
(R24, R350, R357, R366); `stop`: a STOP frame of STATE 1. -/
def State.airLoad (stop : Bool) (n type : Nat) (t : FT) (payload : List Byte) (s : State) : State :=
  let psdu := s.airPsdu type (s.airPort n).seq 0xFFFF (FT.asn t % 256) payload
  let chan := s.channelAt n t
  let s := ((s.spi n 2 [byte chan]).spi n 3 psdu).modPort n fun p => { p with armed := some ⟨chan, psdu, stop⟩ }
  s.armOwner (0x100 + n) (FT.addNs t (400000 - s.eff (0x300601 + n) * 1000)) 0

/-- A frame that is no stop. -/
def State.airSend (n type : Nat) (t : FT) (payload : List Byte) (s : State) : State := s.airLoad false n type t payload

/-- The port listens on the slot's channel. -/
def State.airListen (n : Nat) (t : FT) (s : State) : State :=
  (s.spi n 2 [byte (s.channelAt n t)]).spi n 5 []

/-- JOIN_MODE of port `n` for a join cycle, decided with the slot-0 beacon (R364). -/
def State.joinMode (n : Nat) (t : FT) (s : State) : State :=
  if rendezvous n (FT.cycle t) then s
  else
    let p := s.airPort n
    let two := !p.responded && p.queue.any fun r => FT.lt r.queued t
    s.modPort n fun p => { p with responded := two, answer := if two then some (FT.cycle t) else none }

/-- JOIN_MODE that the beacon of slot 0 carries. -/
def State.beaconMode (n : Nat) (t : FT) (s : State) : Nat :=
  if rendezvous n (FT.cycle t) then 0 else if (s.airPort n).answer = some (FT.cycle t) then 2 else 1

/-- A JOIN_RESP payload (R372): FIRST_CYCLE is the present cycle. SLOT, PERIOD and FIRST_CYCLE of a refusal are a free
value (assumption 5). -/
def State.joinResp (r : JoinResp) (cycle : Nat) (s : State) : List Byte :=
  leBytes 8 r.eui ++ [byte r.status, byte r.port] ++
    (if r.status = 0 then leBytes 2 r.machine ++ [byte r.slot, byte r.period] ++ leBytes 2 (cycle % 65536)
     else [0xFF#8, 0xFF#8] ++ leBytes 4 s.free)

/-- The port sends its oldest response (R364). -/
def State.sendJoinResp (n : Nat) (t : FT) (s : State) : State :=
  match (s.airPort n).queue with
  | [] => s
  | r :: l =>
    let payload := s.joinResp r (FT.cycle t)
    let s := ((s.modPort n fun p => { p with queue := l }).drawn).airSend n 7 t payload
    if r.status = 0 then s.modMachine r.machine fun m => { m with joinSent := some (FT.cycle t) } else s

/-- Slot 1 of port `n` (R364). -/
def State.slotOne (n : Nat) (t : FT) (s : State) : State :=
  if rendezvous n (FT.cycle t) then s.airSend n 1 t (s.beacon n 0 t)
  else if (s.airPort n).answer = some (FT.cycle t) then s.sendJoinResp n t
  else s.airListen n t

/-- A DOWN frame (R248, R249, R366, R367). The peer that prepares a slot keeps its units until a CONFIRM names them
(R547). -/
def State.sendDown (n : Nat) (t : FT) (s : State) : State :=
  let l := s.launchList n
  let asn := FT.asn t
  let r := packUnits (s.phy.psdu - 17) (unitOrder (l.filter (DownUnit.ready t)))
  let s := s.airSend n 3 t (leBytes 4 (s.ackMap n asn) ++ r.1.flatMap DownUnit.bytes)
  let s := if s.follows then s else s.setLaunch n (l.filter fun u => !r.1.contains u)
  each r.2 (State.deferUnit n asn) (each r.1 (State.placement n asn 0) s)

/-- The next octets of a backlog, at most `room`, as far as they stand together in the stream, and the rest (R370). -/
def takeStream : Nat → Nat → List (Nat × List Byte) → List Byte × List (Nat × List Byte)
  | _, _, [] => ([], [])
  | room, at_, m :: l =>
    if room = 0 ∨ m.1 ≠ at_ then ([], m :: l)
    else if m.2.length ≤ room then
      let r := takeStream (room - m.2.length) (at_ + m.2.length) l
      (m.2 ++ r.1, r.2)
    else (m.2.take room, (m.1 + room, m.2.drop room) :: l)

/-- A CORR frame while 0x2828 is 1 (R196), if there are octets to send (R366, R370). -/
def State.sendCorr (n : Nat) (t : FT) (s : State) : State :=
  match (s.airPort n).backlog with
  | [] => s
  | m :: l =>
    let r := takeStream (s.phy.psdu - 17) m.1 (m :: l)
    if s.cfg 0x282800 = 0 then s
    else (s.airSend n 4 t (leBytes 4 (m.1 % 2 ^ 32) ++ r.1)).modPort n fun p => { p with backlog := r.2 }

/-- The slot of port `n` outside a stop (R355, R362, R366). -/
def State.loadSlot (n : Nat) (t : FT) (s : State) : State :=
  match s.slotKind n (FT.slot t) with
  | 1 => (s.joinMode n t).airSend n 1 t ((s.joinMode n t).beacon n ((s.joinMode n t).beaconMode n t) t)
  | 2 => s.slotOne n t
  | 3 => s.airListen n t
  | 4 => s.sendDown n t
  | 5 => s.sendCorr n t
  | 6 => s.airSend n 2 t (stopPayload 0 0 (FT.asn t))
  | _ => s

/-- The slot of port `n` during a stop (R381, R398): a STOP frame with STATE 1, once the burst is over. A slot that the port is
to send it in is counted. -/
def State.loadStop (n : Nat) (t : FT) (s : State) : State :=
  let s := s.deferAll n t
  if s.pair.output && FT.le s.stop.quietUntil t then
    (s.airLoad true n 2 t (stopPayload 1 0 (FT.asn t))).count 0x303012
  else s

/-- Does a pending release take effect with the slot that begins at `t` (R400)? Its slot is loaded as outside a stop. -/
def State.releasesAt (t : FT) (s : State) : Bool := s.stop.release.any fun r => FT.le r.due t

/-- Port `n` is loaded for the slot that begins at `t`; a busy port keeps what it has (R249, R357). -/
def State.loadPort (busy : Nat) (t : FT) (n : Nat) (s : State) : State :=
  let s := s.dropStale n t
  if !s.airEnabled.testBit n then s
  else if s.stop.latch && !s.releasesAt t then s.loadStop n t
  else if busy.testBit n then s.deferAll n t
  else s.loadSlot n t

/-- Every port is loaded for the next slot, 200 µs before it begins (R357). -/
def State.loadSlots (busy : Nat) (s : State) : State :=
  let t := FT.addNs (FT.slotStart s.now) 4000000
  (each (List.range 8) (State.loadPort busy t) s).stageDone 7 (FT.cycle t) (FT.addUnits t (-nsUnits 200000))

end Sys2Proof.Machine
end

