-- ==== Sys2Proof/Machine/Gnss.lean ====
section
/-!
DEFINITION. Antenna ports, RF chains, Lint traps and recovery episodes (chapter 03).
-/

namespace Sys2Proof.Machine

/-! ### Chains and ports -/

/-- Chain `c`. -/
def State.chain (s : State) (c : Nat) : Chain := s.gnss.chains.getD c .init

/-- Change chain `c`. -/
def State.modChain (c : Nat) (f : Chain → Chain) (s : State) : State :=
  { s with gnss.chains := modAt s.gnss.chains c f }

/-- Antenna port `p`. -/
def State.antPort (s : State) (p : Nat) : AntPort := s.gnss.ports.getD p .init

/-- Change antenna port `p`. -/
def State.modAnt (p : Nat) (f : AntPort → AntPort) (s : State) : State :=
  { s with gnss.ports := modAt s.gnss.ports p f }

/-- The blocks of PD_CORR act while that domain is on, and are absent otherwise (R19, R662). -/
def State.inCorr (f : State → State) (s : State) : State := if s.domainOn 5 then f s else s

/-- Has a state of chain `c` lasted so many seconds? -/
def State.chainLasted (c n : Nat) (s : State) : Bool := decide (secTicks n ≤ s.ticks - (s.chain c).since)

/-- Count under 0x2420 + c. -/
def State.countChain (c sub : Nat) (s : State) : State := s.count ((0x2420 + c) * 256 + sub)

/-- Is a mode one in which chains may be powered (R90)? -/
def Mode.chainsUp (m : Mode) : Bool :=
  match m with
  | .off => false | .backup => false | _ => true

/-- Is chain `c` enabled (R90)? -/
def State.chainEnabled (c : Nat) (s : State) : Bool := (s.cfg 0x240000).testBit c && s.power.mode.chainsUp

/-- The supply setting of port `p` (R94). -/
def State.antSupply (p : Nat) (s : State) : Nat := s.cfg (0x240101 + p)

/-- May a chain of port `p` run: supply OFF or EXTERNAL, or ON with status OK (R107)? -/
def State.antennaReady (p : Nat) (s : State) : Bool := s.antSupply p != 1 || (s.antPort p).status == 2

/-- Do traps adapt (R99)? -/
def ChainState.adapting (x : ChainState) : Bool := x == .start || x == .adapt

/-- Traps that are HELD. -/
def Chain.held (x : Chain) : Nat := (x.traps.filter fun t => t.state == 2).length

/-- Group delay of a held set at an IF in ps (R103): its notch filters stand in series. -/
def notchDelay (l : List Trap) (hz : Int) : Int := (l.map fun t => Config.trapDelay t.freq t.width t.depth hz).sum / 1024

/-- Phase of a held set at an IF in 2^-32 cycle (R103). -/
def notchPhase (l : List Trap) (hz : Int) : Int := (l.map fun t => Config.trapPhase t.freq t.width t.depth hz).sum

/-- The largest absolute group delay over the signals of a band, in ps (R103). -/
def notchMax (upper : Bool) (l : List Trap) : Nat :=
  (bandFrequencies upper).foldl (fun m f => max m (notchDelay l f).natAbs) 0

/-- Every ADAPTING trap becomes HELD (R102), and measurements are corrected for the set held from now on (R103). -/
def Chain.hold (x : Chain) : Chain :=
  let l := x.traps.map fun t => if t.state = 1 then { t with state := 2 } else t
  { x with traps := l, notch := l.filter fun t => t.state == 2 }

/-- TRAP_DELAY_MAX of chain `c` (R103). -/
def State.trapDelay (c : Nat) (s : State) : Int := (s.shownVal (0x241801 + c)).int

/-- The traps of chain `c` become HELD, and 0x2418 shows the largest group delay (R102, R103). -/
def State.holdTraps (c : Nat) (s : State) : State :=
  let t := s.modChain c Chain.hold
  t.show (0x241801 + c) (min 1000000 (notchMax (c % 2 == 1) (t.chain c).notch))

/-! ### Episodes (R107, R108) -/

/-- 0x3002 of an episode or a START that ends: duration, result (0 normal, 1 excluded, 2 aborted), traps held, delay. -/
def State.recoveryEnded (c result : Nat) (s : State) : State :=
  s.record 0x3002
    [.u8 c, .u64 ((s.ticks - (s.chain c).began) * 2), .u8 result, .u32 (s.chain c).held, .i32 (s.trapDelay c)]

/-- An open episode ends as aborted. -/
def State.abortEpisode (c : Nat) (s : State) : State :=
  if (s.chain c).episode then (s.recoveryEnded c 2).modChain c fun x => { x with episode := false } else s

/-- A chain is powered and adapts: START, or ADAPT while the unit is in TEST (R109). TRAPS_EXHAUSTED stays until an ADAPT
begins (R102). -/
def State.startChain (c : Nat) (s : State) : State :=
  let test := s.power.mode == .test
  s.modChain c fun x =>
    { x with state := if test then .adapt else .start, cause := 0, exhausted := x.exhausted && !test, jamRun := 0,
             triggers := 0, episode := false, began := s.ticks, since := s.ticks, cand := none, candTick := s.ticks,
             restarts := 0, ready := false, fresh := true }

/-- A chain enters EXCLUDED; its traps hold. -/
def State.excludeChain (c cause : Nat) (s : State) : State :=
  let was := (s.chain c).state == .excluded
  let s := (s.holdTraps c).modChain c fun x =>
    { x with state := .excluded, cause := cause, triggers := 0, episode := false, ready := false, since := s.ticks }
  when (!was) (State.countChain c 5) s

/-- An episode ends in exclusion: both records, then EXCLUDED with cause episode. -/
def State.episodeFailed (c : Nat) (s : State) : State :=
  ((s.recoveryEnded c 1).record 0x3003 [.u8 c, .u32 (s.chain c).restarts, .u8 (s.chain c).ji]).excludeChain c 1

/-- An episode opens. -/
def State.openEpisode (c mask : Nat) (s : State) : State :=
  ((s.modChain c fun x =>
    { x with state := .adapt, cause := 0, exhausted := false, triggers := 0, episode := true, began := s.ticks,
             since := s.ticks, cand := none, candTick := s.ticks, restarts := 0, ready := false }).countChain c 3).record 0x3001 [.u8 c, .u8 mask, .u8 (s.chain c).ji]

/-- A return from SETTLE to ADAPT. -/
def State.restartChain (c : Nat) (s : State) : State :=
  (s.modChain c fun x =>
    { x with state := .adapt, exhausted := false, restarts := x.restarts + 1, ready := false, since := s.ticks, cand := none,
             candTick := s.ticks }).countChain c 4

/-- A trigger (R107, R108): bit 0 jammed, 1 check failure, 2 command, 3 retry. In START or ADAPT it has no effect. DESIGN
CHOICE (assumption 26): R110 lists no refusal of a chain EXCLUDED with cause antenna and has every chain of an accepted mask
enter ADAPT, while R107 keeps that cause out; here the command is ACCEPTED and such a chain does nothing. -/
def State.trigger (c b : Nat) (s : State) : State :=
  let x := s.chain c
  match x.state with
  | .normal => s.modChain c fun x => { x with triggers := setBit x.triggers b true }
  | .excluded =>
    if x.cause ≠ 2 ∧ 2 ≤ b then s.modChain c fun x => { x with triggers := setBit x.triggers b true } else s
  | .settle => if x.episode ∧ b ≤ 1 then s.restartChain c else s
  | _ => s

/-! ### Gain control and saturation (R91 to R93) -/

/-- The gain word after a block whose sum of I² + Q² is `power` (R91): one step down above target + 1 dB, one up below
target − 1 dB. The RMS is taken over 2,048 values. -/
def gainAfter (target power gain : Nat) : Nat :=
  if 2048 * target ^ 2 * 12589254117941673 < power * 10000000000000000 then gain - 1
  else if power * 10000000000000000 < 2048 * target ^ 2 * 7943282347242815 then min 127 (gain + 1)
  else gain

/-- A trap follows what the monitor finds in a block (R100, R101): `floor` is 0x2409 − 6 dB. -/
def Trap.fit (tick : Nat) (floor : Int) (f : TrapFit) (t : Trap) : Trap :=
  if t.state = 0 then t
  else
    let low := if f.level < floor then some (t.low.getD tick) else none
    if t.state = 1 then
      { t with freq := f.freq, width := f.width, depth := f.depth, run := if f.good then t.run + 1 else 0, low := low }
    else { t with low := low }

/-- CK_TIME ticks of 24 h. -/
def dayTicks : Nat := secTicks 86400

/-- The history of the gain word after a block: a change is noted, and what ended more than 24 h ago is forgotten (R93). -/
def noteGain (tick g : Nat) : List (Nat × Nat) → List (Nat × Nat)
  | [] => [(tick, g)]
  | e :: l =>
    let h := if e.2 = g then e :: l else (tick, g) :: e :: l
    let old := h.dropWhile fun x => decide (tick < x.1 + dayTicks)
    (h.takeWhile fun x => decide (tick < x.1 + dayTicks)) ++ old.take 1

/-- How long each gain word of the last 24 h was in force, in ticks; `until_` ends the first. -/
def gainShares (from_ : Nat) : Nat → List (Nat × Nat) → List (Nat × Nat)
  | _, [] => []
  | until_, e :: l => (e.2, until_ - max from_ e.1) :: gainShares from_ e.1 l

/-- The median of the gain over the last 24 h (R93): the least word that the gain did not exceed for half of the time. DESIGN
CHOICE (assumption 26): time-weighted, over the time since the chain was powered where that is shorter. -/
def medianGain (tick present : Nat) (h : List (Nat × Nat)) : Nat :=
  let l := gainShares (tick - dayTicks) tick h
  let share := fun (g : Nat) => ((l.filter fun e => decide (e.1 ≤ g)).map Prod.snd).sum
  ((List.range 128).find? fun g => decide (share 127 ≤ 2 * share g) && decide (0 < share 127)).getD present

/-- A block arrives on the bridge (R22, R91, R92). -/
def State.blockReceived (c : Nat) (b : Block) (s : State) : State :=
  if (s.chain c).state = .off then s
  else if b.intact then
    let adapts := (s.chain c).state.adapting && s.domainOn 5
    let floor : Int := (s.cfg 0x240900 : Int) - 6
    let s := s.modChain c fun x =>
      let g := gainAfter (s.cfg 0x240400) b.power x.gain
      { x with gain := g, gainSum := x.gainSum + g, gainCount := x.gainCount + 1, gains := noteGain s.ticks g x.gains,
               traps := if adapts then b.fits.foldl (fun l f => modAt l f.trap.val (Trap.fit s.ticks floor f)) x.traps
                        else x.traps }
    if b.saturated then (s.countChain c 2).recordSince c 0x3007 1 [.u8 c] else s
  else s.countChain c 1

/-! ### Antenna supply (R94 to R97) -/

/-- The chains of port `p` go to EXCLUDED with cause antenna (R97, R107). In TEST a powered chain stays in ADAPT (R109): R97 acts
on it when TEST is left (`State.chainsFromTest`; DESIGN CHOICE, assumption 26). -/
def State.antennaFault (p status current : Nat) (s : State) : State :=
  let s := s.record 0x3004 [.u8 p, .u8 status, .u16 current]
  each [2 * p, 2 * p + 1] (fun c s =>
    if s.power.mode = .test ∧ (s.chain c).state ≠ .off then s
    else if (s.chain c).state = .off then (if s.chainEnabled c then s.excludeChain c 2 else s)
    else (s.abortEpisode c).excludeChain c 2) s

/-- The chains of port `p` that wait for their antenna enter START (R97, R107). -/
def State.antennaBack (p : Nat) (s : State) : State :=
  each [2 * p, 2 * p + 1] (fun c s =>
    let x := s.chain c
    if s.chainEnabled c && (x.state == .off || (x.state == .excluded && x.cause == 2)) then s.startChain c else s) s

/-- Is a chain of port `p` EXCLUDED with cause antenna? -/
def State.antennaLost (p : Nat) (s : State) : Bool :=
  [2 * p, 2 * p + 1].any fun c => (s.chain c).state == .excluded && (s.chain c).cause == 2

/-- Is a status one of R97's faults? -/
def antFaulty (status : Nat) : Bool := status == 1 || status == 3 || status == 4

/-- Port `p` takes a status. -/
def State.antStatus (p new current : Nat) (s : State) : State :=
  let old := (s.antPort p).status
  let s := s.modAnt p fun x => { x with status := new }
  if old = new then s
  else if antFaulty new then
    (when (new == 1) (State.count (0x242403 + p)) s).antennaFault p new current
  else
    (when (new == 2 && (antFaulty old || s.antennaLost p)) (State.record 0x3005 [.u8 p, .u16 current]) s).antennaBack p

/-- A SHORT opens the switch (R95, R96): the fifth within 60 s leaves it open. -/
def State.antShort (p current : Nat) (s : State) : State :=
  let l := s.ticks :: ((s.antPort p).shorts.filter fun t => decide (s.ticks - t < secTicks 60))
  let s := (s.modAnt p fun x => { x with closed := false, shorts := l, lowSince := none }).count (0x242401 + p)
  s.antStatus p (if 5 ≤ l.length then 4 else 3) current

/-- One classification of the port current, in units of 0.1 mA (R95). DESIGN CHOICE (assumption 26): 0x2403 keeps the last
classified current while the switch is open or the supply is OFF or EXTERNAL; the spec does not say what it reads then. -/
def State.classify (p current : Nat) (s : State) : State :=
  if s.antSupply p = 1 ∧ (s.antPort p).closed = true ∧ s.power.mode.chainsUp = true then
    let s := s.show (0x240301 + p) (min 2000 current)
    if 1000 < current then s.antShort p current
    else if 30 ≤ current then (s.modAnt p fun x => { x with lowSince := none }).antStatus p 2 current
    else
      let since := (s.antPort p).lowSince.getD s.ticks
      let s := s.modAnt p fun x => { x with lowSince := some since }
      if secTicks 1 ≤ s.ticks - since then s.antStatus p 1 current else s
  else s

/-- One second after a SHORT the switch closes again (R96). -/
def State.switchRetry (p : Nat) (s : State) : State :=
  let x := s.antPort p
  if x.status = 3 ∧ s.antSupply p = 1 ∧ (x.shorts.head?.all fun t => decide (secTicks 1 ≤ s.ticks - t)) = true then s.modAnt p fun x => { x with closed := true, lowSince := none } else s

/-! ### Lint traps (R98 to R103) -/

/-- Is a bin within the width of a placed trap? Frequencies stand in units of 9.765625 Hz, widths in 10 kHz. -/
def inTrap (f : Int) (t : Trap) : Bool :=
  decide (t.state ≠ 0) && decide ((f - t.freq).natAbs * 9765625 ≤ t.width * 5000000000)

/-- The higher of two bins; of equal ones the first (DESIGN CHOICE, assumption 26). -/
def higherBin (a : Option SpectrumBin) (b : SpectrumBin) : Option SpectrumBin :=
  match a with
  | some x => if x.peak < b.peak then some b else some x
  | none => some b

/-- The bin that gets a trap (R100): the highest at or above 0x2409 that no trap covers. -/
def candidateBin (limit : Nat) (traps : List Trap) (bins : List SpectrumBin) : Option SpectrumBin :=
  (bins.filter fun b => decide (limit ≤ b.peak) && !traps.any (inTrap b.freq)).foldl higherBin none

/-- A candidate appears where the latest average showed none, or another (R102). -/
def Chain.appears (tick : Nat) (b : Option SpectrumBin) (x : Chain) : Chain :=
  match b with
  | some b => { x with cand := some b.freq, candTick := if x.cand = some b.freq then x.candTick else tick }
  | none => { x with cand := none }

/-- The highest candidate receives the lowest OFF trap (R100); with none OFF, TRAPS_EXHAUSTED (R102). -/
def State.placeTrap (c : Nat) (bins : List SpectrumBin) (s : State) : State :=
  let x := s.chain c
  if x.state.adapting then
    let f := candidateBin (s.cfg 0x240900) x.traps bins
    let s := s.modChain c (Chain.appears s.ticks f)
    match f with
    | none => s
    | some b =>
      match x.traps.findIdx? fun t => t.state == 0 with
      | some i => s.modChain c fun x => { x with traps := setAt x.traps i ⟨1, b.depth, b.width, b.peak, b.freq, 0, none⟩ }
      | none => s.modChain c fun x => { x with exhausted := true }
  else s

/-- A trap whose interferer, ahead of it, has been below 0x2409 − 6 dB for 100 ms returns to OFF (R101), where traps may change
(R99). -/
def State.releaseTrap (c t : Nat) (s : State) : State :=
  let x := s.chain c
  if x.state.adapting && (x.traps.getD t .init).low.any fun n => decide (msTicks 100 ≤ s.ticks - n) then
    s.modChain c fun x => { x with traps := setAt x.traps t .init }
  else s

/-- Is every placed trap converged: its bins within 3 dB of the median for 64 consecutive blocks (R101)? A HELD trap was. -/
def Chain.converged (x : Chain) : Bool := x.traps.all fun t => t.state != 1 || decide (64 ≤ t.run)

/-- Does ADAPT, or START, end now (R102): converged and no new candidate for 100 ms, or 0x240A over? -/
def State.adaptOver (c : Nat) (s : State) : Bool :=
  let x := s.chain c
  (x.converged && decide (msTicks 100 ≤ s.ticks - x.candTick)) || s.chainLasted c (s.cfg 0x240A00)

/-- The start-up adaptation gives G_ref its initial value (R93). -/
def Chain.settleGain (x : Chain) : Chain :=
  { x with gRef := if x.fresh then (x.gain : Int) * 18000 else x.gRef, fresh := false }

/-- ADAPT, or START, ends (R102, R103, R107); in TEST every chain stays in ADAPT (R109). -/
def State.endAdapt (c : Nat) (s : State) : State :=
  if (s.chain c).state.adapting && s.power.mode != .test && s.adaptOver c then
    (s.holdTraps c).modChain c fun x => { x.settleGain with state := .settle, since := s.ticks }
  else s

/-! ### The jamming indicator (R104 to R106) -/

/-- 4 × ΔG (R104): G_ref in 1/36,000 dB, G the mean of `n` gain words of 0.5 dB with the sum `sum`. -/
def gainTerm (gRef : Int) (sum n : Nat) : Nat :=
  ((4 * gRef * (2 * n) - 4 * 36000 * sum) / (36000 * (2 * n) : Int)).toNat

/-- JI (R104). -/
def jamIndicator (gRef : Int) (sum n peak : Nat) : Nat := min 255 (gainTerm gRef sum n + 2 * (peak - 10))

/-- G_ref follows the median by at most 1 dB an hour, so 1/36,000 dB a cycle, while NORMAL (R93). -/
def followGain (state : ChainState) (median : Nat) (gRef : Int) : Int :=
  if state = .normal then clamp (gRef - 1) (gRef + 1) ((median : Int) * 18000) else gRef

/-- The indicator of a powered chain, and a trigger where it becomes jammed (R104, R105); `peak` is S. DESIGN CHOICE (assumption
26): in a cycle in which no block was received, G is the present gain word. -/
def State.evalJam (c peak : Nat) (s : State) : State :=
  let x := s.chain c
  if x.state = .off then s
  else
    let n := if x.gainCount = 0 then 1 else x.gainCount
    let sum := if x.gainCount = 0 then x.gain else x.gainSum
    let ji := jamIndicator x.gRef sum n peak
    let run := if s.cfg 0x240700 ≤ ji then x.jamRun + 1 else 0
    let s := (s.modChain c fun x =>
      { x with ji := ji, jamRun := run, gainSum := 0, gainCount := 0,
               gRef := followGain x.state (medianGain s.ticks x.gain x.gains) x.gRef }).show (0x240601 + c) ji
    when (run == 3) (State.trigger c 0) s

/-- Is a chain clear (R105)? -/
def State.chainClear (c : Nat) (s : State) : Bool := decide ((s.chain c).ji + s.cfg 0x240800 < s.cfg 0x240700)

/-- The transitions that wait for slot 0 (R107): into NORMAL, and into ADAPT from NORMAL or EXCLUDED. -/
def State.chainSlot0 (c : Nat) (s : State) : State :=
  let x := s.chain c
  if s.power.mode = .test then s
  else
    match x.state with
    | .settle =>
      if x.ready then
        (s.recoveryEnded c 0).modChain c fun x => { x with state := .normal, episode := false, ready := false, triggers := 0, since := s.ticks }
      else s
    | .normal => if x.triggers ≠ 0 then s.openEpisode c x.triggers else s
    | .excluded => if x.triggers ≠ 0 ∧ x.cause ≠ 2 then s.openEpisode c x.triggers else s
    | _ => s

/-- The settle time ends (R107). -/
def State.settleOver (c : Nat) (s : State) : State :=
  let x := s.chain c
  if x.state = .settle ∧ s.power.mode ≠ .test ∧ s.chainLasted c (s.cfg 0x240B00) = true then
    if s.chainClear c then s.modChain c fun x => { x with ready := true }
    else if x.restarts < 3 then s.restartChain c
    else s.episodeFailed c
  else s

/-- An episode has been open for 0x240C (R107). -/
def State.episodeTooLong (c : Nat) (s : State) : State :=
  let x := s.chain c
  if x.episode && (x.state == .adapt || x.state == .settle) && s.power.mode != .test &&
      decide (secTicks (s.cfg 0x240C00) ≤ s.ticks - x.began) then
    (s.holdTraps c).episodeFailed c
  else s

/-- The retry timer of an excluded chain expires (R107): a trigger for the next slot 0. -/
def State.retryChain (c : Nat) (s : State) : State := when (s.chainLasted c (s.cfg 0x240D00)) (State.trigger c 3) s

/-- TEST is entered (R109): every powered chain adapts without limit; no episode is counted. -/
def State.chainsToTest (s : State) : State :=
  each (List.range 4) (fun c s =>
    if (s.chain c).state = .off then s
    else s.modChain c fun x => { x with state := .adapt, cause := 0, exhausted := false, triggers := 0, episode := false,
                                        began := s.ticks, since := s.ticks, cand := none, candTick := s.ticks, restarts := 0,
                                        ready := false }) s

/-- TEST is left: each of these chains begins SETTLE, and R107 applies from there: one whose antenna stands faulty goes on to
EXCLUDED with cause antenna (R97). -/
def State.chainsFromTest (s : State) : State :=
  each (List.range 4) (fun c s =>
    if (s.chain c).state = .off then s
    else
      let t := (s.holdTraps c).modChain c fun x =>
        { x.settleGain with state := .settle, began := s.ticks, since := s.ticks, restarts := 0 }
      if antFaulty (s.antPort (c / 2)).status ∧ s.antSupply (c / 2) = 1 then t.excludeChain c 2 else t) s

/-! ### The command 0x240E (R110) -/

/-- Does any chain of a mask stand in a state? -/
def State.maskHas (mask : Nat) (p : ChainState → Bool) (s : State) : Bool :=
  (List.range 4).any fun c => mask.testBit c && p (s.chain c).state

/-- The decision on a write of 0x240E. -/
def State.recoveryCheck (role : Nat) (v : List Byte) (s : State) : Nat :=
  let c := s.writeCheck role 0x240E00 v
  if c ≠ 0 then c
  else firstCase [
    (s.maskHas (leNat v) fun x => x == .off, 0x11),
    (s.maskHas (leNat v) fun x => x == .start || x == .adapt || x == .settle, 0x10),
    (true, 1)]

/-- An accepted write: a trigger on every chain of the mask. -/
def State.recoveryApply (v : List Byte) (s : State) : State :=
  each (List.range 4) (fun c s => when ((leNat v).testBit c) (State.trigger c 2) s) s

/-! ### The commands -/

/-- BRIDGE_BLOCK_RECEIVED (R22, R91, R92). -/
def execBridgeBlockReceived (c : Fin 4) (b : Block) (s : State) : Host.Outcome State Fault Refusal :=
  .next (s.blockReceived c.val b)

/-- ANT_CLASSIFY (R95). -/
def execAntClassify (port : Fin 2) (current : Nat) (s : State) : Host.Outcome State Fault Refusal :=
  .next (s.classify port.val current)

/-- ANT_SWITCH_RETRY (R96). -/
def execAntSwitchRetry (port : Fin 2) (s : State) : Host.Outcome State Fault Refusal := .next (s.switchRetry port.val)

/-- TRAP_PLACEMENT (R100). -/
def execTrapPlacement (c : Fin 4) (bins : List SpectrumBin) (s : State) : Host.Outcome State Fault Refusal :=
  .next (s.inCorr (State.placeTrap c.val bins))

/-- TRAP_RELEASED (R101). -/
def execTrapReleased (c : Fin 4) (t : Fin 8) (s : State) : Host.Outcome State Fault Refusal :=
  .next (s.inCorr (State.releaseTrap c.val t.val))

/-- ADAPT_END (R102). -/
def execAdaptEnd (c : Fin 4) (s : State) : Host.Outcome State Fault Refusal := .next (s.inCorr (State.endAdapt c.val))

/-- JAM_INDICATOR_EVAL (R104, R107); `peaks` holds S of chains 0 to 3, 0 for one not listed. -/
def execJamIndicatorEval (peaks : List Nat) (s : State) : Host.Outcome State Fault Refusal :=
  .next (s.inCorr fun s => each (List.range 4) State.chainSlot0
    (each (List.range 4) (fun c s => s.evalJam c (peaks.getD c 0)) s))

/-- SETTLE_ELAPSED (R107). -/
def execSettleElapsed (c : Fin 4) (s : State) : Host.Outcome State Fault Refusal := .next (s.settleOver c.val)

/-- EPISODE_LIMIT_EXPIRED (R107). -/
def execEpisodeLimitExpired (c : Fin 4) (s : State) : Host.Outcome State Fault Refusal := .next (s.episodeTooLong c.val)

/-- EPISODE_RETRY_EXPIRED (R107): taken at the next slot 0. -/
def execEpisodeRetryExpired (c : Fin 4) (s : State) : Host.Outcome State Fault Refusal := .next (s.retryChain c.val)

/-- RECOVERY_START (R110). -/
def execRecoveryStart (w : Writer) (v : List Byte) (s : State) : Host.Outcome State Fault Refusal :=
  .next (s.commandWrite w 0x240E00 (s.recoveryCheck (s.roleOf w) v) (State.recoveryApply v))

end Sys2Proof.Machine
end

