-- ==== Sys2Proof/Machine/Scheduler.lean ====
section
/-!
DEFINITION. The dataflow scheduler (chapter 10): posts, TAKE, expiry, promotion, the core watchdog and the trace stream.
-/

namespace Sys2Proof.Machine

/-- Hold limit of a class in ns, 0 for none (R321). -/
def holdLimit (c : Nat) : Nat :=
  [0, 0, 0, 0, 1000000, 1000000, 1000000, 5000000, 2000000, 10000000, 10000000, 10000000, 20000000, 20000000, 50000000,
    100000000].getD c 0

/-- Lifetime of a class in ns (R321). -/
def lifetime (c : Nat) : Nat :=
  [100000000, 100000000, 10000000, 2000000, 100000000, 100000000, 100000000, 1000000000, 100000000, 1000000000, 1000000000,
    1000000000, 10000000000, 10000000000, 10000000000, 60000000000].getD c 0

/-- The operands held of an instance. -/
def SchedSt.instanceOf (template key : Nat) (x : SchedSt) : List Operand :=
  x.store.filter fun o => o.template == template && o.key == key

/-- Remove an instance. -/
def SchedSt.discard (template key : Nat) (x : SchedSt) : SchedSt :=
  { x with store := x.store.filter fun o => !(o.template == template && o.key == key),
           ready := x.ready.filter fun o => !(o.template == template && o.key == key) }

/-- Is one operation more urgent than another (R331)? -/
def Operation.before (a b : Operation) : Bool :=
  decide (b.prio < a.prio) ||
    (a.prio == b.prio && (FT.lt a.ready b.ready || (a.ready == b.ready && decide (a.slot < b.slot))))

/-- The most urgent of a list of operations. -/
def mostUrgent : List Operation → Option Operation
  | [] => none
  | o :: l => match mostUrgent l with
    | none => some o
    | some p => if p.before o then some p else some o

/-- The core that has been blocked longest, the lower number breaking a tie (R332). -/
def longestBlocked (l : List (Nat × Core)) : Option Nat :=
  (l.foldl (fun (best : Option (Nat × Nat)) e =>
    if e.2.state = 1 then
      match best with
      | none => some (e.1, e.2.since)
      | some b => if e.2.since < b.2 then some (e.1, e.2.since) else some b
    else best) none).map Prod.fst

/-- Core `k`. -/
def State.coreAt (s : State) (k : Nat) : Core := s.sched.cores.getD k ⟨0, 0, none, ⟨0, 0, 0⟩, 0⟩

/-- An operation is handed to core `k` (R331): its operands leave the store. -/
def State.handTo (k : Nat) (o : Operation) (s : State) : State :=
  let x := s.sched.discard o.template o.key
  ({ s with sched := { x with cores := setAt x.cores k ⟨2, s.ticks, some o, s.now, s.time.hb⟩ } }).count 0x2F4001

/-- Ready operations go to blocked cores, the most urgent to the core blocked longest (R331, R332), for at most `n` cores. -/
def State.handOut : Nat → State → State
  | 0, s => s
  | n + 1, s =>
    match longestBlocked ((List.range 16).zip s.sched.cores), mostUrgent s.sched.ready with
    | some k, some o => (s.handTo k o).handOut n
    | _, _ => s

/-- The tick hands operations to cores only after its withdrawals and its posts (R333): while commands still wait, the hand-out
waits for them, at the latest until the step on the empty queue (assumption 1). -/
def State.dispatch (s : State) : State := if s.pending.isEmpty then s.handOut 16 else s

/-- A post that finds no slot (R325): the instance goes, with counter, trace and record. -/
def State.storeFull (template key cls : Nat) (spec : Bool) (s : State) : State :=
  let tagged := spec || (s.sched.instanceOf template key).any fun o => o.spec.isSome
  let n := (s.sched.instanceOf template key).length + 1
  let w1 := key % 4096 * 2 ^ 40 + s.sched.freeShared * 2 ^ 28 + s.sched.freeOwn (classPrio cls) * 2 ^ 16 + n
  let free := s.sched.freeShared
  (((({ s with sched := s.sched.discard template key }).count 0x2F4003).trace
    (traceW0 6 (classPrio cls) cls tagged 0 s.now) w1)).recordSince 0 0x5030 1 [.i64 cls, .u32 free]

/-- A post that repeats a held operand (R326). -/
def State.duplicateOperand (template key : Nat) (s : State) : State :=
  (s.count 0x2F4004).recordSince 0 0x5031 1 [.i64 template, .u32 key]

/-- An operand takes its slot (R324): which of the free numbers it takes, the spec leaves open (assumption 5). -/
def State.placeOperand (o : Operand) (s : State) : State :=
  let free := s.sched.freeSlots
  let o : Operand := { o with slot := free.getD (s.free % free.length) 0, reserved := decide (0 < s.sched.freeOwn (classPrio o.cls)) }
  let x : SchedSt := { s.sched with store := s.sched.store ++ [o] }
  let x : SchedSt := { x with high := max x.high x.store.length }
  let held := x.instanceOf o.template o.key
  let s := { s.drawn with sched := x }
  if held.length = o.places then
    let r : Operation := ⟨o.template, o.key, o.cls, classPrio o.cls, s.now, o.slot, (held.filterMap (·.spec)).head?⟩
    { s with sched.ready := s.sched.ready ++ [r] }
  else s

/-- OPERAND_POST (R323 to R330, R332): `last` is n − 1, `spec` the speculation that the operand carries. -/
def State.post (template key cls places index : Nat) (spec : Option Nat) (s : State) : State :=
  let s := s.count 0x2F4002
  if (match spec with | some n => s.sched.withdrawn.contains n | none => false) then s.count 0x2F4007
  else if (s.sched.instanceOf template key).any fun o => o.index == index then s.duplicateOperand template key
  else if s.sched.freeOwn (classPrio cls) = 0 ∧ s.sched.freeShared = 0 then s.storeFull template key cls spec.isSome
  else s.placeOperand ⟨0, false, template, key, index, cls, places, s.now, spec⟩

/-- Nanoseconds as units of 10 ns, saturating at 20 bits (R340). -/
def tens (ns : Nat) : Nat := min (ns / 10) 0xFFFFF

/-- The core completes its operation: a DISPATCHED record, if its class's bit is set (R337, R340). -/
def State.completed (k : Nat) (s : State) : State :=
  let c := s.coreAt k
  match c.op with
  | none => s
  | some o =>
    let s := { s with sched.cores := setAt s.sched.cores k { c with op := none } }
    when ((s.cfg 0x2F2000).testBit o.cls)
      (State.trace (traceW0 1 (classPrio o.cls) o.cls o.spec.isSome k s.now)
        (o.slot * 2 ^ 52 + o.key % 4096 * 2 ^ 40 + tens (FT.nsSince o.ready c.handed) * 2 ^ 20 +
          tens (FT.nsSince c.handed s.now))) s

/-- TAKE (R331, R336): the core that has completed its operation is blocked until one is handed to it; a core that is off or
withdrawn issues none. -/
def State.takeOp (k : Nat) (s : State) : State :=
  if (s.coreAt k).state = 3 ∨ s.domainOn 3 = false then s
  else
    let s := s.completed k
    (({ s with sched.cores := setAt s.sched.cores k ⟨1, s.ticks, none, s.now, s.time.hb⟩ } : State)).dispatch

/-- May a command still dispatch the instance on this tick (R80): a core's TAKE, or the post of its last operand? -/
def dispatches (template key : Nat) (i : Instr) : Bool :=
  match i with
  | .take _ => true
  | .operandPost t k _ _ _ _ => t == template && k == key
  | _ => false

/-- An instance outlives the lifetime of its class, counted from the stamp of its first operand (R327). -/
def State.expire (template key : Nat) (s : State) : State :=
  match s.sched.instanceOf template key with
  | [] => s
  | o :: l =>
    let age := FT.nsSince o.stamp s.now
    if !s.ripe o.stamp (lifetime o.cls) || s.arriving (dispatches template key) then s else
    ((({ s with sched := s.sched.discard template key }).count 0x2F4005).trace
      (traceW0 7 (classPrio o.cls) o.cls ((o :: l).any fun p => p.spec.isSome) 0 s.now)
      (key % 4096 * 2 ^ 40 + min (age / 1000) 0xFFFFFF * 2 ^ 16 + (l.length + 1))).recordSince o.cls 0x5032 1
      [.i64 o.cls, .u64 age]

/-- A ready operation moves up one queue each time a further hold limit has elapsed since its ready stamp (R334), with a HELD
record. -/
def State.promote (template key : Nat) (s : State) : State :=
  match s.sched.ready.find? fun o => o.template == template && o.key == key with
  | none => s
  | some o =>
    let moves := o.prio - classPrio o.cls + 1
    if holdLimit o.cls = 0 ∨ 6 ≤ o.prio ∨ s.ripe o.ready (moves * holdLimit o.cls) = false then s
    else
      let ready := s.sched.ready.map fun p =>
        if p.template == template && p.key == key then { p with prio := o.prio + 1 } else p
      let depth := (ready.filter fun p => p.prio == o.prio).length
      let s := ({ s with sched.ready := ready }).count 0x2F4006
      when ((s.cfg 0x2F2000).testBit o.cls)
        (State.trace (traceW0 2 o.prio o.cls o.spec.isSome 0 s.now)
          (o.slot * 2 ^ 52 + o.key % 4096 * 2 ^ 40 + tens (FT.nsSince o.ready s.now) * 2 ^ 20 + (o.prio + 1) * 2 ^ 17 +
            depth)) s

/-- Does a command bring the TAKE of a core (R80)? -/
def takes (k : Nat) (i : Instr) : Bool :=
  match i with
  | .take c => c.val == k
  | _ => false

/-- A core watchdog expires (R335): an uncorrectable error in control with cause 3, where the core has run one operation for
80,000 CK_HB counts and no TAKE of it arrives on this count (R80). -/
def State.watchdog (k : Nat) (s : State) : State :=
  let c := s.coreAt k
  when (c.state == 2 && s.hbPassed c.handedHb 80000 && !s.arriving (takes k)) (State.unitFault 3 k 0) s

/-! ### The trace stream (R342, R343) -/

/-- Octets of a trace record. -/
def TraceRec.bytes (r : TraceRec) : List Byte := leBytes 8 r.w0 ++ leBytes 8 r.w1

/-- Record number `r` of the trace, if the ring holds it (R341). -/
def SchedSt.recordNo (r : Nat) (x : SchedSt) : Option TraceRec := if r < x.head then x.trace[x.head - 1 - r]? else none

/-- Nanoseconds since a record's event, by its SEC18 and NSEC (R339). -/
def TraceRec.age (now : FT) (r : TraceRec) : Nat :=
  (now.sec % 2 ^ 18 + 2 ^ 18 - r.w0 / 2 ^ 30 % 2 ^ 18) % 2 ^ 18 * 1000000000 + now.nsec - r.w0 % 2 ^ 30

/-- Is a datagram due (R342): 80 records wait, or the oldest of those that wait is 10 ms old? -/
def State.traceDue (first : Nat) (s : State) : Bool :=
  decide (80 ≤ s.sched.head - first) || (s.sched.recordNo first).any fun r => decide (10000000 ≤ r.age s.now)

/-- One trace datagram to every sink in use (R342, R343). -/
def State.traceDatagram (s : State) : State :=
  if s.tracing then
    let oldest := s.sched.head - s.sched.trace.length
    let first := max s.sched.sent oldest
    let skipped := first - s.sched.sent
    let n := min 80 (s.sched.head - first)
    if !s.traceDue first then s
    else
      let recs := (List.range n).flatMap fun i => ((s.sched.recordNo (first + i)).map TraceRec.bytes).getD []
      let msg := leBytes 8 first ++ leBytes 2 n ++ [byte 1, byte (s.pair.pos + 2 * b2n s.holdsOwn)] ++
        leBytes 4 (min skipped 0xFFFFFFFF) ++ recs
      let sinks := s.sinksInUse 0x2F3500 2
      ((({ s with sched.sent := first + n }).sendSinks 4353 0x2F3500 2 msg).countN 0x2F4009 sinks).countN 0x2F400A skipped
  else s

/-- The decision on STORE_HIGH_CLEAR (R344). -/
def State.storeHighCheck (role : Nat) (v : List Byte) (s : State) : Nat := s.writeCheck role 0x2F0300 v

/-- The high-water mark takes the present occupancy. -/
def State.storeHighReset (s : State) : State := { s with sched.high := s.sched.store.length }

/-- OPERAND_POST (R323). -/
def execOperandPost (template key : Nat) (cls : Fin 16) (last index : Fin 4) (spec : Option Nat) (s : State) :
    Host.Outcome State Fault Refusal :=
  .next (s.post template key cls.val (last.val + 1) index.val spec).dispatch

/-- TAKE (R331). -/
def execTake (core : Fin 16) (s : State) : Host.Outcome State Fault Refusal := .next (s.takeOp core.val)

/-- INSTANCE_EXPIRED (R327). -/
def execInstanceExpired (template key : Nat) (s : State) : Host.Outcome State Fault Refusal := .next (s.expire template key)

/-- OPERATION_PROMOTED (R334). -/
def execOperationPromoted (template key : Nat) (s : State) : Host.Outcome State Fault Refusal :=
  .next (s.promote template key)

/-- CORE_WATCHDOG_EXPIRED (R335). -/
def execCoreWatchdogExpired (core : Fin 16) (s : State) : Host.Outcome State Fault Refusal := .next (s.watchdog core.val)

/-- TRACE_DATAGRAM (R342). -/
def execTraceDatagram (s : State) : Host.Outcome State Fault Refusal := .next s.traceDatagram

/-- STORE_HIGH_CLEAR (R344). -/
def execStoreHighClear (w : Writer) (v : List Byte) (s : State) : Host.Outcome State Fault Refusal :=
  .next (s.commandWrite w 0x2F0300 (s.storeHighCheck (s.roleOf w) v) State.storeHighReset)

end Sys2Proof.Machine
end

