-- ==== Sys2Proof/Machine/Channels.lean ====
section
/-!
DEFINITION. Correlator banks, tracking channels, acquisition, allocation, measurements and navigation records (chapter 04).
-/

namespace Sys2Proof.Machine

/-! ### Signals (R119) -/

/-- Is a signal enabled (R119)? -/
def State.signalEnabled (code : Nat) (s : State) : Bool :=
  match signalIndex code with
  | some n => (s.cfg 0x243100).testBit n
  | none => false

/-- The priority of a signal (0x2432). -/
def State.signalPriority (code : Nat) (s : State) : Nat :=
  match signalIndex code with
  | some n => s.cfg (0x243201 + n)
  | none => 0

/-! ### Channels and banks (R115 to R118) -/

/-- Channel `k`. -/
def State.chan (s : State) (k : Nat) : Chan := SMap.getD .init k s.gnss.chans

/-- Replace channel `k`. -/
def State.setChan (k : Nat) (x : Chan) (s : State) : State :=
  { s with gnss.chans := SMap.put (fun _ => Chan.init) k x s.gnss.chans }

/-- Change channel `k`. -/
def State.modChan (k : Nat) (f : Chan → Chan) (s : State) : State := s.setChan k (f (s.chan k))

/-- The chain of bank `b` in a bank map (R116). -/
def bankChain (map b : Nat) : Nat := map / 4 ^ b % 4

/-- The chain that channel `k` reads. -/
def State.chainOf (k : Nat) (s : State) : Nat := bankChain s.gnss.bankMap (k / 32)

/-- The channels of chain `c`. -/
def State.chansOf (c : Nat) (s : State) : List Nat := (List.range 512).filter fun k => s.chainOf k == c

/-- A search that an engine has begun for a channel that has gone to IDLE: its result finds no channel (R131). -/
def Engine.orphaned (k : Nat) (e : Engine) : Engine := if e.req.chan = k then { e with req.chan := 512 } else e

/-- A channel goes to IDLE; any queued request of its goes (R132). -/
def State.idleChan (k : Nat) (s : State) : State :=
  { s.setChan k .init with gnss.queue := s.gnss.queue.filter fun q => q.chan != k,
                           gnss.engines := s.gnss.engines.map fun e => e.map (Engine.orphaned k) }

/-- Every channel of chain `c` goes to IDLE (R118). -/
def State.idleChain (c : Nat) (s : State) : State := each (s.chansOf c) State.idleChan s

/-- A chain is switched off (R90): its traps OFF, its episode aborted, its channels IDLE. -/
def State.chainOff (c : Nat) (s : State) : State :=
  (((s.abortEpisode c).modChain c fun x =>
    { Chain.init with gain := x.gain, gRef := x.gRef, exhausted := x.exhausted })).idleChain c

/-- A commit writes 0x2401 of port `p` (R94 to R97). Switched ON, its chains wait in OFF until the first classification (R95).
A commit that sets OFF or EXTERNAL is recorded whatever stood before (R97); of the chains only those that wait for their
antenna enter START (R107; DEDUCED, assumption 26). DESIGN CHOICE (assumption 26): the write of 1 that ends LATCHED, and a
supply switched off and on, forget the SHORT events of the last 60 s, so the count of five begins anew. -/
def State.supplyCommit (p old : Nat) (s : State) : State :=
  let new := s.antSupply p
  let was := (s.antPort p).status
  if new = 1 then
    if old ≠ 1 then ((s.chainOff (2 * p)).chainOff (2 * p + 1)).modAnt p fun _ => .init
    else if was = 4 then s.modAnt p fun _ => .init
    else s
  else
    let s := s.modAnt p fun _ => { AntPort.init with status := if new = 0 then 0 else 5, closed := false }
    (s.record 0x3005 [.u8 p, .u16 (s.shownNat (0x240301 + p))]).antennaBack p

/-- What the checks keep of the signal on channel `k`. -/
def Chan.key (c : Nat) (x : Chan) : Nat := c * 65536 + x.signal * 256 + x.sv % 256

/-- The signal of channel `k` as the checks see it. -/
def State.sigOf (k : Nat) (s : State) : Sig := SMap.getD .init ((s.chan k).key (s.chainOf k)) s.gnss.sigs

/-- Change it. -/
def State.modSig (k : Nat) (f : Sig → Sig) (s : State) : State :=
  { s with gnss.sigs := SMap.put (fun _ => Sig.init) ((s.chan k).key (s.chainOf k)) (f (s.sigOf k)) s.gnss.sigs }

/-! ### Acquisition (R127 to R131) -/

/-- The next request to be served: REACQUIRE before SEARCH, the oldest of each first (R127). -/
def nextSearch (l : List Search) : Option Search :=
  match l.find? fun q => q.again with
  | some q => some q
  | none => l.head?

/-- The search that an engine begins for a request (R128, R129): the span of 0x243C, or ±500 Hz for a REACQUIRE, T_coh never
shorter than the primary code, samples from the channel's chain, the pilot where there is one; it lasts T_coh × n of capture
and B × T_coh × n / 250 of processing. -/
def State.beginSearch (q : Search) (s : State) : Engine :=
  let x := s.chan q.chan
  let width := max 1 (s.cfg 0x243D00)
  let side := (if q.again then 500 else s.cfg 0x243C00) / width
  let tcoh := max (s.cfg 0x243E00) (((signalRow x.signal).map fun r => r.period).getD 1)
  let n := s.cfg 0x243F00
  { req := q, side := side, width := width, tcoh := tcoh, sums := n, chain := s.chainOf q.chan, pilot := isPilot x.signal,
    done := s.ticks + tcoh * n * msTicks 1 + (2 * side + 1) * tcoh * n * msTicks 1 / 250 }

/-- A free engine takes the next request. -/
def State.engineTakes (e : Nat) (s : State) : State :=
  if s.gnss.engines.getD e none = none then
    match nextSearch s.gnss.queue with
    | some q =>
      { s with gnss.queue := s.gnss.queue.erase q, gnss.engines := setAt s.gnss.engines e (some (s.beginSearch q)) }
    | none => s
  else s

/-- Is a request of channel `k` queued or being served? -/
def State.searching (k : Nat) (s : State) : Bool :=
  (s.gnss.queue.any fun q => q.chan == k) || s.gnss.engines.any fun e => e.any fun q => q.req.chan == k

/-- Channel `k` asks for a search (R127, R130); `f` is its transition if the queue takes it. Turned away by a full queue, it
stays in its state and asks again only from the next slot 0 on. -/
def State.ask (k : Nat) (again : Bool) (doppler : Int) (f : Chan → Chan) (s : State) : State :=
  if (s.chan k).refused = some (FT.cycle s.now) then s
  else if 64 ≤ s.gnss.queue.length then
    ((s.modChan k fun x => { x with refused := some (FT.cycle s.now) }).count 0x245004).recordSince 0 0x3011 1 []
  else
    let s := s.modChan k fun x => { f x with refused := none }
    let q : Search := ⟨k, again, doppler⟩
    (({ s with gnss.queue := s.gnss.queue ++ [q] }).engineTakes 0).engineTakes 1

/-- A channel's present state begins. -/
def Chan.enter (st : ChanState) (tick : Nat) (x : Chan) : Chan :=
  { x with state := st, entry := tick, weak := none, lock := 0, cohs := [], due := 0 }

/-- Into SEARCH. -/
def Chan.toSearch (tick : Nat) (x : Chan) : Chan := { x.enter .search tick with tow := none, half := false }

/-- Into REACQUIRE. -/
def Chan.toReacquire (tick : Nat) (x : Chan) : Chan := { x.enter .reacquire tick with tow := none, half := false }

/-- Into PULL_IN with a code phase in units of 2^-32 chip and a Doppler (R132): both NCOs are loaded, the carrier phase starts
at zero. -/
def Chan.toPullIn (tick : Nat) (p : Nat) (doppler : Int) (r : SignalRow) (x : Chan) : Chan :=
  let p := if r.codeUnits = 0 then p else p % r.codeUnits
  { x.enter .pullIn tick with
    doppler := doppler, fails := 0, refused := none, carrier := clampCarrier r x.gloK (carrierWord (r.intermediate x.gloK + doppler)),
    code := clampCode r (r.codeWord x.gloK doppler), next := none, later := none, phase := 0, cycles := 0, samples := 0,
    chips := p / 4294967296, frac := p % 4294967296, periods := 0, tow := none, half := false, hist := [], loop := [] }

/-- A loss of signal (R132): REACQUIRE around the latest Doppler, counted. -/
def State.lose (k : Nat) (s : State) : State :=
  let d := (s.chan k).doppler
  let t := s.ask k true d (Chan.toReacquire s.ticks)
  if (t.chan k).state = .reacquire ∧ (s.chan k).state ≠ .reacquire then t.count 0x245008 else t

/-- A channel asks, or asks again (R130). -/
def State.chanAsks (k : Nat) (again : Bool) (s : State) : State :=
  let x := s.chan k
  match x.state with
  | .idle => if x.signal = 0 ∨ again = true then s else s.ask k false 0 (Chan.toSearch s.ticks)
  | .search => if again ∨ s.searching k = true then s else s.ask k false 0 id
  | .reacquire => if again = true ∧ s.searching k = false then s.ask k true x.doppler id else s
  | .pullIn => if again then s else s.ask k false 0 (Chan.toSearch s.ticks)
  | _ => if again then s.lose k else s

/-- The key of an unavailability. -/
def barKey (c signal sv : Nat) : Nat := c * 65536 + signal * 256 + sv

/-- A search fails (R132): again, or IDLE and unavailable for 60 s at the third failure. -/
def State.searchFailed (k : Nat) (s : State) : State :=
  let x := s.chan k
  if x.fails < 2 then (s.modChan k fun x => { x with fails := x.fails + 1 }).ask k false 0 id
  else
    let s := s.idleChan k
    { s with gnss.barred := (barKey (s.chainOf k) x.signal x.sv, s.ticks + secTicks 60) ::
               s.gnss.barred.filter fun b => decide (s.ticks < b.2) }

/-- The Doppler of a bin (R131), bins numbered upward from the lowest. -/
def Engine.dopplerAt (bin : Nat) (e : Engine) : Int :=
  e.req.doppler + ((min bin (2 * e.side) : Nat) - (e.side : Int)) * e.width

/-- An engine returns the highest peak (R131, R132): ratio in 0.1 dB, Doppler bin, code phase in units of 2^-32 chip at the
boundary at which it is loaded. A search is not complete before its time (R129). -/
def State.searchDone (e ratio bin phase : Nat) (s : State) : State :=
  match s.gnss.engines.getD e none with
  | none => s
  | some g =>
    if s.ticks < g.done then s
    else
      let k := g.req.chan
      let s := ({ s with gnss.engines := setAt s.gnss.engines e none }).count 0x245001
      let x := s.chan k
      let s :=
        if x.state = .search ∨ x.state = .reacquire then
          if s.cfg 0x244200 ≤ ratio then
            match signalRow x.signal with
            | some r => (s.count 0x245002).modChan k (Chan.toPullIn s.ticks phase (g.dopplerAt bin) r)
            | none => s.count 0x245002
          else if x.state = .search then s.searchFailed k
          else s
        else s
      s.engineTakes e

/-! ### Dumps and words (R121 to R126) -/

/-- The early-late spacing d of 0x2437 in 1/640 chip (R121). -/
def State.spacing (s : State) : Nat := [64, 128, 320, 640].getD (s.cfg 0x243700) 64

/-- The code offsets of taps 0 to 7 from prompt, in 1/640 chip (R121). -/
def State.tapOffsets (k : Nat) (s : State) : List Int :=
  let d : Int := s.spacing
  [-d, -d / 2, 0, d / 2, d, 0, 0, (s.chan k).offM * 10]

/-- `n` samples pass (R123, R124): both accumulators advance by their words. -/
def Chan.advance (r : SignalRow) (n : Nat) (x : Chan) : Chan :=
  let a : Int := (x.phase : Int) + n * x.carrier
  let p := x.chips * 4294967296 + x.frac + n * x.code.toNat
  let q := if r.codeUnits = 0 then p else p % r.codeUnits
  { x with phase := (a % 4294967296).toNat, cycles := ((x.cycles + a / 4294967296) % 4294967296).toNat,
           samples := x.samples + n, chips := q / 4294967296, frac := q % 4294967296,
           periods := x.periods + (if r.codeUnits = 0 then 0 else p / r.codeUnits) }

/-- Samples from the latest boundary to the next whole millisecond of code time (R122). -/
def Chan.toBoundary (r : SignalRow) (x : Chan) : Nat :=
  let left := r.msUnits - (x.chips * 4294967296 + x.frac) % r.msUnits
  let w := x.code.toNat
  if w = 0 then 0 else (left + w - 1) / w

/-- Milliseconds after which a constellation's time begins anew here: the week, or the day for GLONASS. -/
def turnMs (signal : Nat) : Nat := if constellation signal = 3 then 86400000 else 604800000

/-- The words that wait take effect at a boundary (R126): carrier, code, and the code phase moved by whole samples. -/
def Chan.boundary (r : SignalRow) (x : Chan) : Chan :=
  match x.next with
  | some w =>
    let p : Int := (x.chips : Int) * 4294967296 + x.frac + w.shift * w.code
    let q := if r.codeUnits = 0 then p.toNat else (p % r.codeUnits).toNat
    { x with carrier := w.carrier, code := w.code, chips := q / 4294967296, frac := q % 4294967296, next := x.later, later := none }
  | none => { x with next := x.later, later := none }

/-- A dump boundary (R122, R126): the sums are written, the code time is one millisecond on, waiting words take effect. -/
def Chan.dumped (r : SignalRow) (t : Taps) (x : Chan) : Chan :=
  let y := (x.advance r (x.toBoundary r)).boundary r
  { y with hist := (t.written r.pilot :: y.hist).take 1000, due := y.due + 1,
           tow := y.tow.map fun n => (n + 1) % turnMs x.signal }

/-- CORRELATOR_DUMP on a channel that tracks or searches: sums written, the loop operation posted. -/
def State.dump (k : Nat) (t : Taps) (template hi : Nat) (s : State) : State :=
  match (s.chan k).state, signalRow (s.chan k).signal with
  | .idle, _ => s
  | _, none => s
  | _, some r => (s.modChan k (Chan.dumped r t)).post template (hi * 4096 + k) 3 1 0 none

/-- New words for a channel (R125, R126). -/
def State.ncoWords (k : Nat) (carrier code shift : Int) (late : Bool) (s : State) : State :=
  let x := s.chan k
  match signalRow x.signal with
  | none => s
  | some r =>
    if x.state = .idle then s
    else
      let c := clampCarrier r x.gloK carrier
      let d := clampCode r code
      let s := s.countN 0x245006 (b2n (c != carrier) + b2n (d != code))
      if late then
        ((s.modChan k fun x => { x with later := some ⟨c, d, shift⟩ }).count 0x245005).recordSince 0 0x3013 1 [.u16 k]
      else s.modChan k fun x => { x with next := some ⟨c, d, shift⟩ }

/-! ### The loops (R132 to R136) -/

/-- Since when C/N0 has been below 0x2439. -/
def State.weakSince (cn0 : Nat) (t : Option Nat) (s : State) : Option Nat :=
  if cn0 < s.cfg 0x243900 then some (t.getD s.ticks) else none

/-- Has it been for 1 s? -/
def State.weakLong (t : Option Nat) (s : State) : Bool :=
  match t with
  | some x => decide (secTicks 1 ≤ s.ticks - x)
  | none => false

/-- The coherent interval of a channel in ms (R134). -/
def State.interval (k : Nat) (s : State) : Nat :=
  let x := s.chan k
  if x.state = .track ∨ x.state = .locked then coherentMs (s.cfg 0x243800) (symbolMs x.signal x.sv) else 1

/-- The coherent sum of one tap over dumps, newest first, the secondary code wiped off (R122). `p` is the period that the
newest lies in, `ms` the milliseconds of a period. -/
def coherentSum (signal sv ms : Nat) (tap : Taps → IQ) : Nat → List Taps → Int × Int
  | _, [] => (0, 0)
  | p, t :: l =>
    let r := coherentSum signal sv ms tap (p - 1) l
    let g : Int := if Config.secondary signal sv (p / max 1 ms) then -1 else 1
    (r.1 + g * (tap t).i.toInt, r.2 + g * (tap t).q.toInt)

/-- The power of a coherent sum. -/
def sumPower (x : Int × Int) : Nat := (x.1 * x.1 + x.2 * x.2).toNat

/-- What the loops make of the interval that has ended (R134 to R136): C/N0 and the Doppler of the carrier word in force, the
interval's coherent sum for PLI (the latest second of it), the words they ask for and the carrier loop's memory. -/
def State.loopWords (k : Nat) (r : SignalRow) (s : State) : Chan × Int × Int :=
  let x := s.chan k
  let ms := s.interval k
  let l := x.hist.take ms
  let sum := fun tap => coherentSum x.signal x.sv r.period tap (x.periods * r.period + x.chips / max 1 r.perMs) l
  let p := sum (promptTap r.pilot)
  let last := (x.cohs.head?.map fun c => c.2).getD (0, 0)
  let c := if x.state = .pullIn then Config.fll (s.cfg 0x243600) last.1 last.2 p.1 p.2 x.carrier x.loop
    else Config.pll r.pilot (s.cfg 0x243400) ms p.1 p.2 x.carrier x.loop
  let d := Config.dll (s.cfg 0x243500) ms s.spacing (sumPower (sum fun t => t.e)) (sumPower (sum fun t => t.l)) c.1 x.code
  ({ x with cn0 := carrierToNoise x.hist, doppler := r.dopplerOf x.gloK x.carrier,
            cohs := ((ms, p) :: x.cohs).take 1000, due := x.due - ms, loop := c.2 }, c.1, d)

/-- Does PLI over the last `ms` milliseconds of the present state reach 0x243A: none while that state has not lasted so long? -/
def State.pliReaches (ms : Nat) (l : List (Nat × Int × Int)) (s : State) : Option Bool :=
  (pliOver ms l).map fun q => decide ((s.cfg 0x243A00 : Int) * q.2 ≤ q.1)

/-- The transitions of R132 at a loop update; `code` is code lock, `sync` symbol, bit or secondary-code synchronisation.
DESIGN CHOICE (assumption 27): where PLI and C/N0 both call for a transition at one update, the PLI row is taken; the spec
does not say which. -/
def State.loopTurn (k : Nat) (code sync : Bool) (s : State) : State :=
  let x := s.chan k
  let weak := s.weakLong x.weak
  match x.state with
  | .pullIn =>
    if s.pliReaches 100 x.cohs = some true ∧ code = true ∧ s.ticks - x.entry ≤ secTicks 1 then
      s.modChan k (Chan.enter .track s.ticks)
    else if weak then s.ask k false 0 (Chan.toSearch s.ticks)
    else s
  | .track =>
    if sync = true ∧ s.pliReaches 1000 x.cohs = some true then
      s.modChan k fun x => { x.enter .locked s.ticks with slip := true }
    else if weak then s.lose k
    else s
  | .locked =>
    if s.pliReaches 200 x.cohs = some false then
      (s.modChan k fun x => { x.enter .track s.ticks with slip := true, half := false }).count 0x245007
    else if weak then s.lose k
    else s
  | _ => s

/-- A loop update (R132, R134 to R136): due once an interval has been dumped. `late` says that its words reach the bank less
than 32 samples before the boundary (R126), `offM` the offset the firmware gives tap M, plus 96, in 1/64 chip. -/
def State.loopUpdate (k : Nat) (code sync late : Bool) (offM : Nat) (s : State) : State :=
  let x := s.chan k
  match signalRow x.signal with
  | none => s
  | some r =>
    if (x.state = .pullIn ∨ x.state = .track ∨ x.state = .locked) ∧ s.interval k ≤ x.due then
      let w := s.loopWords k r
      let s := s.setChan k { w.1 with weak := s.weakSince w.1.cn0 x.weak, offM := (offM : Int) - 96 }
      (s.ncoWords k w.2.1 w.2.2 0 late).loopTurn k code sync
    else s

/-- PULL_IN has lasted 1 s without lock (R132). -/
def State.pullInOver (k : Nat) (s : State) : State :=
  if (s.chan k).state = .pullIn ∧ secTicks 1 ≤ s.ticks - (s.chan k).entry then
    (s.count 0x245003).ask k false 0 (Chan.toSearch s.ticks)
  else s

/-- REACQUIRE has lasted 0x243B (R132). -/
def State.reacquireOver (k : Nat) (s : State) : State :=
  if (s.chan k).state = .reacquire ∧ secTicks (s.cfg 0x243B00) ≤ s.ticks - (s.chan k).entry then s.idleChan k else s

/-! ### Allocation (R137 to R139) -/

/-- Does candidate `a` rank before `b` (R137)? `pa`, `pb` are the priorities of their signals. -/
def ranksBefore (pa pb : Nat) (a b : SkyCand) : Bool :=
  if pa ≠ pb then decide (pb < pa)
  else if a.elev ≠ b.elev then decide (b.elev < a.elev)
  else if a.signal ≠ b.signal then decide (a.signal < b.signal)
  else decide (a.sv ≤ b.sv)

/-- Insert by rank. -/
def State.insertCand (a : SkyCand) (s : State) : List SkyCand → List SkyCand
  | [] => [a]
  | b :: l =>
    if ranksBefore (s.signalPriority a.signal) (s.signalPriority b.signal) a b then a :: b :: l
    else b :: s.insertCand a l

/-- Candidates of a band in rank order: enabled, at or above an elevation in 0.01°. -/
def State.ranked (upper : Bool) (floor : Int) (sky : List SkyCand) (s : State) : List SkyCand :=
  (sky.filter fun a => decide (floor ≤ a.elev) && s.signalEnabled a.signal &&
    ((signalRow a.signal).any fun r => r.upper == upper)).foldr (fun a l => s.insertCand a l) []

/-- The channel of chain `c` that holds a candidate. -/
def State.holderOf (c : Nat) (a : SkyCand) (s : State) : Option Nat :=
  (s.chansOf c).find? fun k => (s.chan k).signal == a.signal && (s.chan k).sv == a.sv

/-- A sister signal of the same satellite LOCKED on the same antenna (R132). DESIGN CHOICE (assumption 27): of several the
first found, the LB chain first, the lowest channel; the spec does not say which. -/
def State.sister (c : Nat) (a : SkyCand) (s : State) : Option Chan :=
  ((s.chansOf (c / 2 * 2) ++ s.chansOf (c / 2 * 2 + 1)).map s.chan).find? fun x =>
    x.state == .locked && x.signal / 16 == a.signal / 16 && x.sv == a.sv && x.signal != a.signal

/-- A Doppler scaled by the ratio of two carriers (R132). -/
def scaleDoppler (r q : SignalRow) (x y : Chan) : Int := Int.tdiv (y.doppler * r.carrier x.gloK) (q.carrier y.gloK)

/-- The code phase that a sister's transmit time gives (R132), in units of 2^-32 chip: whole milliseconds of the transmit time,
or of the sister's own code while that is not known, and the sister's part of a millisecond. -/
def sisterPhase (r q : SignalRow) (y : Chan) : Nat :=
  let p := y.chips * 4294967296 + y.frac
  let u := max 1 q.msUnits
  y.tow.getD (p / u) * r.msUnits + p % u * r.perMs / max 1 q.perMs

/-- A channel is allocated to a candidate (R132). GLO_K is 15 for a signal that is not GLONASS FDMA (R142, R144). -/
def State.assign (c k : Nat) (a : SkyCand) (s : State) : State :=
  let x : Chan := { Chan.init with signal := a.signal, sv := a.sv, gloK := if isFdma a.signal then a.gloK.val else 15 }
  let s := s.idleChan k
  match s.sister c a, signalRow a.signal with
  | some y, some r =>
    match signalRow y.signal with
    | some q =>
      s.setChan k { x.toPullIn s.ticks (sisterPhase r q y) (scaleDoppler r q x y) r with tow := y.tow }
    | none => s
  | _, _ => (s.setChan k x).ask k false 0 (Chan.toSearch s.ticks)

/-- The channel that gives way to a candidate of priority `p`: its own is of strictly lower priority (R137). DESIGN CHOICE
(assumption 27): of several the one whose candidate ranks last; the spec does not say which. -/
def State.victim (c p : Nat) (order : List SkyCand) (s : State) : Option Nat :=
  (order.reverse.find? fun b => decide (s.signalPriority b.signal < p) && (s.holderOf c b).isSome).bind fun b => s.holderOf c b

/-- One wanted candidate: an IDLE channel, or that of one of strictly lower priority; else it is left out. -/
def State.placeCand (c : Nat) (order : List SkyCand) (r : State × Nat) (a : SkyCand) : State × Nat :=
  let s := r.1
  if (s.holderOf c a).isSome then r
  else
    match (s.chansOf c).find? fun k => (s.chan k).signal == 0 with
    | some k => (s.assign c k a, r.2)
    | none =>
      match s.victim c (s.signalPriority a.signal) order with
      | some k => (s.assign c k a, r.2)
      | none => (s, r.2 + 1)

/-- The channels of a chain whose candidate is not in a list go to IDLE. -/
def State.releaseOthers (c : Nat) (keep : List SkyCand) (s : State) : State :=
  each (s.chansOf c) (fun k s =>
    let x := s.chan k
    if x.signal ≠ 0 ∧ (keep.any fun a => a.signal == x.signal && a.sv == x.sv) = false then s.idleChan k else s) s

/-- One chain's allocation: the state and the candidates left out. -/
def State.allocateChain (c : Nat) (order wanted : List SkyCand) (s : State) : State × Nat :=
  if (s.chain c).state = .off then (s, 0)
  else
    let free := wanted.filter fun a =>
      !(s.gnss.barred.any fun b => b.1 == barKey c a.signal a.sv && decide (s.ticks < b.2))
    free.foldl (State.placeCand c order) (s.releaseOthers c order, 0)

/-- The record of a short chain (R139). -/
def State.shortNoted (c left : Nat) (s : State) : State :=
  when (left != 0) (State.recordIn c 0x3010 [.u8 c, .u32 left]) s

/-- The allocation of one band: the ANT_A chain, then the ANT_B chain with the same candidates (R137, R138). -/
def State.allocateBand (upper : Bool) (sky : List SkyCand) (s : State) : State × Bool :=
  let a := b2n upper
  let mask : Int := s.cfg 0x243300
  let order := s.ranked upper ((mask - 2) * 100) sky
  let wanted := s.ranked upper (mask * 100) sky
  let x := s.allocateChain a order wanted
  let held := order.filter fun q => (x.1.holderOf a q).isSome
  let y := x.1.allocateChain (a + 2) held held
  ((y.1.shortNoted a x.2).shortNoted (a + 2) y.2, decide (x.2 + y.2 ≠ 0))

/-- The allocation of a second (R137 to R139). -/
def State.allocate (sky : List SkyCand) (s : State) : State :=
  let x := s.allocateBand false sky
  let y := x.1.allocateBand true sky
  when (x.2 || y.2) (State.count 0x24500B) y.1

/-- A committed bank map takes effect (R117). -/
def State.bankMapApplies (sky : List SkyCand) (s : State) : State :=
  let old := s.gnss.bankMap
  let new := s.cfg 0x243000
  if old = new then s
  else
    let gone := (List.range 512).filter fun k => bankChain old (k / 32) != bankChain new (k / 32)
    let s := each gone State.idleChan s
    (({ s with gnss.bankMap := new }).record 0x3012 [.u32 old, .u32 new]).allocate sky

/-! ### Measurements (R140 to R144) -/

/-- Samples that pass in `past` units of 2^-32 ns, times a word: what the extrapolation back to T takes off (R140). -/
def extrapolation (word : Int) (past : Nat) : Int := word * 163840000 * past / (4294967296 * 1000000000)

/-- Whole seconds of TAI at the start of week, or day, zero of a constellation's time scale, as PTP counts them: GPS and Galileo
TAI − 19 s, BeiDou TAI − 33 s (R164), GLONASS UTC + 3 h. The starts themselves, 6 January 1980 and 1 January 2006 at 0 h UTC,
are PRESUMED from the constellations' interface specifications (assumption 27). -/
def State.scaleStart (signal : Nat) (s : State) : Int :=
  match constellation signal with
  | 0 => 315964800 + 19
  | 1 => 315964800 + 19
  | 2 => 1136073600 + 33
  | _ => (s.cfg 0x204D00 : Int) - 10800

/-- The epoch `t` in a signal's constellation time scale, in ms of its week or day (R141). -/
def State.epochMs (signal : Nat) (t : FT) (s : State) : Int :=
  (((t.sec : Int) - s.scaleStart signal) * 1000 + t.nsec / 1000000) % turnMs signal

/-- What a delay in ps adds to a pseudorange, in 2^-20 m. -/
def delayRange (ps : Int) : Int := ps * 299792458 * 1048576 / 1000000000000

/-- PSEUDORANGE (R141): the speed of light times epoch minus transmit time, less the delays of the held traps (R103) and of
the calibrated chain (R651). `w` is the transmit time at the latest boundary, `n` the samples since, `past` the time by which
the latching sample lies after the epoch. Rounded down. -/
def State.rangeOf (k n past w : Nat) (r : SignalRow) (t : FT) (s : State) : Int :=
  let x := s.chan k
  let c := s.chainOf k
  let part : Int := (((x.chips * 4294967296 + x.frac) % max 1 r.msUnits : Nat) : Int) + n * x.code - extrapolation x.code past
  let q := (s.epochMs x.signal t - w) % turnMs x.signal * r.msUnits - part
  299792458 * 1048576 * q / (r.rate * 4294967296) -
    delayRange (notchDelay (s.chain c).notch (r.intermediate x.gloK) + s.bg.chainDelay.getD c 0)

/-- CARRIER_PHASE (R141) in 2^-16 cycle: the accumulated carrier phase (R123) less what the IF itself puts into it over the
samples, so that its change between epochs is −Doppler × time (R153, C3; DEDUCED, assumption 27), less the phase of the held
traps (R103), with the sign that grows with the range. -/
def State.phaseOf (k n past : Nat) (r : SignalRow) (s : State) : Int :=
  let x := (s.chan k).advance r n
  let f := r.intermediate x.gloK
  let a : Int := (x.cycles : Int) * 4294967296 + x.phase - extrapolation x.carrier past
  let i : Int := f * 4294967296 * x.samples / 163840000 - f * past / 1000000000
  let d := toSigned 64 ((a - i - notchPhase (s.chain (s.chainOf k)).notch f) % 2 ^ 64).toNat
  (-d) / 65536

/-- DOPPLER in 0.001 Hz (R141): the carrier word in force less the IF, positive when the range decreases. -/
def Chan.dopplerMilli (r : SignalRow) (x : Chan) : Int := x.carrier * 10000000 / 262144 - r.intermediate x.gloK * 1000

/-- Is the transmit time of a LOCKED signal fully known (PR_VALID, R142, R146)? -/
def Chan.timed (x : Chan) : Bool := x.state == .locked && x.tow.isSome

/-- W0 of a record (R142). -/
def State.measW0 (k : Nat) (x : Chan) (s : State) : Nat :=
  let locked := x.state == .locked
  x.signal * 2 ^ 56 + x.sv % 256 * 2 ^ 48 + s.chainOf k * 2 ^ 46 + x.gloK % 16 * 2 ^ 42 + b2n x.timed * 2 ^ 41 +
    b2n locked * 2 ^ 40 + b2n x.half * 2 ^ 39 + b2n x.slip * 2 ^ 38 +
    b2n ((s.chain (s.chainOf k)).state != .normal) * 2 ^ 37 + b2n (s.sigOf k).excluded * 2 ^ 36 +
    b2n (isPilot x.signal) * 2 ^ 35 + b2n (s.sigOf k).multipath * 2 ^ 34 + FT.cycle s.now % 256 * 2 ^ 24 +
    min 0xFFFFFF x.lock

/-- The record of a channel for the epoch (R142, R143): `n` samples after its latest boundary. -/
def State.measOf (k n past : Nat) (r : SignalRow) (s : State) : MeasRec :=
  let x := s.chan k
  let range := match x.tow with
    | some w => ofSigned 64 (s.rangeOf k n past w r (FT.cycleStart s.now))
    | none => 0
  ⟨s.measW0 k x, if x.timed then range else 0, if x.state = .locked then ofSigned 64 (s.phaseOf k n past r) else 0,
    ofSigned 32 (x.dopplerMilli r) * 2 ^ 32 + x.cn0 % 65536 * 2 ^ 16 +
      min 255 (Config.prSd x.signal x.cn0 (s.cfg 0x243500) s.spacing) * 256 +
      min 255 (Config.cpSd x.signal x.cn0 (s.cfg 0x243400))⟩

/-- A channel latches (R140): lock time grows, the record is complete, the slip flag has been told. What 0x2445 shows of a
channel that is IDLE at the epoch the spec leaves open; here it keeps the channel's previous record with its old EPOCH_TAG
(DESIGN CHOICE, assumption 27). -/
def State.measured (past : Nat) (since : List Nat) (s : State) (k : Nat) : State :=
  match (s.chan k).state, signalRow (s.chan k).signal with
  | .idle, _ => s
  | _, none => s
  | _, some r =>
    let s := s.modChan k fun x => if x.state = .locked ∧ x.slip = false then { x with lock := min 0xFFFFFF (x.lock + 1) } else x
    let m := s.measOf k (since.getD k 0) past r
    let s := s.modSig k fun g =>
      if (s.chan k).timed then
        { g with cmc := (m.codeMinusCarrier (r.carrier (s.chan k).gloK) :: g.cmc).take 3600 }
      else { g with cmc := [] }
    ({ s with gnss.meas := SMap.insert k m s.gnss.meas, gnss.recorded := k :: s.gnss.recorded }).modChan k fun x =>
      { x with slip := false }

/-- The calibrated group delays move toward the values of the latest run, by at most 10 ps an epoch (R651). -/
def State.delayStep (s : State) : State :=
  { s with bg.chainDelay := List.zipWith (fun a b => a + clamp (-10) 10 (b - a)) s.bg.chainDelay s.bg.chainTarget }

/-- The records of the latest epoch. -/
def State.epochRecs (s : State) : SMap MeasRec := s.gnss.meas.filter fun e => s.gnss.recorded.contains e.1

/-- A measurement epoch (R140): every channel that is not IDLE latches, `since` samples after its latest dump boundary (channel
0 first, 0 where not listed), at a sample `past` units of 2^-32 ns after T. -/
def State.epoch (past : Nat) (since : List Nat) (s : State) : State :=
  let cycle := FT.cycle s.now
  let t := s.delayStep
  let t : State := { t with gnss.prev := if s.gnss.epoch + 1 = cycle then s.epochRecs else [],
                            gnss.epoch := cycle, gnss.recorded := [], gnss.released := false }
  ((t.gnss.chans.keys).foldl (State.measured past since) t).show 0x244400 (FT.toNum (FT.cycleStart s.now))

/-- The channel status word (R144). CHAIN is the chain of the channel's bank also at reset and in IDLE, although R144 says that
all fields are reset to zero (DESIGN CHOICE, assumption 27). -/
def State.chanWord (k : Nat) (s : State) : Nat :=
  let x := s.chan k
  if x.state = .idle then s.chainOf k * 2 ^ 59
  else
    x.state.code * 2 ^ 61 + s.chainOf k * 2 ^ 59 + x.signal * 2 ^ 48 + x.sv % 256 * 2 ^ 40 + x.gloK % 16 * 2 ^ 36 +
      x.cn0 % 65536 * 2 ^ 16 + ofSigned 16 x.doppler

/-! ### Navigation data (R145 to R148, R156) -/

/-- Replace them. -/
def State.setEphemeris (signal sv : Nat) (e : Ephemeris) (s : State) : State :=
  { s with gnss.ephs := SMap.put (fun _ => ⟨none, none⟩) (svKey signal sv) e s.gnss.ephs }

/-- The distance in mm between the positions that two ephemerides give now (R153, C8). -/
def State.ephemerisDistance (a b : List Byte) (s : State) : Nat :=
  let p := Config.satPosition a (FT.ns s.now)
  let q := Config.satPosition b (FT.ns s.now)
  Nat.sqrt ((p.1 - q.1) ^ 2 + (p.2.1 - q.2.1) ^ 2 + (p.2.2 - q.2.2) ^ 2).toNat

/-- A new ephemeris is decoded (R153, R156): C8 rejects one whose position lies more than 50 m from that of the ephemeris in
use, unless it was decoded identically at least 30 s before; a rejected one is kept only as the candidate of that test. -/
def State.newEphemeris (signal sv : Nat) (e : List Byte) (s : State) : State :=
  let old := s.ephemeris signal sv
  match old.used with
  | none => s.setEphemeris signal sv ⟨some e, none⟩
  | some u =>
    if u = e then s
    else
      let first := match old.cand with
        | some c => if c.1 = e then c.2 else s.ticks
        | none => s.ticks
      let far := s.ephemerisDistance e u
      if (s.cfg 0x246000).testBit 7 = true ∧ 50000 < far ∧ s.ticks - first < secTicks 30 then
        ((s.setEphemeris signal sv ⟨some u, some (e, first)⟩).count 0x248008).record 0x3027 [.u8 signal, .u8 sv, .i64 far]
      else s.setEphemeris signal sv ⟨some e, none⟩

/-- What a unit that passes its check is used for (R146, R449). -/
def State.navUsed (k : Nat) (u : NavUnit) (s : State) : State :=
  let x := s.chan k
  let s := match u.utc with
    | some n => ({ s with ptp.utcValid := true }).setCfg 0x204D00 (.num n)
    | none => s
  let s := match u.eph with
    | some e => s.newEphemeris x.signal x.sv e
    | none => s
  s.modChan k fun x => { x with tow := match u.tow with
                                | some w => some (w % turnMs x.signal)
                                | none => x.tow,
                                half := x.half || u.half }

/-- A unit is decoded on a channel (R145 to R147). -/
def State.navDecoded (k : Nat) (u : NavUnit) (s : State) : State :=
  let x := s.chan k
  if (x.state = .track ∨ x.state = .locked) ∧ ((signalRow x.signal).any fun r => u.fits r) = true then
    let n : NavRec := ⟨s.gnss.navNext, x.signal, x.sv, s.chainOf k, !u.pass, u.first, u.bits.length, u.row.val,
      packBits 80 u.bits⟩
    let s : State := { s with gnss.nav := (n :: s.gnss.nav).take 1024, gnss.navNext := (s.gnss.navNext + 1) % 2 ^ 32 }
    if u.pass then (s.count 0x245009).navUsed k u else s.count 0x24500A
  else s

/-- The 108 octets of a record (R147). -/
def NavRec.bytes (n : NavRec) : List Byte :=
  leBytes 4 n.seq ++ [byte n.signal, byte n.sv, byte n.chain, byte (b2n n.fail)] ++ FT.bytes n.first ++ leBytes 2 n.length ++
    [byte n.row, 0#8] ++ n.data

/-- A read of 0x2448 (R148). -/
def State.navRead (s : State) : List Byte :=
  match s.gnss.nav.find? fun n => n.seq == s.cfg 0x244700 with
  | some n => n.bytes
  | none => List.replicate 4 0xFF#8 ++ zeros 104

/-! ### The commands -/

/-- BANK_MAP_CHANGED (R117). -/
def execBankMapChanged (sky : List SkyCand) (s : State) : Host.Outcome State Fault Refusal :=
  .next (s.inCorr (State.bankMapApplies sky))

/-- CORRELATOR_DUMP (R122): the loop operation's template, and its key above the channel number. -/
def execCorrelatorDump (ch : Fin 512) (taps : Taps) (template hi : Nat) (s : State) : Host.Outcome State Fault Refusal :=
  .next (s.inCorr (State.dump ch.val taps template hi))

/-- NCO_UPDATE (R126): `late` if it reaches the bank less than 32 samples before the boundary. -/
def execNcoUpdate (ch : Fin 512) (carrier code shift : Int) (late : Bool) (s : State) :
    Host.Outcome State Fault Refusal := .next (s.inCorr (State.ncoWords ch.val carrier code shift late))

/-- ACQ_REQUEST (R127). -/
def execAcqRequest (ch : Fin 512) (again : Bool) (s : State) : Host.Outcome State Fault Refusal :=
  .next (s.inCorr (State.chanAsks ch.val again))

/-- ACQ_SEARCH_COMPLETE (R131). -/
def execAcqSearchComplete (engine : Fin 2) (ratio bin phase : Nat) (s : State) : Host.Outcome State Fault Refusal :=
  .next (s.inCorr (State.searchDone engine.val ratio bin phase))

/-- TRACK_LOOP_UPDATE (R134). -/
def execTrackLoopUpdate (ch : Fin 512) (code sync late : Bool) (offM : Fin 193) (s : State) :
    Host.Outcome State Fault Refusal := .next (s.inCorr (State.loopUpdate ch.val code sync late offM.val))

/-- PULL_IN_TIMEOUT (R132). -/
def execPullInTimeout (ch : Fin 512) (s : State) : Host.Outcome State Fault Refusal :=
  .next (s.inCorr (State.pullInOver ch.val))

/-- REACQUIRE_TIMEOUT (R132). -/
def execReacquireTimeout (ch : Fin 512) (s : State) : Host.Outcome State Fault Refusal :=
  .next (s.inCorr (State.reacquireOver ch.val))

/-- CHANNEL_ALLOCATION (R137). -/
def execChannelAllocation (sky : List SkyCand) (s : State) : Host.Outcome State Fault Refusal :=
  .next (s.inCorr (State.allocate sky))

/-- MEASUREMENT_EPOCH (R140). -/
def execMeasurementEpoch (past : Nat) (since : List Nat) (s : State) : Host.Outcome State Fault Refusal :=
  .next (s.inCorr (State.epoch past since))

/-- NAV_UNIT_DECODED (R146). -/
def execNavUnitDecoded (ch : Fin 512) (u : NavUnit) (s : State) : Host.Outcome State Fault Refusal :=
  .next (s.inCorr (State.navDecoded ch.val u))

end Sys2Proof.Machine
end

