-- ==== Sys2Proof/Machine/Rtcm.lean ====
section
/-!
DEFINITION. RTCM output (R181, R190 to R196, R370). R190 names the messages of RTCM 10403.3, whose bit layout the spec does not
repeat: message and field order, widths, units and invalid codes are PRESUMED from that standard (assumption 22).
-/

namespace Sys2Proof.Machine

/-! ### Bits and frames -/

/-- A field of `w` bits in two's complement, most significant first. -/
def intBits (w : Nat) (z : Int) : List Bool := natBits w (ofSigned w z)

/-- `z / d` to the nearest whole number, halves up. -/
def roundDiv (z d : Int) : Int := (2 * z + d) / (2 * d)

/-- Text with its length in front. -/
def textBits (t : List Byte) : List Bool := natBits 8 t.length ++ bytesBits t

/-- The frame of a message (R191): preamble 0xD3, length, message filled up to whole octets, CRC-24Q. -/
def rtcmFrame (bits : List Bool) : List Byte :=
  let n := (bits.length + 7) / 8
  let head := bytesBits [0xD3#8] ++ natBits 16 (n % 1024) ++ bytesBits (packBits n bits)
  packBits (n + 6) (head ++ natBits 24 (crc24q head))

/-- Decimal digits of a number, as characters. -/
def digits (n : Nat) : List Byte := (Nat.toDigits 10 n).map fun c => byte c.toNat

/-- Characters of a text. -/
def chars (t : String) : List Byte := t.toList.map fun c => byte c.toNat

/-! ### Station, descriptor and bias messages (R195) -/

/-- Message number and reference station ID. -/
def State.rtcmHead (n : Nat) (s : State) : List Bool := natBits 12 n ++ natBits 12 (s.cfg 0x282000)

/-- 1005, or 1006 with the antenna height (R195): the indicators of GPS, GLONASS and Galileo service follow 0x2823 (PRESUMED). -/
def State.stationMsg (s : State) : List Bool :=
  let on := fun (b : Nat) => (s.cfg 0x282300).testBit b
  let p := s.antPosition 0
  let height := s.cfg 0x282100 == 1
  s.rtcmHead (if height then 1006 else 1005) ++ natBits 6 0 ++ [on 0, on 3, on 1, true] ++ intBits 38 p.1 ++ [false, false] ++
    intBits 38 p.2.1 ++ [false, false] ++ intBits 38 p.2.2 ++ (if height then natBits 16 (s.shownNat 0x280204) else [])

/-- 1033 (R195). The version is that of the runtime image in service, major, minor and patch in decimal with points between; the
serial number is in decimal (DESIGN CHOICE, assumption 22). -/
def State.descriptorMsg (s : State) : List Bool :=
  let v := (s.serving.map fun i => i.version).getD 0
  s.rtcmHead 1033 ++ textBits (s.cfgOct 0x282400) ++ natBits 8 (s.cfg 0x282500) ++ textBits (s.cfgOct 0x282600) ++
    textBits (chars "GLILAS VN9640") ++
    textBits (digits (v / 2 ^ 24) ++ chars "." ++ digits (v / 2 ^ 16 % 256) ++ chars "." ++ digits (v % 2 ^ 16)) ++
    textBits (digits Config.serial)

/-- A delay in ps as a bias in 0.02 m, saturating. -/
def biasOf (ps : Int) : Int := clamp (-32767) 32767 (roundDiv (ps * 299792458) 20000000000)

/-- 1230 (R195): bias indicator 0, the L1 C/A and L2 C/A biases of the chains that serve ANT_A, 1 and 0. -/
def State.biasMsg (s : State) : List Bool :=
  s.rtcmHead 1230 ++ natBits 4 0 ++ [true, false, true, false] ++ intBits 16 (biasOf (s.bg.gloBias.getD 1 0)) ++
    intBits 16 (biasOf (s.bg.gloBias.getD 0 0))

/-! ### MSM7 (R192 to R194) -/

/-- The MSM signal ID of a signal code (R192). -/
def msmId (code : Nat) : Option Nat :=
  ([(0x01, 2), (0x02, 31), (0x03, 16), (0x04, 23), (0x11, 2), (0x14, 8), (0x13, 15), (0x12, 23), (0x21, 2), (0x25, 8),
    (0x31, 2), (0x32, 8)].find? fun e => e.1 == code).map Prod.snd

/-- The constellation of an MSM7 message number. -/
def msmSystem (n : Nat) : Nat :=
  match n with
  | 1077 => 0 | 1097 => 1 | 1127 => 2 | _ => 3

/-- The records that an MSM7 message carries (R192): in the base observables, PR_VALID, with a signal ID; by satellite, then by
signal ID. -/
def msmRecs (n : Nat) (b : BaseEpoch) : List MeasRec :=
  let l := b.recs.filter fun m => constellation m.signal == msmSystem n && m.prValid && (msmId m.signal).isSome
  l.mergeSort fun a c =>
    decide (a.sv * 64 + (msmId a.signal).getD 0 ≤ c.sv * 64 + (msmId c.signal).getD 0)

/-- Bits of an MSM7 message with so many satellites, signals and cells. -/
def msmBits (sats sigs cells : Nat) : Nat := 169 + sats * sigs + 36 * sats + 80 * cells

/-- Do records fit one message (R194): 64 cells in the mask, 1,023 octets? -/
def msmFits (l : List MeasRec) : Bool :=
  let sats := (l.map MeasRec.sv).eraseDups.length
  let sigs := (l.map MeasRec.signal).eraseDups.length
  decide (sats * sigs ≤ 64) && decide (msmBits sats sigs l.length ≤ 8 * 1023)

/-- Records by message: each takes the satellites in ascending order as long as they fit (R194). -/
def msmSplit : List Nat → List MeasRec → List MeasRec → List (List MeasRec)
  | [], cur, _ => if cur.isEmpty then [] else [cur]
  | sv :: svs, cur, l =>
    let next := cur ++ l.filter fun m => m.sv == sv
    if cur.isEmpty || msmFits next then msmSplit svs next l
    else cur :: msmSplit svs (l.filter fun m => m.sv == sv) l

/-- The messages of one number. -/
def msmMessages (n : Nat) (b : BaseEpoch) : List (List MeasRec) :=
  let l := msmRecs n b
  msmSplit (l.map MeasRec.sv).eraseDups [] l

/-- Epoch time of the header: ms of the week, for GLONASS the day of the week and ms of the day (Moscow time). -/
def State.msmTime (sys : Nat) (t : FT) (s : State) : List Bool :=
  let ms := (s.epochMs (sys * 16) t).toNat
  if sys = 3 then
    natBits 3 ((((t.sec : Int) - s.scaleStart 0x31) / 86400 + 4) % 7).toNat ++ natBits 27 ms
  else natBits 30 ms

/-- A pseudorange in 2^-20 m as 2^-31 ms of light travel. -/
def rangeMs (w1 : Nat) : Int := roundDiv ((w1 : Int) * 2048 * 1000) 299792458

/-- The rough range of a satellite in 2^-10 ms, from its first record. -/
def roughOf (l : List MeasRec) : Int := match l with
  | m :: _ => roundDiv (rangeMs m.w1) (2 ^ 21)
  | [] => 0

/-- The carrier phase range of a record in 2^-31 ms, `cycles` whole cycles taken off. -/
def phaseMs (cycles : Int) (m : MeasRec) : Int :=
  roundDiv ((m.phase - 65536 * cycles) * 2 ^ 15 * 1000) (max 1 m.carrier)

/-- The whole cycles that bring a record's phase range to its pseudorange. -/
def alignCycles (m : MeasRec) : Int := roundDiv (m.phase * 2 ^ 15 * 1000 - rangeMs m.w1 * m.carrier) (2 ^ 31 * 1000)

/-- The range rate of a record in 0.0001 m/s: −Doppler × wavelength. -/
def rateUnits (m : MeasRec) : Int := roundDiv ((-m.doppler) * 299792458 * 10) (max 1 m.carrier)

/-- The rough range rate of a satellite in m/s, from its first record with valid phase. -/
def roughRate (l : List MeasRec) : Option Int := (l.find? MeasRec.cpValid).map fun m => roundDiv (rateUnits m) 10000

/-- A value in a field of `w` bits; the invalid code, its most negative value, where there is none or it does not fit. -/
def fineBits (w : Nat) (z : Option Int) : List Bool :=
  match z with
  | some x => if -2 ^ (w - 1) < x ∧ x < 2 ^ (w - 1) then intBits w x else natBits w (2 ^ (w - 1))
  | none => natBits w (2 ^ (w - 1))

/-- The lock time indicator with extended resolution of a lock time in ms. -/
def lockBits (ms : Nat) : List Bool :=
  if ms < 64 then natBits 10 ms
  else
    let k := min 21 (Nat.log2 ms - 5)
    natBits 10 (min 704 (32 * k + ms / 2 ^ k))

/-- The cycles taken off a record's phase since it came into lock (`held`: key, cycles, epoch), kept as long as the lock lasts. -/
def cyclesFor (held : List (Nat × Int × Nat)) (cycle : Nat) (m : MeasRec) : Int :=
  match held.find? fun e => e.1 == m.w0 / 2 ^ 48 with
  | some (_, n, at_) => if cycle - at_ ≤ m.w0 % 2 ^ 24 ∧ (phaseMs n m - rangeMs m.w1).natAbs < 2 ^ 22 then n else alignCycles m
  | none => alignCycles m

/-- One MSM7 message (R192, R193) of records in order; `more` is the multiple message bit. -/
def State.msmMsg (n : Nat) (b : BaseEpoch) (l : List MeasRec) (more : Bool) (s : State) : List Bool :=
  let locked := s.time.state == .lockedGnss || s.time.state == .lockedPtpA || s.time.state == .lockedPtpB
  let sats := (l.map MeasRec.sv).eraseDups
  let ids := (List.range 33).filter fun i => l.any fun m => msmId m.signal == some i
  let of := fun (sv : Nat) => l.filter fun m => m.sv == sv
  let fine := fun (m : MeasRec) => rangeMs m.w1 - roughOf (of m.sv) * 2 ^ 21
  let rate := fun (m : MeasRec) => (roughRate (of m.sv)).map fun r => rateUnits m - r * 10000
  let phase := fun (m : MeasRec) => if m.cpValid then some (phaseMs (cyclesFor s.corr.cycles b.cycle m) m - roughOf (of m.sv) * 2 ^ 21) else none
  s.rtcmHead n ++ s.msmTime (msmSystem n) (cycleInstant b.cycle) ++ [more] ++ natBits 3 0 ++ natBits 7 0 ++
    natBits 2 (b2n locked) ++ natBits 2 (if locked then 1 else 2) ++ natBits 1 0 ++ natBits 3 0 ++
    ((List.range 64).map fun i => sats.contains (i + 1)) ++ ((List.range 32).map fun i => ids.contains (i + 1)) ++
    sats.flatMap (fun sv => ids.map fun i => (of sv).any fun m => msmId m.signal == some i) ++
    sats.flatMap (fun sv => natBits 8 (min 255 (roughOf (of sv) / 1024).toNat)) ++
    sats.flatMap (fun sv => natBits 4 (((of sv).find? fun m => isFdma m.signal).map MeasRec.gloK |>.getD 0)) ++
    sats.flatMap (fun sv => natBits 10 (roughOf (of sv) % 1024).toNat) ++
    sats.flatMap (fun sv => fineBits 14 (roughRate (of sv))) ++
    l.flatMap (fun m => fineBits 20 (some (roundDiv (fine m) 4))) ++ l.flatMap (fun m => fineBits 24 (phase m)) ++
    l.flatMap (fun m => lockBits (m.w0 % 2 ^ 24 * 100)) ++ l.flatMap (fun m => [!m.w0.testBit 39]) ++
    l.flatMap (fun m => natBits 10 (min 1023 ((m.w3 / 65536 % 65536) * 16 / 100))) ++
    l.flatMap fun m => fineBits 15 (if m.cpValid then rate m else none)

/-! ### Backlog, sinks and epochs (R191, R196, R370) -/

/-- Octets of a backlog. -/
def backlogLength (l : List (Nat × List Byte)) : Nat := (l.map fun m => m.2.length).sum

/-- Whole messages leave a backlog, oldest first, until it holds at most 16 KiB; the octets dropped beside it (R370). -/
def trimBacklog : List (Nat × List Byte) → List (Nat × List Byte) × Nat
  | [] => ([], 0)
  | m :: l =>
    if 16384 < backlogLength (m :: l) then ((trimBacklog l).1, m.2.length + (trimBacklog l).2) else (m :: l, 0)

/-- A message joins the backlog of port `n`. -/
def State.queueRtcm (at_ : Nat) (msg : List Byte) (n : Nat) (s : State) : State :=
  if s.airEnabled.testBit n then
    let r := trimBacklog ((s.airPort n).backlog ++ [(at_, msg)])
    (s.modPort n fun p => { p with backlog := r.1 }).countN 0x303013 r.2
  else s

/-- One composed message goes to the radio and to the sinks (R196). -/
def State.sendRtcm (msg : List Byte) (s : State) : State :=
  let at_ := s.corr.stream
  let s := ({ s with corr.stream := at_ + msg.length } : State).count 0x28400C
  let s := when (s.cfg 0x282800 == 1) (each (List.range 8) (State.queueRtcm at_ msg)) s
  when s.pair.output (State.sendSinks 4352 0x282700 4 msg) s

/-- The base observables of the epoch `t`. -/
def State.baseAt (t : FT) (s : State) : Option BaseEpoch := s.pipe.bases.find? fun b => b.cycle == FT.cycle t

/-- Is message `n` due at the epoch `t` (R190, R191)? -/
def State.rtcmDue (n : Nat) (t : FT) (s : State) : Bool :=
  let whole := fun (o : Nat) => t.nsec == 0 && t.sec % s.cfg o == 0
  let msm := fun (b : Nat) => (s.cfg 0x282300).testBit b && t.nsec / 100000000 % s.cfg 0x282201 == 0
  match n with
  | 1005 => s.cfg 0x282100 == 0 && (whole 0x282202 || s.corr.station)
  | 1006 => s.cfg 0x282100 == 1 && (whole 0x282202 || s.corr.station)
  | 1033 => whole 0x282203
  | 1230 => whole 0x282204
  | 1077 => msm 0
  | 1097 => msm 1
  | 1127 => msm 2
  | 1087 => msm 3
  | _ => false

/-- The MSM7 messages due at an epoch with its base observables, in the order of R190: number and records. -/
def State.msmDue (t : FT) (s : State) : List (Nat × List MeasRec) :=
  match s.baseAt t with
  | some b => ([1077, 1087, 1097, 1127].filter fun n => s.rtcmDue n t).flatMap fun n => (msmMessages n b).map fun l => (n, l)
  | none => []

/-- How often R194 splits: messages beyond the first of each number. -/
def splitCount (l : List (Nat × List MeasRec)) : Nat := l.length - (l.map Prod.fst).eraseDups.length

/-- The MSM7 messages of an epoch as bits: the multiple message bit in all but the last (R194). -/
def State.msmBody (b : BaseEpoch) (s : State) : List (Nat × List MeasRec) → List (List Bool)
  | [] => []
  | x :: l => s.msmMsg x.1 b x.2 (!l.isEmpty) :: s.msmBody b l

/-- The messages due at the epoch `t`, framed (R190 to R195). -/
def State.rtcmMessages (t : FT) (s : State) : List (List Byte) :=
  let one := fun (n : Nat) (m : List Bool) => if s.rtcmDue n t then [m] else []
  let msm := match s.baseAt t with
    | some b => s.msmBody b (s.msmDue t)
    | none => []
  (one (if s.cfg 0x282100 = 1 then 1006 else 1005) s.stationMsg ++ one 1033 s.descriptorMsg ++ one 1230 s.biasMsg ++
    msm).map rtcmFrame

/-- The cycles taken off the phases sent, for the next epoch. -/
def State.noteCycles (t : FT) (s : State) : State :=
  match s.baseAt t with
  | none => s
  | some b =>
    let new := ((s.msmDue t).flatMap Prod.snd).filter MeasRec.cpValid
    let keys := new.map fun m => m.w0 / 2 ^ 48
    { s with corr.cycles := (new.map fun m => (m.w0 / 2 ^ 48, cyclesFor s.corr.cycles b.cycle m, b.cycle)) ++
                            s.corr.cycles.filter fun e => !keys.contains e.1 && decide (b.cycle - e.2.2 ≤ 2 ^ 24) }

/-- The messages due at the epoch of the present cycle are composed and sent: none before ANT_A has a committed position (R181). -/
def State.rtcmEpoch (s : State) : State :=
  if (s.shownNat 0x280700).testBit 0 then
    let t := FT.cycleStart s.now
    let station := s.rtcmDue 1005 t || s.rtcmDue 1006 t
    let r := ((each (s.rtcmMessages t) State.sendRtcm s).countN 0x28400D (splitCount (s.msmDue t)))
    let c := (s.noteCycles t).corr.cycles
    { r with corr.station := s.corr.station && !station, corr.cycles := c }
  else s

end Sys2Proof.Machine
end

