-- ==== Sys2Proof/Machine/Survey.lean ====
section
/-!
DEFINITION. The survey of the antennas (R183, R184).
-/

namespace Sys2Proof

/-- C/N0 of a record (R142), in 0.01 dB-Hz. -/
def MeasRec.cn0 (m : MeasRec) : Nat := m.w3 / 65536 % 65536

/-- A record as a signal of a rover (R184), in the units of `ObsSig`. -/
def MeasRec.obsSig (m : MeasRec) : ObsSig :=
  let f := max 1 m.carrier
  { signal := m.signal, sv := m.sv, gloK := m.gloK, code := if m.prValid then some (m.w1 * 512000) else none,
    phase := if m.cpValid then some (m.phase * 299792458 * 1000 * 2 ^ 13 / f) else none,
    rate := (-m.doppler) * 299792458 / f, lock := Machine.lockInd (m.w0 % 2 ^ 24), half := m.w0.testBit 39, slip := m.slip,
    cn0 := m.cn0 / 25 }

end Sys2Proof

namespace Sys2Proof.Machine

/-- The records of an antenna that are neither flagged (R106) nor excluded (R158), with their channels: 0 ANT_A, 1 ANT_B. -/
def State.cleanRecs (ant : Nat) (s : State) : List (Nat × MeasRec) :=
  s.epochRecs.filter fun e => e.2.chain / 2 == ant && !e.2.notNormal && !e.2.excluded

/-- What the single-point solution of an epoch is formed from (R183): the ANT_A signals of the base observables. -/
def State.pointObs (s : State) : List PointOb :=
  (s.cleanRecs 0).filterMap fun e =>
    if e.2.prValid then
      (s.ephOf e.2.signal e.2.sv).map fun eph =>
        ⟨e.2.signal, e.2.sv, e.2.gloK, e.2.w1, usedSd e.2.multipath e.2.prSd, (s.sigOf e.1).cmc, eph⟩
    else none

/-- Satellites seen in both bands, which an ionosphere-free solution needs. -/
def dualSatellites (l : List PointOb) : List Nat :=
  let band := fun (upper : Bool) =>
    (l.filter fun o => (signalRow o.signal).any fun r => r.upper == upper).map fun o => svKey o.signal o.sv
  ((band true).filter (band false).contains).eraseDups

/-- An epoch's solution enters the mean of the survey and of its 300 s block (R183), given 5 satellites in both bands: the least
that R163 asks of a solution without a position (DEDUCED, assumption 22). -/
def State.surveyPoint (s : State) : State :=
  let l := s.pointObs
  if (dualSatellites l).length < 5 then s
  else
    let p := Config.singlePoint (FT.ns (FT.cycleStart s.now)) l
    { s with corr := { s.corr with sum := vadd s.corr.sum p, count := s.corr.count + 1, blockSum := vadd s.corr.blockSum p,
                                   blockCount := s.corr.blockCount + 1 } }

/-- A mean of vectors from their sum. -/
def meanVec (sum : Vec) (n : Nat) : Vec := (sum.1 / n, sum.2.1 / n, sum.2.2 / n)

/-- The running ANT_A mean. -/
def State.surveyMean (s : State) : Vec := meanVec s.corr.sum s.corr.count

/-- The 1-sigma uncertainty of the mean in mm, from the spread of the 300 s block means (R183): that of a mean of independent
blocks, over all three axes, rounded up; none yet with fewer than two blocks (DESIGN CHOICE, assumption 22). -/
def surveySigma (l : List Vec) : Nat :=
  let k := l.length
  if k < 2 then 0xFFFFFFFF
  else
    let m := meanVec (l.foldl vadd (0, 0, 0)) k
    let ss := (l.map fun x => (dot (vsub x m) (vsub x m)).toNat).sum
    min 0xFFFFFFFF ((Nat.sqrt (ss / (k * (k - 1))) + 9) / 10)

/-- An epoch of ANT_B as a rover of the running ANT_A mean (R184). -/
def State.roverEpoch (b : BaseEpoch) (s : State) : State :=
  if s.corr.count = 0 then s
  else
    let ref := s.surveyMean
    let o : Obs := ⟨0, false, false, (s.cleanRecs 1).map fun e => e.2.obsSig⟩
    let x := (s.corr.rover.epoch s.solveSet ref s.ephOf b.cycle (b.view b.cycle 0) o).solver
    let fixed := x.solve == .fixed
    let v := toEarth (localAxes ref) (x.result 0, x.result 1, x.result 2)
    let old := s.corr.baselines.filter fun e => decide (s.ticks - e.1 < secTicks 60)
    let new : List (Nat × Int × Int × Int) := if fixed then [(s.ticks, v.1 / 100, v.2.1 / 100, v.2.2 / 100)] else []
    { s with corr := { s.corr with rover := x, baselines := new ++ old, fixedSince := since fixed s.ticks s.corr.fixedSince } }

/-- An epoch of SURVEY, with the base observables it released (R183, R184). -/
def State.surveyEpoch (b : BaseEpoch) (s : State) : State :=
  if s.power.mode = .survey then s.surveyPoint.roverEpoch b else s

/-- Write X, Y, Z of a survey result into 0x2808 or 0x2809. -/
def State.surveyShown (i : Nat) (v : Vec) (sigma : Nat) (s : State) : State :=
  (((s.show (i * 256 + 1) v.1).show (i * 256 + 2) v.2.1).show (i * 256 + 3) v.2.2).show (i * 256 + 4)
    (min sigma 0xFFFFFFFF : Nat)

/-- A second more of survey. -/
def State.surveyTime (i : Nat) (s : State) : State :=
  s.show (i * 256 + 5) (min (s.shownNat (i * 256 + 5) + 1) 0xFFFFFFFF : Nat)

/-- At the end of each 300 s the block's mean joins the others (R183). -/
def State.surveyBlock (s : State) : State :=
  if s.shownNat 0x280805 % 300 = 0 ∧ 0 < s.corr.blockCount then
    { s with corr := { s.corr with blocks := meanVec s.corr.blockSum s.corr.blockCount :: s.corr.blocks, blockSum := (0, 0, 0),
                                   blockCount := 0 } }
  else s

/-- The ANT_A result (R183). -/
def State.surveyA (s : State) : State :=
  let s := (s.surveyTime 0x2808).surveyBlock
  if s.corr.count = 0 then s else s.surveyShown 0x2808 s.surveyMean (surveySigma s.corr.blocks)

/-- The ANT_B result (R184): the ANT_A mean plus the mean of the fixed baselines of the last 60 s. -/
def State.surveyB (s : State) : State :=
  let s := s.surveyTime 0x2809
  let l := (s.corr.baselines.filter fun e => decide (s.ticks - e.1 < secTicks 60)).map Prod.snd
  if l = [] then s
  else
    s.surveyShown 0x2809 (vadd s.surveyMean (meanVec (l.foldl vadd (0, 0, 0)) l.length))
      (Config.surveySigmaB (surveySigma s.corr.blocks) l)

/-- POS_STATUS with a bit set. -/
def State.posBit (b : Nat) (s : State) : State := s.show 0x280700 (setBit (s.shownNat 0x280700) b true : Nat)

/-- A survey becomes complete: its bit, and one record per survey (R226). -/
def State.surveyDone (ant i : Nat) (s : State) : State :=
  if (s.shownNat 0x280700).testBit (2 + ant) then s
  else (s.posBit (2 + ant)).record 0x4001
    [.u8 ant, .i64 (s.shownVal (i * 256 + 1)).int, .i64 (s.shownVal (i * 256 + 2)).int,
     .i64 (s.shownVal (i * 256 + 3)).int, .u32 (s.shownNat (i * 256 + 4)), .u32 (s.shownNat (i * 256 + 5))]

/-- Has the ANT_B baseline been FIXED for 60 s without interruption (R184)? -/
def State.fixedMinute (s : State) : Bool :=
  match s.corr.fixedSince with
  | some t => decide (secTicks 60 ≤ s.ticks - t)
  | none => false

/-- One second of SURVEY (R183, R184). -/
def State.surveySecond (s : State) : State :=
  if s.power.mode = .survey then
    let s := s.surveyA.surveyB
    let s := when (decide (s.cfg 0x280500 ≤ s.shownNat 0x280805) && decide (s.shownNat 0x280804 ≤ s.cfg 0x280600))
      (State.surveyDone 0 0x2808) s
    when ((s.shownNat 0x280700).testBit 2 && s.fixedMinute) (State.surveyDone 1 0x2809) s
  else s

end Sys2Proof.Machine
end

