-- ==== Sys2Proof/Machine/Solve.lean ====
section
/-!
DEFINITION. The commands of chapter 06: Solve epochs, the survey, the commit of the reference position.
-/

namespace Sys2Proof.Machine

/-! ### The commit (R185 to R188) -/

/-- Does a value of 0x2804 name ANT_A (bit 0) or ANT_B (bit 1)? -/
def namesAnt (v ant : Nat) : Bool := v.testBit ant

/-- Coordinate `i` (1 to 3) that a value of 0x2804 gives an antenna (R185). -/
def State.refSource (v ant i : Nat) (s : State) : Int :=
  if 0x10 ≤ v then (s.shownVal ((0x2808 + ant) * 256 + i)).int else s.cfgI ((0x2800 + ant) * 256 + i)

/-- Coordinate `i` of an antenna's committed position. -/
def State.refNow (ant i : Nat) (s : State) : Int := (s.shownVal ((0x2802 + ant) * 256 + i)).int

/-- Coordinate `i` after the commit. -/
def State.refAfter (v ant i : Nat) (s : State) : Int := if namesAnt v ant then s.refSource v ant i else s.refNow ant i

/-- Squared distance from the Earth's centre of an antenna after the commit, in units of 0.1 mm. -/
def State.refRadius2 (v ant : Nat) (s : State) : Int :=
  s.refAfter v ant 1 ^ 2 + s.refAfter v ant 2 ^ 2 + s.refAfter v ant 3 ^ 2

/-- Does an antenna have a position after the commit? -/
def State.refHas (v ant : Nat) (s : State) : Bool := namesAnt v ant || (s.shownNat 0x280700).testBit ant

/-- Is an antenna's distance from the Earth's centre after the commit outside 6,300,000 to 6,450,000 m? -/
def State.refFar (v ant : Nat) (s : State) : Bool :=
  s.refHas v ant && (decide (s.refRadius2 v ant < 63000000000 ^ 2) || decide (64500000000 ^ 2 < s.refRadius2 v ant))

/-- Do the antennas lie more than 1,000 m apart after the commit? -/
def State.refApart (v : Nat) (s : State) : Bool :=
  s.refHas v 0 && s.refHas v 1 &&
    decide (10000000 ^ 2 < (s.refAfter v 0 1 - s.refAfter v 1 1) ^ 2 + (s.refAfter v 0 2 - s.refAfter v 1 2) ^ 2 +
      (s.refAfter v 0 3 - s.refAfter v 1 3) ^ 2)

/-- The mode row of R186. -/
def State.refMode (s : State) : Bool :=
  if s.inPair then s.power.mode == .active && s.stop.latch
  else s.power.mode == .survey || s.power.mode == .maintain

/-- The cases of R186 and R570; `peerSpent` says that the standby's budget is spent. -/
def State.posCommitCheck (role : Nat) (v : List Byte) (peerSpent : Bool) (s : State) : Nat :=
  let n := leNat v
  let st := s.shownNat 0x280700
  firstCode [
    s.admits role 0x280400,
    if s.refMode then 0 else 0x11,
    fits 0x280400 v,
    firstCase [
      (s.inPair && !s.peerSynced, 0x15),
      (s.limitSpent 1 || (s.inPair && peerSpent), 0x31),
      (s.corr.pending.isSome, 0x10),
      (decide (0x10 ≤ n) && ((namesAnt n 0 && !st.testBit 2) || (namesAnt n 1 && !st.testBit 3)), 0x41),
      (namesAnt n 1 && !s.refHas n 0, 0x41),
      (s.refFar n 0 || s.refFar n 1, 0x41),
      (s.refApart n, 0x41)]]

/-- An accepted write waits for the next slot 0 and is logged (R187, R188). -/
def State.posAccepted (role port sess : Nat) (v : List Byte) (s : State) : State :=
  let s : State := { s with corr.pending := some ⟨leNat v, role, port, sess⟩, pipe.commits := s.pipe.commits + 1 }
  s.logWrite 0x280400 0 v

/-- A write of 0x2804 with its answer. -/
def State.posCommit (w : Writer) (v : List Byte) (peerSpent : Bool) (s : State) : State :=
  let code := s.posCommitCheck (s.roleOf w) v peerSpent
  s.commandWrite w 0x280400 (if code = 0 then 1 else code)
    (State.posAccepted (s.roleOf w) w.port.val w.session v)

/-- The coordinates of an antenna before and after the commit, for record 0x4002. -/
def State.refItems (v ant : Nat) (s : State) : List Item :=
  if namesAnt v ant then
    ([1, 2, 3].map fun i => .i64 (s.refNow ant i)) ++ [1, 2, 3].map fun i => .i64 (s.refAfter v ant i)
  else []

/-- Replace an antenna's committed position. -/
def State.refReplace (v ant : Nat) (old s : State) : State :=
  if namesAnt v ant then
    (each [1, 2, 3] (fun i s => s.show ((0x2802 + ant) * 256 + i) (old.refSource v ant i)) s).posBit ant
  else s

/-- The antenna height is committed with a staged ANT_A (R185). -/
def State.refHeight (v : Nat) (s : State) : State :=
  if namesAnt v 0 && decide (v < 0x10) then s.show 0x280204 (s.cfgI 0x280004) else s

/-- Does the commit change the ANT_A position (R187)? -/
def State.refMoves (v : Nat) (s : State) : Bool :=
  namesAnt v 0 && (!(s.shownNat 0x280700).testBit 0 || [1, 2, 3].any fun i => s.refNow 0 i != s.refAfter v 0 i)

/-- The commit applies at slot 0 (R187, R580). -/
def State.refApply (verified : Bool) (s : State) : State :=
  match s.corr.pending with
  | none => s
  | some c =>
    let old := s
    let s := ({ s with corr.pending := none } : State).spend 1 c.role c.port c.sess [byte c.value] verified
    if verified then
      let s := (State.refReplace c.value 1 old (State.refReplace c.value 0 old s)).refHeight c.value
      let s := s.record 0x4002
        ([.u8 (c.value % 4)] ++ old.refItems c.value 0 ++ old.refItems c.value 1 ++ [.u8 (c.value / 16)])
      let s := when (old.refMoves c.value) (each machineNumbers fun k s => s.clearFilter k 1) s
      when (old.refMoves c.value || s.shownVal 0x280204 != old.shownVal 0x280204)
        (fun s => { s with corr.station := true }) s
    else s

/-! ### The commands -/

/-- SOLVE_EPOCH of machine `k` (R206 to R218, R238). -/
def execSolveEpoch (k : Fin 129) (s : State) : Host.Outcome State Fault Refusal := .next (s.solveDone k.val)

/-- MISSING_EPOCH of machine `k` (R215, R216). -/
def execMissingEpoch (k : Fin 129) (s : State) : Host.Outcome State Fault Refusal := .next (s.missingEpoch k.val)

/-- FILTER_TIMEOUT of machine `k` (R216). -/
def execFilterTimeout (k : Fin 129) (s : State) : Host.Outcome State Fault Refusal := .next (s.filterTimeout k.val)

/-- SURVEY_UPDATE (R183, R184). -/
def execSurveyUpdate (s : State) : Host.Outcome State Fault Refusal := .next s.surveySecond

/-- POS_COMMIT (R185, R186). -/
def execPosCommit (w : Writer) (v : List Byte) (peerSpent : Bool) (s : State) : Host.Outcome State Fault Refusal :=
  .next (s.posCommit w v peerSpent)

/-- REF_POSITION_COMMITTED (R187, R580). -/
def execRefPositionCommitted (verified : Bool) (s : State) : Host.Outcome State Fault Refusal :=
  .next (s.refApply verified)

/-- RTCM_COMPOSE (R191 to R196). -/
def execRtcmCompose (s : State) : Host.Outcome State Fault Refusal := .next s.rtcmEpoch

end Sys2Proof.Machine
end

