-- ==== Sys2Proof/Machine/Pipeline.lean ====
section
/-!
DEFINITION. The fleet pipeline's own commands (chapter 07): INGEST, SORT, stage deadlines, COMPOSE, LAUNCH, slots and the
preparation of a time discontinuity.
-/

namespace Sys2Proof.Machine

/-! ### INGEST (R231 to R233) -/

/-- The first held input is appended to the input log (R231, R541). -/
def State.ingestOne (s : State) : State :=
  match s.ingest.held with
  | [] => s
  | e :: l =>
    let x : LogEntry := { e with num := s.ingest.next }
    let s : State := { s with ingest := { s.ingest with
      held := l, next := (s.ingest.next + 1) % 2 ^ 32, unsorted := s.ingest.unsorted ++ [x],
      outbox := if s.inPair then s.ingest.outbox ++ [x] else s.ingest.outbox } }
    let due := FT.addNs e.stamp 100000
    (s.count 0x2C1002).stageDone 1 (FT.cycle e.stamp) due

/-! ### SORT (R234 to R236) -/

/-- The end of the uplink slot a frame belongs to (R227). -/
def slotEnd (stamp : FT) : FT := FT.addNs (FT.slotStart stamp) 4000000

/-- A Field Obs is posted to the Solve engine, or dropped by a row of R205 (R205, R236). -/
def State.sortObs (k : Nat) (stamp : FT) (b : List Byte) (s : State) : State :=
  let c := FT.cycle stamp
  let row := obsCheck k c (s.machine k).lastEpoch b
  if row ≠ 0 then (s.count (obsCounter row)).recordSince k 0x4004 1 [.u8 k, .u8 row]
  else
    let epoch := field b 2 2
    let due := FT.addNs (slotEnd stamp) 1000000
    let t := if epoch = c % 65536 then c else c - 1
    let s := (s.count 0x284001).modMachine k fun m =>
      { m with lastEpoch := some epoch, lastObs := stamp, wait := some ⟨slotEnd stamp, t, obsDecode b, false⟩ }
    if FT.lt due s.now then (s.count 0x2C100F).stageLate 2 k c (slackTo due s.now) else s

/-- A STATUS block is the machine's latest (R234, R236, R378). -/
def State.sortStatus (k : Nat) (stamp : FT) (b : List Byte) (s : State) : State :=
  let s := when ((s.machine k).status.head?.any fun x => x.fresh) (State.count 0x2C1005) s
  (s.modMachine k fun m =>
    { m with status := ⟨field b 0 2, field b 2 1, field b 3 1, stamp, s.pipe.stopSnaps, true⟩ :: m.status }).sleepRequest k
      (field b 3 1) (FT.cycle stamp)

/-- A ROUTE block is the machine's latest (R234, R236). -/
def State.sortRoute (k source : Nat) (stamp : FT) (b : List Byte) (s : State) : State :=
  let s := when ((s.machine k).route.head?.any fun x => x.fresh) (State.count 0x2C1005) s
  let segs := (List.range (field b 1 1)).map fun i => field b (2 + 2 * i) 2 % 4096
  s.modMachine k fun m => { m with route := ⟨field b 0 1, segs, stamp, source, true⟩ :: m.route }

/-- A TASK_REPORT block is queued (R234). -/
def State.sortReport (k : Nat) (stamp : FT) (b : List Byte) (s : State) : State :=
  { s with tasks.reports := s.tasks.reports ++
      [⟨k, field b 0 2, field b 2 2, field b 4 1, field b 5 1, stamp⟩] }

/-- One block of an uplink frame; one that fails its own check was dropped and counted on receipt (R371). -/
def State.sortBlock (k source : Nat) (stamp : FT) (x : Nat × List Byte) (s : State) : State :=
  if !bodyOk x.1 x.2 then s
  else match x.1 with
    | 1 => s.sortObs k stamp x.2
    | 2 => s.sortStatus k stamp x.2
    | 3 => s.sortRoute k source stamp x.2
    | _ => s.sortReport k stamp x.2

/-- A logged uplink frame (R234, R235). A unit that follows its peer's log takes the frame's association here. -/
def State.sortUplink (e : LogEntry) (s : State) : State :=
  let k := field e.data 4 2
  let s := if s.follows then s.airLogged e.source e.data (s.firstSymbol e.data e.stamp) e.stamp else s
  if psduType e.data ≠ 5 then s
  else if (s.machine k).link ≠ .associated then
    (s.count 0x2C1004).recordSince e.source 0x5005 1 [.u8 e.source, .u16 k]
  else each ((upBlocks e.data).getD []) (State.sortBlock k e.source e.stamp) s

/-- A logged decision-side write (R231, R234, R291, R545): a table edit waits for the snapshot; any other write was
applied on the holder at its commit, and applies here on a unit that follows the log. -/
def State.sortWrite (e : LogEntry) (s : State) : State :=
  let x := Edit.ofData e.commit e.stamp e.data
  if isTrackEdit x.obj then { s with tracks.edits := s.tracks.edits ++ [x] }
  else if isTaskEdit x.obj then { s with tasks.edits := s.tasks.edits ++ [x] }
  else if !s.follows then s
  else if x.obj = 0x280400 then
    { s.drawn with corr.pending := some ⟨leNat x.value, s.free % 256, s.free / 256 % 256, s.free / 65536 % 256⟩ }
  else if x.obj = 0x300200 then
    let t := s.drawn.spend 2 (s.free % 256) (s.free / 256 % 256) (s.free / 65536 % 256) x.value true
    t.commitCommon x.obj (valueOf x.obj x.value) e.stamp
  else (s.commitCommon x.obj (valueOf x.obj x.value) e.stamp).saveSettings

/-- A logged change of the stop state (R234, R287, R375). -/
def State.sortStop (e : LogEntry) (s : State) : State :=
  if field e.data 0 1 = 1 then
    when (!s.pipe.stopOn) State.holdForStop { s with pipe.stopOn := true }
  else { s with pipe := { s.pipe with stopOn := false, released := some e.stamp } }

/-- A logged discontinuity: CONFIRMED entries of machines that end after the old time are HELD with cause TIME (R287). -/
def State.sortJump (e : LogEntry) (s : State) : State :=
  let old := FT.ofNum (field e.data 0 16)
  s.holdEntries (s.tracks.entriesOf fun r =>
    r.state == .confirmed && decide (1 ≤ r.machine) && msAfter r.stop (FT.ms old)) 4

/-- Does a Field Obs whose uplink slot ended at `e` have its SOLVE deadline in fleet cycle `cyc`? -/
def solveDueIn (cyc : Nat) (e : FT) : Bool := FT.cycle (FT.addNs e 4000000) == cyc

/-- The unit that carries a record not yet packed is replaced in LAUNCH's lists. -/
def swapUnit (k : Nat) (p : PosRec) (u : DownUnit) : DownUnit :=
  if u.kind = 1 ∧ u.machine = k ∧ u.ref = p.epoch then { u with body := p.encode } else u

/-- A record already handed to LAUNCH gives way to its stand-in (R238, R253). -/
def State.replaceFix (k : Nat) (f : Fix) (older : List Fix) (s : State) : State :=
  let p := s.recordSent (Machine.standIn k f.pos.epoch (older.head?.map (·.pos)))
  let s := s.modMachine k fun m =>
    { m with sent := some p, fixes := { f with pos := p, standIn := true } :: older }
  { s with pipe.launch := s.pipe.launch.map fun l => l.map (swapUnit k p) }

/-- The fallback of SOLVE that a marker names (R253), whether or not this unit's own solution is there. A marker that
fits no Field Obs of the machine changes nothing more. -/
def State.replaySolve (k cyc : Nat) (s : State) : State :=
  let m := s.machine k
  let note := fun s : State => ((s.count 0x2C1006).stageMissed 3 k cyc).marker 3 k cyc
  if m.wait.any fun w => !w.standIn && solveDueIn cyc w.end_ then note (s.useStandIn k)
  else match m.fixes with
    | f :: older => if !f.standIn && solveDueIn cyc f.end_ then note (s.replaceFix k f older) else s
    | [] => s

/-- ALLOT's result of the latest run is taken back, its inputs wait again (R243, R253). -/
def State.allotUndone (s : State) : State :=
  match s.pipe.undo with
  | some x =>
    let ms := (s.machines.zip x.drains).map fun e => { e.1 with drain := e.2.1, pairFall := e.2.2 }
    { s with tasks := { x.tasks with edits := s.tasks.edits, reports := s.tasks.reports }, machines := ms, pipe.undo := none }
  | none => s

/-- The fallback of RESERVE that a marker names (R253): a check that this unit has completed is withdrawn, and ALLOT, if it
has run on it, runs again on the entries that stand. -/
def State.replayReserve (cyc : Nat) (s : State) : State :=
  let note := fun s : State => (s.checkAbandoned.stageMissed 4 0 cyc).marker 4 0 cyc
  if FT.cycle s.pipe.snapAt ≠ cyc then s
  else if s.tracks.open_ then note s
  else
    let legs := s.tracks.checked
    let ran := s.pipe.undo.isSome
    let t := note (each legs (State.withdrawLeg 1 0x3FFF) { s.allotUndone with tracks.checked := [] })
    when ran State.allotRun t

/-- The fallback of ALLOT that a marker names (R253). -/
def State.replayAllot (cyc : Nat) (s : State) : State :=
  let s := if FT.cycle s.pipe.snapAt = cyc then s.allotUndone else s
  if FT.cycle s.pipe.snapAt = cyc ∧ s.tasks.due = true then (s.allotAbandoned.stageMissed 5 0 cyc).marker 5 0 cyc else s

/-- A marker that a unit in STANDBY replays (R253). -/
def State.replayMarker (e : LogEntry) (s : State) : State :=
  let stage := field e.data 0 1
  let k := field e.data 1 1
  let cyc := field e.data 2 8
  let s := s.count 0x2C100E
  (match stage with
  | 3 => s.replaySolve k cyc
  | 4 => s.replayReserve cyc
  | 5 => s.replayAllot cyc
  | 6 => s.withholdCycle cyc
  | _ => s).composeLate

/-- What SORT does with a logged input (R234). -/
def State.sortEntry (e : LogEntry) (s : State) : State :=
  if e.source < 8 then s.sortUplink e
  else match e.source with
    | 0x10 => s.sortWrite e
    | 0x20 => s.sortStop e
    | 0x21 => s.sortJump e
    | _ => if s.follows then s.replayMarker e else s

/-- SORT's deadline for an input (R227). -/
def LogEntry.sortDue (e : LogEntry) : FT :=
  if e.source < 8 then FT.addNs (slotEnd e.stamp) 1000000 else FT.addNs e.stamp 1000000

/-- SORT takes the oldest logged input. -/
def State.sortOne (s : State) : State :=
  match s.ingest.unsorted with
  | [] => s
  | e :: l =>
    let s := State.sortEntry e { s with ingest.unsorted := l }
    let s := when (s.ingest.after.isNone && !FT.le e.stamp s.pipe.snapAt) (fun s => { s with ingest.after := some e.num }) s
    s.stageDone 2 (FT.cycle e.stamp) e.sortDue

/-! ### Discontinuities (R250, R251) -/

/-- The instant at which a pending step, set or alignment applies. -/
def State.jumpDue (s : State) : Option FT :=
  match s.time.pending, s.time.pendingSet with
  | some p, _ => some ⟨p.sec, 0, 0⟩
  | none, some _ => some (FT.nextSecond s.now)
  | none, none => none

/-- From S − 4 ms the pipeline gives up what is in flight (R250). -/
def State.jumpPrepare (s : State) : State :=
  match s.jumpDue with
  | none => s
  | some at_ =>
    let s := s.withdrawLegs 8 fun _ => true
    let s : State := { s with
      tracks := { s.tracks with open_ := false, moves := [] },
      tasks := { s.tasks with due := false },
      pipe := { s.pipe with planning := false, composed := [], moves := [], void := some at_ } }
    each (List.range 8) (State.axisPrepare at_) s

/-- Cycle starts that a jump skips (R250, R72): from the cycle that `old` would have begun to the one that holds `new`, which
begins on the step tick. -/
def cyclesBetween (old new : FT) : Nat :=
  FT.units new / (100000000 * 4294967296) - FT.units old / (100000000 * 4294967296)

/-- On the step tick (R250, R251): the input, where INGEST logs one (R230), the counters, the record, the quiet cycle: by R72
the cycle that holds the new time begins on the step tick. `cause` 0 step, 1 set, 2 initial alignment. -/
def State.discontinuity (old new : FT) (cause : Nat) (s : State) : State :=
  let n := cyclesBetween old new
  let s := s.takeIn 0x21 new (FT.bytes old ++ FT.bytes new)
  let s := ((s.countN 0x2C100C n).count 0x2C100D).record 0x5004
    [.u8 cause, .ft old, .ft new, .u32 (min n 0xFFFFFFFF)]
  { s with pipe := { s.pipe with void := none, quiet := some (FT.cycle new) } }

/-! ### The commands -/

/-- INGEST_INPUT (R231). -/
def execIngestInput (s : State) : Host.Outcome State Fault Refusal := .next s.ingestOne

/-- SORT_INPUT (R234). -/
def execSortInput (s : State) : Host.Outcome State Fault Refusal := .next s.sortOne

/-- Does a command complete SOLVE for machine `k`? -/
def solves (k : Nat) (i : Instr) : Bool :=
  match i with
  | .solveEpoch n => n.val == k
  | _ => false

/-- Is the deadline of SOLVE, the slot's end + 4 ms, reached for machine `k` with its solution still missing (R79, R80, R237)? -/
def State.solveLate (k : Nat) (s : State) : Bool :=
  (s.machine k).wait.any (fun w => !w.standIn && s.ripe w.end_ 4000000) && !s.arriving (solves k)

/-- SOLVE_DEADLINE of machine `k` (R237, R252): a unit that follows a log takes no fallback of its own (R253). -/
def execSolveDeadline (k : Fin 129) (s : State) : Host.Outcome State Fault Refusal :=
  .next (if !s.follows && s.solveLate k.val then s.solveFallback k.val else s)

/-- RESERVE_CHECK_COMPLETE (R242). -/
def execReserveCheckComplete (s : State) : Host.Outcome State Fault Refusal := .next s.checkComplete.composeLate

/-- ALLOT_RUN (R303). -/
def execAllotRun (s : State) : Host.Outcome State Fault Refusal := .next s.allotRun.composeLate

/-- COMPOSE_DEADLINE (R245): `late` are the machines, `lateMoves` the axes, whose units are incomplete. -/
def execComposeDeadline (late : List (Fin 129)) (lateMoves : List (Fin 8)) (s : State) :
    Host.Outcome State Fault Refusal :=
  .next (s.composeDue (late.map fun k => k.val) (lateMoves.map fun n => n.val))

/-- LAUNCH_RELEASE (R247, R251). -/
def execLaunchRelease (s : State) : Host.Outcome State Fault Refusal := .next s.launchRelease

/-- SLOT_LOAD (R248, R249, R357, R364 to R370); `busy` are the ports still busy with a burst or another frame. -/
def execSlotLoad (busy : Fin 256) (s : State) : Host.Outcome State Fault Refusal := .next (s.loadSlots busy.val)

/-- The slack minima start again (0x2C09). -/
def State.slackReset (s : State) : State := { s with pipe.slack := List.replicate 7 0x7FFFFFFF }

/-- SLACK_CLEAR (R254). -/
def execSlackClear (w : Writer) (v : List Byte) (s : State) : Host.Outcome State Fault Refusal :=
  .next (s.commandWrite w 0x2C0900 (s.writeCheck (s.roleOf w) 0x2C0900 v)
    State.slackReset)

/-- DISCONTINUITY_PREPARE (R250). -/
def execDiscontinuityPrepare (s : State) : Host.Outcome State Fault Refusal := .next s.jumpPrepare

end Sys2Proof.Machine
end

