-- ==== Sys2Proof/Machine/ImageCore.lean ====
section
/-!
DEFINITION. The state image and the digest of the decision state (R550 to R553): sections 1 to 9 as octets, CRC-64, and
the loading of an image.
-/

namespace Sys2Proof.Machine

/-! ### CRC-64 (R550) -/

/-- One bit of the reflected CRC-64: the polynomial 0x42F0_E1EB_A9EA_3693 with its bits reversed. -/
def crcBit (c : Nat) : Nat := if c % 2 = 1 then (c / 2) ^^^ 0xC96C5795D7870F42 else c / 2

/-- One octet. -/
def crcByte (c : Nat) (b : Byte) : Nat :=
  crcBit (crcBit (crcBit (crcBit (crcBit (crcBit (crcBit (crcBit (c ^^^ b.toNat))))))))

/-- The CRC-64 of octets: initial value and final XOR all ones. -/
def crc64 (l : List Byte) : Nat := (l.foldl crcByte 0xFFFFFFFFFFFFFFFF) ^^^ 0xFFFFFFFFFFFFFFFF

/-! ### The image as octets (R553) -/

/-- The first log entry after the image point: the first stamped after the snapshot instant. -/
def State.entryAfter (s : State) : Nat :=
  match s.ingest.after with
  | some n => n
  | none =>
    match s.ingest.unsorted.find? fun e => !FT.le e.stamp s.pipe.snapAt with
    | some e => e.num
    | none => if s.follows then s.pair.expect else s.ingest.next

/-- Section 1 for cycle `cyc`. -/
def State.section1 (cyc : Nat) (s : State) : List Byte :=
  leBytes 2 s.dsVersion ++ zeros 2 ++ leBytes 4 s.entryAfter ++ leBytes 8 cyc

/-- ε in whole nanoseconds, within the range of 0x3025.03. -/
def Machine.epsilonNs (m : Machine) : Int := clamp (-1000000) 1000000 (Int.tdiv m.epsilon 4294967296)

/-- 0x3022.k (R382). -/
def Machine.linkByte (m : Machine) : Nat := m.link.code + m.port * 8

/-- g of 0x3025.02 in whole microseconds at an instant. -/
def State.guardUs (k : Nat) (at_ : FT) (s : State) : Nat := s.guard k at_ / 4294967296000

/-- The four octets of a STATUS body (R371). -/
def StatusIn.encode (x : StatusIn) : List Byte := leBytes 2 x.battery ++ [byte x.flags, byte x.sleep]

/-- A ROUTE body, zero-padded to 66 octets. -/
def RouteIn.encode (x : RouteIn) : List Byte :=
  ([byte x.speed, byte x.segs.length] ++ x.segs.flatMap (leBytes 2) ++ zeros 66).take 66

/-- The 136 octets of machine `k` (section 7). -/
def State.section7 (k : Nat) (s : State) : List Byte :=
  let m := s.machine k
  [byte m.linkByte] ++ leBytes 2 (m.period * 256 + m.slot) ++ FT.bytes m.contact ++ leBytes 2 (s.guardUs k s.pipe.snapAt) ++
    leBytes 4 (ofSigned 32 m.epsilonNs) ++ [byte m.missed] ++ leBytes 2 m.seq ++ leBytes 2 (s.drainRate k) ++
    ((m.status.head?.map StatusIn.encode).getD (zeros 4)) ++ ((m.route.head?.map RouteIn.encode).getD (zeros 66)) ++
    ((m.sent.map PosRec.encode).getD (zeros 32)) ++ zeros 4

/-- Numbers of a remap pair. -/
def RemapPair.ints (p : RemapPair) : List Int := [p.chan, p.spare, FT.toNum p.made]

/-- What section 8 holds, as numbers: the remap in force and pending, the resting spares, the exclusion windows. -/
def AirSt.ints (a : AirSt) : List Int :=
  [(a.remap.length : Int)] ++ a.remap.flatMap RemapPair.ints ++
    (match a.pending with
     | none => [-1]
     | some p => [(p.1 : Int), (p.2.length : Int)] ++ p.2.flatMap RemapPair.ints) ++
    [(a.resting.length : Int)] ++ a.resting.flatMap (fun r => [(r.1 : Int), (FT.toNum r.2 : Int)]) ++
    a.windows.flatMap fun w => [(w.1 : Int), (w.2.length : Int)] ++ w.2.map fun b => (b2n b : Int)

/-- Sections 1 to 9 of the image of cycle `cyc`. -/
def State.imageHead (cyc : Nat) (s : State) : List Byte :=
  s.section1 cyc ++ (List.range 2048).flatMap (fun i => (s.tracks.node i).encode) ++
    (List.range 4096).flatMap (fun j => (s.tracks.seg j).encode) ++
    (List.range resEntries).flatMap (fun i => (s.tracks.entry i).encode) ++
    (List.range 1024).flatMap (fun i => (s.task i).encode) ++ (List.range 4096).flatMap (fun j => leBytes 4 (s.tau j)) ++
    machineNumbers.flatMap (fun k => s.section7 k) ++ Config.section8 s.air.ints ++
    [byte s.stop.logged.1, byte s.stop.logged.2, 0#8, 0#8]

/-- D(n) (R550). -/
def State.digest (cyc : Nat) (s : State) : Nat := crc64 (s.imageHead cyc)

/-- A rover's solution as numbers. -/
def solverInts (x : Solver) : List Int :=
  let pairs := fun (l : List (Nat × Int)) => (l.length : Int) :: l.flatMap fun e => [(e.1 : Int), e.2]
  let opt := fun (o : Option Int) => match o with | none => [(0 : Int)] | some v => [1, v]
  [(x.solve.status : Int), (b2n (x.solve == .provisional) : Int), (x.count : Int), (x.newCount : Int), (x.gap : Int),
    (x.fixAge : Int), (x.sats : Int), (x.filter.cycle : Int), x.filter.at_] ++ pairs x.filter.states ++ x.filter.cov.flatten ++
    pairs (x.filter.pivots.map fun e => (e.1, (e.2 : Int))) ++ pairs x.filter.set ++ pairs x.filter.news ++
    x.filter.seen.flatMap fun e => [(e.key : Int), e.rate, (e.lock : Int), (b2n e.slip : Int)] ++ opt e.diff ++ opt e.phase

/-- What sections 10 and 11 hold, as numbers: LAUNCH's units and the filters. -/
def State.tailInts (s : State) : List Int :=
  s.pipe.launch.flatMap (fun l => l.flatMap fun u =>
    [(u.kind : Int), (u.machine : Int), (u.ref : Int), (leNat u.body : Int), (FT.toNum u.since : Int), (FT.toNum u.limit : Int)]) ++
    s.machines.flatMap fun m => solverInts m.rtk ++ [(b2n m.stale : Int)]

/-- The whole image. -/
def State.image (cyc : Nat) (s : State) : List Byte := s.imageHead cyc ++ Config.imageTail s.tailInts

/-! ### Loading an image (R552, R553) -/

/-- Octets of sections 1 to 9. -/
def imageHeadLength : Nat := 496660

/-- A sparse table of `n` entries of `size` octets from an offset of an image. -/
def loadTable {α : Type} [DecidableEq α] (d : Nat → α) (f : List Byte → α) (b : List Byte) (at_ size n : Nat) : SMap α :=
  (List.range n).foldl (fun m i => SMap.put d i (f ((b.drop (at_ + i * size)).take size)) m) []

/-- The latest ROUTE of a body. -/
def RouteIn.load (b : List Byte) : Option RouteIn :=
  if field b 1 1 = 0 then none
  else some ⟨field b 0 1, (List.range (field b 1 1)).map fun i => field b (2 + 2 * i) 2 % 4096, ⟨0, 0, 0⟩, 0, false⟩

/-- A machine of section 7; its counters PROV_* count on (R225). `dflt` is 0x2E12. -/
def Machine.load (dflt : Nat) (b : List Byte) (old : Machine) : Machine :=
  let link : LinkState := match field b 0 1 % 4 with | 0 => .absent | 1 => .joining | 2 => .associated | _ => .adrift
  let sent := (b.drop 100).take 32
  { Machine.init with
    provOpened := old.provOpened, provConfirmed := old.provConfirmed, provWithdrawn := old.provWithdrawn,
    link := link, snapLink := link, port := field b 0 1 / 8 % 8, slot := field b 1 2 % 32, period := field b 1 2 / 256,
    contact := FT.ofNum (field b 3 16), epsilon := nsUnits (toSigned 32 (field b 21 4)), missed := field b 25 1,
    seq := field b 26 2, drain := if field b 28 2 = dflt then none else some (field b 28 2),
    status := if field b 30 4 = 0 then [] else [⟨field b 30 2, field b 32 1, field b 33 1, ⟨0, 0, 0⟩, 0, false⟩],
    route := (RouteIn.load ((b.drop 34).take 66)).toList,
    sent := if field sent 0 1 = 0 then none else some (PosRec.decode sent) }

/-- A remap pair of an operand. -/
def RemapPair.of (p : Nat × Nat × FT) : RemapPair := ⟨p.1, p.2.1, p.2.2⟩

/-- Section 8. -/
def State.loadAir (r : ImageRest) (s : State) : State :=
  let air : AirSt := { s.air with
    remap := r.remap.map RemapPair.of, pending := r.pending.map fun p => (p.1, p.2.map RemapPair.of),
    resting := r.resting, windows := r.windows }
  { s with air := air }

/-- An input held for the next snapshot (section 10). -/
def State.loadInput (x : ImageInput) (s : State) : State :=
  match x.kind with
  | 1 => s.modMachine x.machine fun m =>
      { m with fixes := (⟨slotEnd x.stamp, FT.cycleStart x.stamp, PosRec.decode x.body, false⟩ :: m.fixes).take 3 }
  | 2 => s.modMachine x.machine fun m =>
      { m with status := ⟨field x.body 0 2, field x.body 2 1, field x.body 3 1, x.stamp, s.pipe.stopSnaps, true⟩ :: m.status }
  | 3 => s.sortRoute x.machine x.source x.stamp x.body
  | 4 => s.sortReport x.machine x.stamp x.body
  | _ =>
    let e := Edit.ofData 0 x.stamp x.body
    if isTrackEdit e.obj then { s with tracks.edits := s.tracks.edits ++ [e] }
    else { s with tasks.edits := s.tasks.edits ++ [e] }

/-- A filter of section 11. -/
def State.loadFilter (f : ImageFilter) (s : State) : State :=
  s.modMachine f.machine fun m => { m with rtk := f.rtk, stale := f.stale, lastEpoch := f.lastEpoch, lastObs := f.lastObs }

/-- The stop state of section 9 replaces the latch and the mask (R403). -/
def State.stopFromImage (state mask : Nat) (s : State) : State :=
  let was := s.stop.latch
  let s : State := { s with
    stop := { s.stop with latch := state == 1, mask := mask, logged := (state, mask),
                          since := if state = 1 ∧ was = false then s.now else s.stop.since,
                          setTick := if state = 1 ∧ was = false then s.ticks else s.stop.setTick },
    pipe.stopOn := state == 1 }
  when (state == 1 && !was) State.axesLatched s

/-- Does a log number stand at or after another, modulo 2^32? -/
def entryFrom (e n : Nat) : Bool := decide ((n + 2 ^ 32 - e % 2 ^ 32) % 2 ^ 32 < 2 ^ 31)

/-- Is a logged input a write of a setting, which acts outside the image? -/
def LogEntry.isSetting (e : LogEntry) : Bool :=
  e.source == 0x10 && !isTrackEdit (Edit.ofData 0 e.stamp e.data).obj && !isTaskEdit (Edit.ofData 0 e.stamp e.data).obj

/-- The entries to be replayed on an image whose section 1 names ENTRY `n` (R552): those from `n` on, and every write of a
setting not yet applied. -/
def State.replayList (n : Nat) (s : State) : List LogEntry :=
  s.pair.kept.filter fun e => if e.isSetting then s.ingest.unsorted.contains e else entryFrom n e.num

/-- The whole image is in: it replaces the decision state (R552, R553). -/
def State.loadImage (b : List Byte) (r : ImageRest) (s : State) : State :=
  let dflt := s.eff 0x2E1200
  let nominal := fun (x : TracksSt) (j : Nat) => nominalMs (x.seg j)
  let tracks : TracksSt := { TracksSt.init with
    nodes := loadTable (fun _ => Node.blank) Node.decode b 16 16 2048,
    segs := loadTable (fun _ => Seg.blank) Seg.decode b 32784 32 4096,
    res := loadTable (fun _ => Resv.free) Resv.decode b 163856 16 resEntries,
    planned := s.tracks.planned, gateHold := s.tracks.gateHold }
  let tasks : TasksSt := { TasksSt.init with
    tasks := loadTable (fun _ => Task.blank) Task.load b 426000 32 1024, saved := s.tasks.saved,
    tau := loadTable (nominal tracks) leNat b 458768 4 4096 }
  let machines := (List.range 128).map fun i => Machine.load dflt ((b.drop (475152 + 136 * i)).take 136) (s.machine (i + 1))
  let pipe : PipeSt := { s.pipe with
    composed := [], moves := [],
    launch := (List.range 8).map fun n =>
      (r.units.filter fun u => u.port.val == n).map fun u => ⟨u.kind, u.machine, u.ref, u.body, u.since, u.limit⟩ }
  let s : State := { s with
    tracks := tracks, tasks := tasks, machines := machines, pipe := pipe,
    ingest := { s.ingest with unsorted := s.replayList (field b 4 4), after := none },
    pair := { s.pair with loaded := true, imageCycle := field b 8 8, image := [], imageTotal := 0, kept := [] } }
  let s := (s.loadAir r).stopFromImage (field b 496656 1) (field b 496657 1)
  each r.filters State.loadFilter (each r.inputs State.loadInput s)

end Sys2Proof.Machine
end

