-- ==== Sys2Proof/Machine/PairStates.lean ====
section
/-!
DEFINITION. The pair state machine (R554): start, takeovers (R555, R556), handover (R557 to R560), yield (R561), the loss
of both heartbeats (R533), own conflicts (R529).
-/

namespace Sys2Proof.Machine

/-- Has the unit left BOOT (R671)? -/
def State.started (s : State) : Bool := decide (7 ≤ s.power.bootStep)

/-- Does the unit follow the state machine of R554? From the end of BOOT, in the modes that its states stand for, until an
uncorrectable error in control. -/
def State.pairLive (s : State) : Bool :=
  s.inPair && s.started && !s.pair.faulted &&
    match s.power.mode with
    | .boot => true | .active => true | .standby => true | .handover => true | .orphan => true
    | .off => false | .backup => false | .survey => false | .solo => false | .maintain => false | .test => false
    | .safe => false

/-- Is the link up (R534)? -/
def State.linkIsUp (s : State) : Bool := s.pair.lanes != 0 && s.pair.hbA

/-- Are both heartbeats lost (R533)? -/
def State.bothLost (s : State) : Bool := !s.pair.hbA && !s.pair.hbB

/-- Is the unit a standby or about to receive OWN? -/
def PairState.standing (p : PairState) : Bool := p == .transfer || p == .synced || p == .incoming

/-- A planned handover ends. -/
def State.handoverOver (s : State) : State := { s with pair.handover := none, pair.giveUp := none }

/-- ORPHAN is entered (R554): nothing is driven, and the mode sets the latch (R385). -/
def State.toOrphan (s : State) : State :=
  (((s.handoverOver.setLatch 5).count 0x3C200E).record 0xB009 [.u8 s.pair.peer.code]).enterPair .orphan

/-- The unit takes its inputs itself from now on: its log goes on after the last entry it received (R555, R560). -/
def State.takeLog (s : State) : State :=
  { s with ingest.next := s.pair.expect, ingest.outbox := [], pair.peerDigest := none, pair.requested := none,
           pair.loaded := false, pair.kept := [] }

/-- OWN is driven and the unit is ACTIVE. -/
def State.becomeActive (s : State) : State := (((s.handoverOver.takeLog).drive .own).enterPair .active)

/-- A DIVERGED axis is brought to standstill at STOP_DECEL and left UNHOMED (R555). -/
def State.axisAstray (n : Nat) (s : State) : State :=
  if (s.axis n).diverged then
    let s := s.modAxis n fun a => { a with diverged := false, armed := [], start := none }
    match (s.axis n).state with
    | .moving => (s.countAxis n 2).axisRamp n (s.axisCfg n 7) .unhomed
    | .homing => s.homingStopped n .unhomed
    | .stopping => s.modAxis n fun a => { a with landing := match a.landing with | .fault c => .fault c | _ => .unhomed }
    | .idle => (s.modAxis n fun a => { a with state := .unhomed, cause := 0 }).gateWatch n
    | _ => s
  else s

/-- The record of a takeover (R554, R564): kind 0 hot, 1 cold. -/
def State.takeoverNoted (kind : Nat) (s : State) : State :=
  s.record 0xB004 [.u8 kind, .ft s.now, .u32 ((s.pair.expect + (2 ^ 32 - 1)) % 2 ^ 32)]

/-- Hot takeover (R555). -/
def State.takeHot (s : State) : State :=
  each (List.range 8) State.axisAstray (((s.takeoverNoted 0).count 0x3C2008).becomeActive)

/-- The decision state as it stands after reset (R265, R302, R556). The settings and what they have in force stay. -/
def State.coldDecision (s : State) : State :=
  { s with
    ingest := .init, machines := List.replicate 128 .init,
    tracks := { TracksSt.init with nodes := s.tracks.nodes, segs := s.tracks.segs },
    tasks := { TasksSt.init with tasks := restoredTasks s.tasks.saved, saved := s.tasks.saved },
    pipe := { PipeSt.init with slack := s.pipe.slack, commits := s.pipe.commits },
    air := { AirSt.init with changes := s.air.changes,
                             ports := s.air.ports.map fun p => { p with queue := [], responded := false, answer := none,
                                                                        got := [], backlog := [] } } }

/-- Cold takeover (R556): the stop latch is set before OWN is driven. -/
def State.takeCold (s : State) : State :=
  let t := ((((s.takeoverNoted 1).count 0x3C2009).coldDecision).setLatch 5)
  ({ t with stop.logged := (1, t.stop.mask) }).becomeActive

/-- The incoming unit reads FREE at or after s (R559, R560). -/
def State.handoverTaken (at_ : FT) (s : State) : State :=
  ((s.becomeActive).count 0x3C200A).record 0xB005 [.ft at_, .u8 1]

/-- The level conditions of R554 on a standby: both heartbeats lost while the peer does not read FREE. -/
def State.pairSettle (s : State) : State :=
  if s.pairLive && s.pair.state.standing && s.bothLost && s.pair.peer != .free then s.toOrphan else s

/-- The rows of START (R554). -/
def State.startRows (s : State) : State :=
  match s.pair.peer with
  | .own => s.toTransfer
  | .fault => s.toOrphan
  | .free =>
    if s.linkIsUp then
      if s.pair.pos = 1 then s.toTransfer
      else if s.pair.peerState = 1 then s
      else s.becomeActive
    else s

/-- The rows of R554 whose conditions may have come true with a heartbeat, the link or the end of BOOT. -/
def State.pairEval (s : State) : State :=
  if s.pairLive then
    match s.pair.state with
    | .start => s.startRows.pairSettle
    | .orphan => if s.pair.peer = .own ∧ s.pair.hbA = true ∧ s.pair.hbB = true then s.toTransfer else s
    | _ => s.pairSettle
  else s

/-- The peer loop reads FREE (R554). -/
def State.peerFree (s : State) : State :=
  match s.pair.state with
  | .transfer => s.takeCold
  | .orphan => s.takeCold
  | .synced => s.takeHot
  | .incoming =>
    match s.pair.giveUp with
    | some t => if FT.le t s.now then s.handoverTaken t else s.takeHot
    | none => s.takeHot
  | _ => s.pairEval

/-- A reading of the peer loop by its encoding. -/
def Reading.ofCode (n : Nat) : Reading := match n with | 0 => .fault | 1 => .free | _ => .own

/-- A seam fault is recorded (R526). -/
def State.seamFaulty (s : State) : State :=
  (s.count 0x3C2010).record 0xB00A [.u8 s.pair.compliance, .u8 s.pair.peer.code]

/-- Both units drive OWN (R529): POS B yields. The record's yield time, within the 10 µs of R529, is a free value
(assumption 5). -/
def State.ownConflict (s : State) : State :=
  let s := ((s.count 0x3C200F).record 0xB00B [.u8 s.pair.pos, .u64 (s.free % 10001)]).drawn
  if s.pair.pos = 1 then (s.drive .free).handoverOver.toTransfer else s

/-- The peer loop qualifies in a new band (R525 to R529, R554). A unit alone ignores it (R519). -/
def State.peerReads (r : Reading) (s : State) : State :=
  if !s.inPair || s.pair.peer == r then s
  else
    let t := ({ s with pair.peer := r }).refreshOutput
    let t := when (r == .fault) State.seamFaulty t
    if !t.pairLive then t
    else if r = .free then t.peerFree.pairSettle
    else if r = .own ∧ t.holdsOwn = true then t.ownConflict.pairSettle
    else t.pairEval

/-! ### Heartbeats (R531 to R533) -/

/-- The link goes down with its last lane or with heartbeat A (R534): the tick is kept. -/
def State.noteDown (before : State) (s : State) : State :=
  when (before.linkIsUp && !s.linkIsUp) (fun s => { s with pair.downAt := s.ticks }) s

/-- A heartbeat is lost. -/
def State.heartbeatLost (b : Bool) (s : State) : State :=
  if (if b then s.pair.hbB else s.pair.hbA) then
    let t : State := if b then { s with pair.hbB := false } else { s with pair.hbA := false }
    (((State.noteDown s t).count (0x3C200C + b2n b)).record 0xB007 [.u8 (b2n b)]).pairEval
  else s

/-- A heartbeat is present; a return after a loss is recorded. -/
def State.heartbeatBack (b : Bool) (s : State) : State :=
  if (if b then s.pair.hbB else s.pair.hbA) then s
  else
    let seen := if b then s.pair.seenB else s.pair.seenA
    let t : State := if b then { s with pair.hbB := true, pair.seenB := true } else { s with pair.hbA := true, pair.seenA := true }
    (when seen (State.record 0xB008 [.u8 (b2n b)]) t).pairEval

/-! ### Handover and yield (R557 to R561) -/

/-- Does an update session run (R624)? -/
def State.updateSession (s : State) : Bool :=
  s.upd.state == .receiving || s.upd.state == .verifying || s.upd.state == .applying || s.upd.state == .activating

/-- A heartbeat is lost, or the peer does not read FREE. -/
def State.seamUnready (s : State) : Bool := s.pair.peer != .free || !s.pair.hbA || !s.pair.hbB

/-- The decision on a handover request (R557). -/
def State.handoverCheck (role : Nat) (s : State) : Nat :=
  firstCase [
    (decide (role < 1), 0x30),
    (s.power.mode != .active, 0x11),
    (!s.peerSynced || s.seamUnready || s.pair.apart, 0x15),
    (s.pair.handover.isSome || s.updateSession, 0x10),
    (true, 1)]

/-- The decision on a yield request (R561). -/
def State.yieldCheck (role : Nat) (s : State) : Nat :=
  firstCase [
    (decide (role < 3), 0x30),
    (s.power.mode != .active || !s.stop.latch, 0x11),
    (s.seamUnready, 0x15),
    (s.pair.handover.isSome || s.pair.yield || s.updateSession, 0x10),
    (true, 1)]

/-- The decision on a write to 0x3C10 (R557, R561, R570). -/
def State.pairCommandCheck (role : Nat) (v : List Byte) (s : State) : Nat :=
  firstCode [s.admits role 0x3C1000,
    if fits 0x3C1000 v ≠ 0 then fits 0x3C1000 v else if leNat v = 2 then s.yieldCheck role else s.handoverCheck role]

/-- The first slot start at or after a time. -/
def FT.slotFrom (t : FT) : FT := if t = FT.slotStart t then t else FT.addNs (FT.slotStart t) 4000000

/-- How the plans of one axis stand at an instant ahead, as far as its plan, its accepted start and its armed moves say: at rest, at
the counter given, or moving, with no end known for a homing. -/
def State.axisAhead (n : Nat) (t : FT) (s : State) : List (FT × Int) → Int → Bool
  | [], _ => true
  | m :: l, pos =>
    if FT.lt t m.1 then true
    else if m.2 = pos then s.axisAhead n t l pos
    else
      let plan := s.planFor n m.1 m.2
      let q : Plan := { plan with origin := pos }
      (q.motion (q.elapsed t s.ticks)).ended && s.axisAhead n t l m.2

/-- The starts that wait on an axis, with their targets. -/
def State.axisStarts (n : Nat) (s : State) : List (FT × Int) :=
  (s.axis n).start.toList ++ (s.axis n).armed.map fun g => (g.start, s.gateTarget n g.pos)

/-- Is axis `n` free at an instant (R558): neither MOVING, HOMING nor STOPPING, and no move begins within 2 ms on either side? -/
def State.axisFree (t : FT) (n : Nat) (s : State) : Bool :=
  let a := s.axis n
  let near := fun (x : FT) => FT.le x (FT.addNs t 2000000) && FT.le t (FT.addNs x 2000000)
  let ends := match a.plan with
    | some p => (p.motion (p.elapsed t (s.ticks + FT.nsSince s.now t / 2))).ended
    | none => true
  let rest := if a.state = .moving then a.target else a.pos
  a.state != .homing && ends && (s.axisStarts n).all (fun m => !near m.1) && s.axisAhead n t (s.axisStarts n) rest

/-- The first of so many slot starts from `t` on at which every axis is free. -/
def State.slotFreeFrom (s : State) : Nat → FT → Option FT
  | 0, _ => none
  | k + 1, t => if (List.range 8).all (fun n => s.axisFree t n) then some t else s.slotFreeFrom k (FT.addNs t 4000000)

/-- s (R558): the first slot start at least 20 ms ahead, and within 10 s, that the axes leave free as far as State says. -/
def State.handoverSlot (s : State) : Option FT := s.slotFreeFrom 2495 (FT.slotFrom (FT.addNs s.now 20000000))

/-- s is sought while a handover has none, and HANDOVER GO leaves once it is found (R557, R558). Where a homing leaves its end
unknown, it is sought again at each slot start (DEDUCED, assumption 19). -/
def State.seekSlot (s : State) : State :=
  match s.pair.handover with
  | none => s
  | some h =>
    if h.at_.isSome then s
    else match s.handoverSlot with
      | none => s
      | some t => ({ s with pair.handover := some { h with at_ := some t, goAt := s.ticks } }).linkSend 8 (handoverOctets 1 t)

/-- A handover is accepted (R554, R557). -/
def State.handoverBegins (s : State) : State :=
  (({ s with pair.handover := some ⟨none, s.ticks, s.ticks, false⟩ }).enterPair .outgoing).seekSlot

/-- A write to 0x3C10 acts. -/
def State.pairCommand (v : List Byte) (s : State) : State :=
  if leNat v = 2 then { s with pair.yield := true } else s.handoverBegins

/-- A write to 0x3C10 as a row of its own. -/
def State.pairRow (w : Writer) (v : List Byte) (s : State) : State :=
  s.commandWrite w 0x3C1000 (s.pairCommandCheck (s.roleOf w) v) (State.pairCommand v)

/-- The slot start after an accepted yield (R561). -/
def State.yieldNow (s : State) : State :=
  if s.pair.yield then
    let s : State := { s with pair.yield := false }
    if s.pair.state = .active then
      ((((s.drive .free).count 0x3C2012).record 0xB010
        [.u64 (FT.cycle s.now), .u8 s.pair.peer.code, .u16 s.pair.peerDs]).toTransfer).pairSettle
    else s
  else s

/-- HANDOVER GO (R554). -/
def State.goReceived (at_ : FT) (s : State) : State :=
  if s.pairLive && s.pair.state == .synced && s.pair.hbA && s.pair.hbB && !s.pair.apart then
    (({ s with pair.giveUp := some at_ }).enterPair .incoming).linkSend 8 (handoverOctets 2 at_)
  else s

/-- HANDOVER ACK (R557). -/
def State.ackReceived (at_ : FT) (s : State) : State :=
  match s.pair.handover with
  | some h => if h.at_ = some at_ then { s with pair.handover := some { h with acked := true } } else s
  | none => s

/-- The incoming unit gives a handover up (R554). Neither ABORT nor the table gives its record a cause: a free value
(assumption 5). -/
def State.incomingGivesUp (s : State) : State :=
  if s.pair.state = .incoming then
    ((s.handoverOver.record 0xB006 [.u8 (s.free % 3)]).drawn.enterPair .synced).pairSettle
  else s

/-- The outgoing unit abandons (R557). -/
def State.outgoingGivesUp (cause : Nat) (s : State) : State :=
  let at_ := (s.pair.handover.bind fun h => h.at_).getD ⟨0, 0, 0⟩
  (((s.handoverOver.linkSend 8 (handoverOctets 3 at_)).count 0x3C200B).record 0xB006 [.u8 cause]).enterPair .active

/-- Do the conditions of the third row of R557 fail? -/
def State.handoverUnready (s : State) : Bool := !s.peerSynced || s.seamUnready || s.pair.apart

/-- Why a pending handover is abandoned now (R557), an arrival coming first (R80): 0 no ACK within 5 ms of GO, 1 the conditions
fail, 2 no s within 10 s. -/
def State.abandonCause (h : Handover) (s : State) : Option Nat :=
  if s.handoverUnready then some 1
  else if h.at_.isSome && !h.acked && s.timedOut h.goAt (secTicks 1 / 200) isLinkFrame then some 0
  else if h.at_.isNone && s.passed h.since (secTicks 10) then some 2
  else none

/-- HANDOVER_ABANDONED (R554, R557): the outgoing unit for one of its causes, the incoming one 5 ms after s. -/
def State.handoverAbandoned (s : State) : State :=
  if s.pair.state = .outgoing then
    match s.pair.handover.bind fun h => s.abandonCause h with
    | some cause => s.outgoingGivesUp cause
    | none => s
  else
    match s.pair.giveUp with
    | some t => if FT.lt (FT.addNs t 5000000) s.now then s.incomingGivesUp else s
    | none => s

end Sys2Proof.Machine
end

