-- ==== Sys2Proof/Machine/PpsCore.lean ====
section
/-!
DEFINITION. When the pulse of PPS_OUT is due (R167), the window in which the increment stands (R173), and what a step does to
the pulse (R176).
-/

namespace Sys2Proof.Machine

/-- Picoseconds as units of 2^-32 ns (truncated toward zero). -/
def psUnits (ps : Int) : Int := Int.tdiv (ps * 4294967296) 1000

/-- S of the pulse whose D − 4 ms or D is nearest (R167): the whole second nearest to now + 4 ms − 0x2471. -/
def State.pulseSecond (s : State) : Nat :=
  (FT.addUnits s.now (nsUnits 504000000 - psUnits (s.cfgI 0x247100))).sec

/-- D = S + 0x2471. -/
def State.pulseTime (s : State) : FT := FT.addUnits ⟨s.pulseSecond, 0, 0⟩ (psUnits (s.cfgI 0x247100))

/-- Does the tick increment stand (R173): from D − 4 ms until D? A pulse that is due keeps the D of its message. -/
def State.incrementHeld (s : State) : Bool :=
  let d := s.gnss.pps.due.getD s.pulseTime
  FT.le (FT.addUnits d (-nsUnits 4000000)) s.now && FT.lt s.now d

/-- A step or set has been applied that the latest message did not announce (R176). -/
def State.ppsJumped (s : State) : State :=
  { s with gnss.pps := { s.gnss.pps with surprise := s.gnss.pps.surprise || !s.gnss.pps.announced, announced := false } }

end Sys2Proof.Machine
end

