-- ==== Sys2Proof/Machine/Time.lean ====
section
/-!
DEFINITION. Field Time (chapter 02): the counter, the time state machine and its sources, holdover, steps, sets and the
initial alignment, comparators, REF10.
-/

namespace Sys2Proof.Machine

/-! ### The counter (R54 to R57) -/

/-- The frequency term within the limits of R55. -/
def clampFreq (f : Int) : Int := clamp 0x1FFF2E48F 0x2000D1B71 f

/-- The phase term within the limits of R55. -/
def clampPhase (p : Int) : Int := clamp (-858) 858 p

/-- The discipline firmware delivers new terms, clamped into their limits (R56, R57). From D − 4 ms until D of a pulse it does
not change the increment (R173): what it delivers then is not taken. -/
def State.newTerms (freq phase : Int) (s : State) : State :=
  if s.incrementHeld then s
  else
  let f := clampFreq freq
  let p := clampPhase phase
  let t : State := { s with time.nextTerms := some (f, p) }
  if f = freq ∧ p = phase then t else (t.count 0x201004).record 0x2005 [.i64 freq, .i64 phase, .i64 f, .i64 p]

/-! ### Sources (R58 to R60) -/

/-- One second and one millisecond in units of 2^-32 ns. -/
def secUnits : Int := nsUnits 1000000000

/-- One millisecond. -/
def msUnits : Int := nsUnits 1000000

/-- The sources in order of preference. -/
def sources : List Src := [.gnss, .ptpA, .ptpB]

/-- Rank of a source: 0 is the most preferred. -/
def Src.rank : Src → Nat | .gnss => 0 | .ptpA => 1 | .ptpB => 2

/-- The locked state of a source. -/
def Src.locked : Src → TimeState | .gnss => .lockedGnss | .ptpA => .lockedPtpA | .ptpB => .lockedPtpB

/-- The PTP domain of a source. -/
def State.domain (b : Bool) (s : State) : PtpDomain := if b then s.ptp.domB else s.ptp.domA

/-- Change a PTP domain. -/
def State.modDomain (b : Bool) (f : PtpDomain → PtpDomain) (s : State) : State :=
  if b then { s with ptp.domB := f s.ptp.domB } else { s with ptp.domA := f s.ptp.domA }

/-- Δ of a source (R60). -/
def State.delta (x : Src) (s : State) : Int :=
  match x with | .gnss => s.time.gnssDelta | .ptpA => s.ptp.domA.offset | .ptpB => s.ptp.domB.offset

/-- Since when a source has been valid (R59). -/
def State.validSince (x : Src) (s : State) : Option Nat :=
  match x with | .gnss => s.time.validGnss | .ptpA => s.time.validA | .ptpB => s.time.validB

/-- Is a source marked suspect? -/
def State.suspect (x : Src) (s : State) : Bool :=
  match x with | .gnss => s.time.gnssSuspect | .ptpA => s.ptp.domA.cause != 0 | .ptpB => s.ptp.domB.cause != 0

/-- Is a source a candidate that is valid and not suspect? -/
def State.usable (x : Src) (s : State) : Bool :=
  (s.cfg 0x200600).testBit x.rank && (s.validSince x).isSome && !s.suspect x

/-- Is a source qualified (R59)? -/
def State.qualified (x : Src) (s : State) : Bool :=
  let lockin := secTicks (s.cfg (if x = .gnss then 0x200700 else 0x200800))
  s.usable x && match s.validSince x with
    | some t => decide (lockin ≤ s.ticks - t)
    | none => false

/-- A PTP domain is marked suspect (R452, R453): counter and record with Δ before and after. -/
def State.domainSuspect (b : Bool) (cause : Nat) (before after : Int) (s : State) : State :=
  ((s.modDomain b fun d => { d with cause := cause, goodSince := d.goodSince.map fun _ => s.ticks }).count 0x206004).record 0x2011
    [.u8 (b2n b), .u8 cause, .i64 (unitsToPs before), .i64 (unitsToPs after)]

/-- A suspect mark is cleared (R454). -/
def State.domainCleared (b : Bool) (s : State) : State :=
  if (s.domain b).cause = 0 then s
  else (s.modDomain b fun d => { d with cause := 0 }).record 0x2012 [.u8 (b2n b), .i64 (unitsToPs (s.domain b).offset)]

/-- R60 refuses a source whose Δ is −1 s or less (R60, R453). -/
def State.refuseSource (x : Src) (s : State) : State :=
  let t := s.count 0x201008
  match x with
  | .gnss => { t with time.gnssSuspect := true }
  | .ptpA => t.domainSuspect false 4 (s.delta x) (s.delta x)
  | .ptpB => t.domainSuspect true 4 (s.delta x) (s.delta x)

/-! ### The state machine (R60, R63, R64, R740) -/

/-- The code of the selected source in 0x2001 TIME_STATE_CHANGED: 0 none, then the order of R58. -/
def State.selectedCode (s : State) : Int := (s.time.selected.map fun x => (x.rank : Int) + 1).getD 0

/-- A change of time state (R64). -/
def State.timeState (n : TimeState) (s : State) : State :=
  if s.time.state = n then s
  else (({ s with time.state := n }).count 0x201001).record 0x2001
    [.u8 s.time.state.code, .u8 n.code, .i64 s.selectedCode]

/-- Does a pending step or alignment stand whatever happens to its source (R740)? -/
def State.stepLocked (s : State) : Bool :=
  match s.time.pending with
  | some p => FT.le (FT.addUnits ⟨p.sec, 0, 0⟩ (-nsUnits 4000000)) s.now
  | none => false

/-- A pending step whose source is no longer selected is dropped (R740). -/
def State.dropStep (s : State) : State :=
  match s.time.pending with
  | some p => if s.time.selected = some p.src ∨ s.stepLocked = true then s else { s with time.pending := none }
  | none => s

/-- R60 on a source that is taken or stays selected, with Δ above −1 s: slew, or one forward step at the next second. -/
def State.applyDelta (x : Src) (s : State) : State :=
  if s.time.pending.isSome then s
  else if msUnits < s.delta x then
    { s with time.pending := some ⟨x, (FT.nextSecond s.now).sec, s.delta x, false⟩, time.remaining := 0 }
  else { s with time.remaining := s.delta x }

/-- A source is selected. -/
def State.selectSource (x : Src) (s : State) : State :=
  (({ s with time := { s.time with selected := some x, everSelected := true, estimate := 0 } }).timeState x.locked).dropStep

/-- Does the initial alignment of R68 apply to a selection now? -/
def State.aligns (s : State) : Bool := s.time.state == .free && !s.time.aligned && !s.time.served

/-- Take the first source of a list that R60 does not refuse (R63): did one serve? -/
def State.takeSource : List Src → State → Bool × State
  | [], s => (false, s)
  | x :: l, s =>
    if s.aligns then
      let t := s.selectSource x
      (true, if t.time.pending.isSome then t
        else { t with time.pending := some ⟨x, (FT.nextSecond s.now).sec, s.delta x, true⟩, time.remaining := 0 })
    else if s.delta x ≤ -secUnits then (s.refuseSource x).takeSource l
    else (true, (s.selectSource x).applyDelta x)

/-- HOLDOVER (R63, R65): the frequency term is frozen, the phase term zero, the estimate starts at 0. -/
def State.toHoldover (s : State) : State :=
  let t := s.time.nextTerms.getD (s.time.freq, s.time.phase)
  let s : State := { s with time := { s.time with selected := none, nextTerms := some (t.1, 0), remaining := 0, estimate := 0,
                                                  holdStart := s.now }, bg := { s.bg with oscApplied := 0 } }
  (s.timeState .holdover).dropStep

/-- The selected source is lost (R63): the best other one, or HOLDOVER. -/
def State.sourceLost (x : Src) (s : State) : State :=
  let r := State.takeSource (sources.filter fun y => y != x && s.qualified y) s
  if r.1 then r.2 else r.2.toHoldover

/-- LOCKED_x at a slot-0 evaluation (R63). -/
def State.evalLocked (x : Src) (s : State) : State :=
  if s.usable x then
    let r := State.takeSource (sources.filter fun y => decide (y.rank < x.rank) && s.qualified y) s
    if r.1 then r.2
    else if s.delta x ≤ -secUnits ∧ r.2.stepLocked = false ∧ (r.2.time.pending.all fun p => !p.align) = true then
      (r.2.refuseSource x).sourceLost x
    else r.2.applyDelta x
  else s.sourceLost x

/-- The slot-0 evaluation (R63). Where R60 refuses every qualified source, a unit in FREE or
HOLDOVER stays as it was in this evaluation. -/
def State.evalTime (s : State) : State :=
  match s.time.selected with
  | some x => s.evalLocked x
  | none =>
    let l := sources.filter fun y => s.qualified y
    let r := State.takeSource l s
    if r.1 then r.2
    else if s.time.state = .holdover ∧ l = [] ∧ s.cfg 0x200900 < s.time.estimate then
      ({ r.2 with time.estimate := 0 }).timeState .free
    else r.2

/-- E(t) in ns, rounded up and saturating (R65). -/
def holdoverBound (u a t : Nat) : Nat := min 0xFFFFFFFF ((u * t * 1728000 + a * t ^ 2 + 17279999) / 17280000)

/-- Once per second in HOLDOVER. -/
def State.holdoverUpdate (s : State) : State :=
  if s.time.state = .holdover then
    { s with time.estimate := holdoverBound (s.cfg 0x200A00) (s.cfg 0x200B00) (FT.nsSince s.time.holdStart s.now / 1000000000) }
  else s

/-! ### Steps, sets, alignment (R61, R67, R68, R72, R77, R609) -/

/-- Field Time becomes `new` on the step tick. -/
def State.moveTime (new : FT) (s : State) : State :=
  let d : Int := (FT.units new : Int) - FT.units s.now
  { s with
    time := { s.time with now := new, gnssDelta := s.time.gnssDelta - d,
                          holdStart := if s.time.state = .holdover then FT.addUnits s.time.holdStart d else s.time.holdStart },
    ptp := { s.ptp with domA := { s.ptp.domA with offset := s.ptp.domA.offset - d, filtered := s.ptp.domA.filtered + d },
                        domB := { s.ptp.domB with offset := s.ptp.domB.offset - d, filtered := s.ptp.domB.filtered + d } } }

/-- A slot begins: an accepted yield settles (R561), a handover without s seeks it (R558); at a slot 0 committed changes of 0x2810 to 0x281C take effect (R225). -/
def State.slotBegins (s : State) : State :=
  let s := s.yieldNow.seekSlot
  if FT.slot s.now = 0 then s.adopt 0x2810 0x281C else s

/-- What a step or set does after its own record (R72, R77, R250, R251, R465). The slot that holds the new time begins on the
step tick (R72), which begins with `slotBegins`. -/
def State.afterJump (old new : FT) (cause : Nat) (s : State) : State :=
  (((((s.skipComparators old new).rearmSlotTick).tioJumped old).discontinuity old new cause).ppsJumped).slotBegins

/-- The whole second that a step, set or alignment replaces. -/
def State.thisSecond (s : State) : FT := ⟨s.now.sec, 0, 0⟩

/-- The tick of a pending forward step (R61). -/
def State.stepTime (s : State) : State :=
  match s.time.pending with
  | some p =>
    if p.align then s
    else
      let old : FT := ⟨p.sec, 0, 0⟩
      let new := FT.addUnits old p.delta
      let t := ({ s with time.pending := none }).moveTime new
      ((t.count 0x201002).record 0x2002 [.ft old, .ft new]).afterJump old new 0
  | none => s

/-- A set or alignment opens a new era and is recorded before anything else (R609). -/
def State.setTime (old new : FT) (cause : Nat) (s : State) : State :=
  let t := s.moveTime new
  (({ t with rcd.era := (t.rcd.era + 1) % 256 }).record 0x2003 [.ft old, .ft new, .u8 cause]).count 0x201003

/-- The tick of a pending initial alignment (R68). -/
def State.alignTime (s : State) : State :=
  match s.time.pending with
  | some p =>
    if p.align then
      let old : FT := ⟨p.sec, 0, 0⟩
      let new := FT.addUnits old p.delta
      let t : State := { s with time := { s.time with pending := none, aligned := true } }
      (t.setTime old new 1).afterJump old new 2
    else s
  | none => s

/-- Every source starts its lock-in time again, and every suspect mark is cleared (R63, R454). -/
def State.requalify (s : State) : State :=
  let s := (s.domainCleared false).domainCleared true
  { s with time := { s.time with gnssSuspect := false, validGnss := s.time.validGnss.map fun _ => s.ticks,
                                 validA := s.time.validA.map fun _ => s.ticks,
                                 validB := s.time.validB.map fun _ => s.ticks } }

/-- The tick of an accepted owner time-set (R67). DESIGN CHOICE (assumption 25): where a forward step or an alignment is
pending for the same second, the spec does not say which applies; here the set does, and drops the other without a record. -/
def State.applySet (s : State) : State :=
  match s.time.pendingSet with
  | some v =>
    let old := s.thisSecond
    let new : FT := ⟨v, 0, 0⟩
    let t : State := { s with time := { s.time with pendingSet := none, pending := none } }
    let t := ((t.setTime old new 0).requalify)
    let t := if s.time.everSelected then t.toHoldover else ({ t with time.selected := none }).timeState .free
    t.afterJump old new 1
  | none => s

/-- The decision on a write of 0x2005 (R66). -/
def State.timeSetCheck (role : Nat) (v : List Byte) (s : State) : Nat :=
  firstCase [
    (decide (role ≠ 3), 0x30),
    (s.power.mode != .maintain, 0x11),
    (v.length != 16, 0x21),
    (leNat v % 2 ^ 64 != 0, 0x20),
    (s.time.pendingSet.isSome, 0x10),
    (true, 1)]

/-- An accepted owner time-set waits for the next whole second. -/
def State.timeSetApply (v : List Byte) (s : State) : State := { s with time.pendingSet := some (field v 8 8) }

/-! ### Comparators and REF10 -/

/-- Comparator `k` reaches its target (R73: Field Time is at it or later; before that nothing fires): its edge leaves, it
rearms if periodic; the slot tick also begins the slot, comparator 1 places the edges of PPS_OUT (R168, R169). -/
def State.comparatorFires (k : Nat) (s : State) : State :=
  let c := s.comparator k
  match c.target with
  | none => s
  | some t =>
    if FT.lt s.now t then s
    else if 0x300 ≤ c.owner then (s.tioFire (c.owner - 0x300)).emit (.edge k c.owner t false)
    else
      let s := (s.modComparator k (Comparator.fired false)).emit (.edge k c.owner t false)
      if c.owner = 1 then s.slotBegins else s.ownerFires c.owner s.now

/-- REF10 or a PLL is lost (R82); a step that waits is dropped unless its tick is nearer than 4 ms (R740). -/
def State.ref10Lost (clock : Nat) (s : State) : State :=
  let t : State := { s with time := { s.time with refLost := true, selected := none, estimate := 0 } }
  (((t.dropStep.timeState .free).count 0x201006).record 0x2004 [.i64 clock]).unitFault 4 clock 0

/-! ### The commands -/

/-- COMPARATOR_FIRE (R73). -/
def execComparatorFire (k : Fin 32) (s : State) : Host.Outcome State Fault Refusal := .next (s.comparatorFires k.val)

/-- TICK_INCREMENT_UPDATE (R56, R57). -/
def execTickIncrementUpdate (freq phase : Int) (s : State) : Host.Outcome State Fault Refusal :=
  .next (s.newTerms freq phase)

/-- TIME_STATE_EVALUATION (R63). -/
def execTimeStateEvaluation (s : State) : Host.Outcome State Fault Refusal := .next s.evalTime

/-- HOLDOVER_ESTIMATE_UPDATE (R65). -/
def execHoldoverEstimateUpdate (s : State) : Host.Outcome State Fault Refusal := .next s.holdoverUpdate

/-- TIME_STEPPED (R61). -/
def execTimeStepped (s : State) : Host.Outcome State Fault Refusal := .next s.stepTime

/-- TIME_SET (R66). -/
def execTimeSet (w : Writer) (v : List Byte) (s : State) : Host.Outcome State Fault Refusal :=
  .next (s.commandWrite w 0x200500 (s.timeSetCheck (s.roleOf w) v) (State.timeSetApply v))

/-- TIME_SET_APPLY (R67). -/
def execTimeSetApply (s : State) : Host.Outcome State Fault Refusal := .next s.applySet

/-- INITIAL_ALIGNMENT (R68). -/
def execInitialAlignment (s : State) : Host.Outcome State Fault Refusal := .next s.alignTime

/-- REF10_LOST (R82): `clock` 0 REF10, 1 to 12 the PLL of a derived domain. -/
def execRef10Lost (clock : Fin 13) (s : State) : Host.Outcome State Fault Refusal := .next (s.ref10Lost clock.val)

end Sys2Proof.Machine
end

