-- ==== Sys2Proof/Machine/Ptp.lean ====
section
/-!
DEFINITION. Network time (R442 to R459): what is discarded, stamps and their queues, the messages of both roles, the
servo's judgement of a domain, the cross-check.
-/

namespace Sys2Proof

/-! ### The fields of a message, in network order (R12; IEEE 1588-2019, PRESUMED: assumption 28) -/

/-- messageType. -/
def PtpMsg.kind (m : PtpMsg) : Nat := beField m.octets 0 1 % 16

/-- versionPTP. -/
def PtpMsg.version (m : PtpMsg) : Nat := beField m.octets 1 1 % 16

/-- domainNumber. -/
def PtpMsg.number (m : PtpMsg) : Nat := beField m.octets 4 1

/-- The least length of a message of a type. -/
def ptpLength (kind : Nat) : Nat :=
  match kind with
  | 2 => 54 | 3 => 54 | 9 => 54 | 10 => 54 | 11 => 64 | _ => 44

/-- Does messageLength agree with the frame? On Ethernet a short message may be followed by padding to 46 octets. -/
def PtpMsg.lengthOk (m : PtpMsg) : Bool :=
  let n := beField m.octets 2 2
  decide (ptpLength m.kind ≤ n) && (n == m.octets.length || (!m.udp && decide (n < 46) && m.octets.length == 46))

/-- unicastFlag. -/
def PtpMsg.unicast (m : PtpMsg) : Bool := (beField m.octets 6 1).testBit 2

/-- twoStepFlag. -/
def PtpMsg.twoStep (m : PtpMsg) : Bool := (beField m.octets 6 1).testBit 1

/-- correctionField, in units of 2^-16 ns. -/
def PtpMsg.corr (m : PtpMsg) : Int := toSigned 64 (beField m.octets 8 8)

/-- clockIdentity of sourcePortIdentity. -/
def PtpMsg.clock (m : PtpMsg) : Nat := beField m.octets 20 8

/-- portNumber of sourcePortIdentity. -/
def PtpMsg.portNum (m : PtpMsg) : Nat := beField m.octets 28 2

/-- sequenceId. -/
def PtpMsg.seq (m : PtpMsg) : Nat := beField m.octets 30 2

/-- logMessageInterval. -/
def PtpMsg.logInt (m : PtpMsg) : Int := toSigned 8 (beField m.octets 33 1)

/-- The message's own timestamp. -/
def PtpMsg.origin (m : PtpMsg) : FT := ⟨beField m.octets 34 6, beField m.octets 40 4, 0⟩

/-- Does a response name this unit's port `p` as the requester? -/
def PtpMsg.toMe (m : PtpMsg) : Bool :=
  beField m.octets 44 8 == Config.clockIdentity && beField m.octets 52 2 == m.port.val + 1

/-- The dataset of an Announce. -/
def PtpMsg.dataset (m : PtpMsg) : GmData :=
  { identity := beField m.octets 53 8, cls := beField m.octets 48 1, accuracy := beField m.octets 49 1,
    variance := beField m.octets 50 2, prio1 := beField m.octets 47 1, prio2 := beField m.octets 52 1,
    steps := beField m.octets 61 2, source := beField m.octets 63 1, utc := beField m.octets 44 2 }

/-- The ten octets of a timestamp: whole seconds and nanoseconds. -/
def ptpTime (t : FT) : List Byte := beBytes 6 t.sec ++ beBytes 4 t.nsec

/-- A message of the unit: its header and what follows it. correctionField in 2^-32 ns is cut to 2^-16 ns; minorVersionPTP 1
and versionPTP 2 (R442). -/
def ptpOctets (kind number : Nat) (flags : Nat) (corr : Int) (portNum seq : Nat) (logInt : Int) (body : List Byte) : List Byte :=
  let control := match kind with | 0 => 0 | 1 => 1 | 8 => 2 | 9 => 3 | _ => 5
  [byte kind, 0x12#8] ++ beBytes 2 (34 + body.length) ++ [byte number, 0#8] ++ beBytes 2 flags ++
    beBytes 8 (ofSigned 64 (corr / 65536)) ++ zeros 4 ++ beBytes 8 Config.clockIdentity ++ beBytes 2 portNum ++ beBytes 2 seq ++
    [byte control, byte (ofSigned 8 logInt)] ++ body

/-- The requester's port identity, as a response carries it. -/
def PtpMsg.requester (m : PtpMsg) : List Byte := beBytes 8 m.clock ++ beBytes 2 m.portNum

/-- What follows the header of an Announce. -/
def GmData.body (g : GmData) : List Byte :=
  zeros 10 ++ beBytes 2 g.utc ++ [0#8, byte g.prio1, byte g.cls, byte g.accuracy] ++ beBytes 2 g.variance ++ [byte g.prio2] ++
    beBytes 8 g.identity ++ beBytes 2 g.steps ++ [byte g.source]

/-- The order of attributes of a grandmaster. -/
def GmData.key (g : GmData) : List Nat := [g.prio1, g.cls, g.accuracy, g.variance, g.prio2, g.identity]

end Sys2Proof

namespace Sys2Proof.Machine

/-! ### Settings -/

/-- The index of a domain's object. -/
def domainIndex (b : Bool) : Nat := 0x2040 + b2n b

/-- A domain's setting in force (R469). -/
def State.domCfg (b : Bool) (sub : Nat) (s : State) : Nat := s.eff (domainIndex b * 256 + sub)

/-- The same, signed. -/
def State.domCfgI (b : Bool) (sub : Nat) (s : State) : Int := s.effI (domainIndex b * 256 + sub)

/-- Does ETHp belong to a domain (R448)? -/
def State.inDomain (b : Bool) (p : Nat) (s : State) : Bool := (s.domCfg b 2).testBit p

/-- Does the host read the timestamp queue of ETHp (R459)? -/
def State.tsHost (p : Nat) (s : State) : Bool := (s.cfg 0x205600).testBit p

/-- The domain of a domainNumber at a port, if any. -/
def State.domainFor (p number : Nat) (s : State) : Option Bool :=
  [false, true].find? fun b => s.inDomain b p && s.domCfg b 1 == number

/-- The ports of a domain that its settings no longer name, and those they name anew. -/
def State.portState (b : Bool) (p : Nat) (s : State) : Nat := (s.domain b).states.getD p 3

/-- Is ETHp the SLAVE of a domain? -/
def State.isSlave (b : Bool) (p : Nat) (s : State) : Bool := s.portState b p == 9

/-- Is ETHp a MASTER of a domain? -/
def State.isMaster (b : Bool) (p : Nat) (s : State) : Bool := s.portState b p == 6

/-- 2^k seconds in ticks, for the logarithmic intervals of IEEE 1588. -/
def logTicks (k : Int) : Nat := if 0 ≤ k then secTicks (2 ^ k.toNat) else secTicks 1 / 2 ^ (-k).toNat

/-- A correctionField or delayAsymmetry (units of 2^-16 ns) in units of 2^-32 ns. -/
def corrUnits (c : Int) : Int := c * 65536

/-- A receive stamp with its path correction (R445). -/
def State.rxStamp (p : Nat) (raw : FT) (s : State) : FT := FT.addUnits raw (-psUnits (s.cfgI (0x205001 + p)))

/-- A transmit stamp with its path correction (R445). -/
def State.txStamp (p : Nat) (raw : FT) (s : State) : FT := FT.addUnits raw (psUnits (s.cfgI (0x205101 + p)))

/-- The delayAsymmetry of ETHp (R445). -/
def State.asymmetry (p : Nat) (s : State) : Int := corrUnits (s.cfgI (0x205201 + p))

/-- `a − b` in units of 2^-32 ns. -/
def FT.minus (a b : FT) : Int := (FT.units a : Int) - FT.units b

/-! ### Timestamp queues (R456 to R459) -/

/-- Change the queue of ETHp. -/
def State.modQueue (p : Nat) (f : List TsEntry → List TsEntry) (s : State) : State :=
  { s with ptp.queues := modAt s.ptp.queues p f }

/-- The queue of ETHp, oldest first. -/
def State.tsQueue (p : Nat) (s : State) : List TsEntry := s.ptp.queues.getD p []

/-- The newest entry of a queue takes one more drop, or a gap marker follows it. -/
def markGap (e : TsEntry) : List TsEntry → List TsEntry
  | [] => [{ e with kind := 3, gap := 1 }]
  | [x] => if x.kind = 3 then [{ x with gap := min 65535 (x.gap + 1) }] else [x, { e with kind := 3, gap := 1 }]
  | x :: l => x :: markGap e l

/-- Is the newest entry a gap marker? -/
def endsInGap (l : List TsEntry) : Bool := l.getLast?.any fun x => x.kind == 3

/-- Is a new stamp stored (R458)? -/
def State.stampFits (p : Nat) (s : State) : Bool := decide ((s.tsQueue p).length ≤ 62)

/-- A stamp arrives at a queue (R456, R458). -/
def State.pushStamp (p : Nat) (e : TsEntry) (s : State) : State :=
  if s.stampFits p then (s.modQueue p (· ++ [e])).count 0x206001
  else
    (((s.modQueue p (markGap e)).count 0x206002).countN 0x206003 (if endsInGap (s.tsQueue p) then 0 else 1)).recordSince p
      0x2014 1 [.u8 p]

/-- The port's firmware has taken the oldest `n` entries (R456); it does not read a host's queue (R459). -/
def State.stampsTaken (p n : Nat) (s : State) : State := if s.tsHost p then s else s.modQueue p (List.drop n)

/-- The 32 octets of an entry (R457). -/
def TsEntry.bytes (e : TsEntry) : List Byte :=
  leBytes 8 (e.kind * 2 ^ 62 + e.domSel * 2 ^ 60 + e.msgType * 2 ^ 56 + e.domNum * 2 ^ 48 + e.seqId * 2 ^ 32 + e.gap * 2 ^ 16 +
      e.portNum) ++
    leBytes 8 e.clockId ++ leBytes 8 (e.stamp.nsec * 2 ^ 32 + e.stamp.frac) ++ leBytes 8 e.stamp.sec

/-- The entry of a received message. -/
def State.rxEntry (sel kind : Nat) (m : PtpMsg) (s : State) : TsEntry :=
  ⟨1, sel, kind, m.number % 256, m.seq, 0, m.portNum, m.clock, s.rxStamp m.port.val m.raw⟩

/-- The entry of an own event message. -/
def State.txEntry (b : Bool) (p kind seq : Nat) (raw : FT) (s : State) : TsEntry :=
  ⟨2, b2n b, kind, s.domCfg b 1, seq, 0, p + 1, Config.clockIdentity, s.txStamp p raw⟩

/-! ### Reception (R442 to R447) -/

/-- The domain that takes a message; none where R443 discards it. -/
def State.accepts (m : PtpMsg) (s : State) : Option Bool :=
  if m.version = 2 ∧ m.lengthOk = true ∧ m.unicast = false then s.domainFor m.port.val m.number else none

/-- Receive a message of messageType `kind` (R443, R444, R458, R459). A port whose stamps the host reads belongs to no domain
(R448), so its messages are discarded and counted (R443); in UDP the event messages are those to port 319. `act` has the domain, and whether an event message's
stamp was stored. -/
def State.ptpReceive (kind : Nat) (m : PtpMsg) (act : Bool → Bool → State → State) (s : State) : State :=
  let p := m.port.val
  if m.kind ≠ kind then s
  else if s.tsHost p then
    (when (!m.udp || decide (kind < 4)) (State.pushStamp p (s.rxEntry 2 kind m)) s).count 0x206005
  else
    let s := s.stampsTaken p m.taken
    let sel := match s.domainFor p m.number with
      | some b => b2n b
      | none => 2
    let t := when (decide (kind < 4)) (fun s => s.pushStamp p (s.rxEntry sel kind m)) s
    match s.accepts m with
    | some b => act b (s.stampFits p) t
    | none => t.count 0x206005

/-! ### The servo (R451, R452) -/

/-- Does a domain measure peer delays? -/
def State.peerToPeer (b : Bool) (s : State) : Bool := s.domCfg b 4 == 1

/-- The delay of the path to the master: of the slave port where measured peer to peer. -/
def State.pathDelay (b : Bool) (s : State) : Int :=
  if s.peerToPeer b then
    match (s.domain b).states.findIdx? (· == 9) with
    | some p => ((s.domain b).peers.getD p ⟨none, 0, none⟩).delay
    | none => 0
  else (s.domain b).delay

/-- When that delay was last measured. -/
def State.delayMeasured (b : Bool) (s : State) : Option Nat :=
  if s.peerToPeer b then
    match (s.domain b).states.findIdx? (· == 9) with
    | some p => ((s.domain b).peers.getD p ⟨none, 0, none⟩).last
    | none => none
  else (s.domain b).lastDelay

/-- The innovation limit in units of 2^-32 ns. -/
def State.jumpTol (s : State) : Int := nsUnits (s.eff 0x204800)

/-- A Sync measurement is complete (R451, R452): `t1` is the master's stamp with every correction added, `t2` the own. -/
def State.syncMeasured (b : Bool) (t1 t2 : FT) (logInt : Int) (s : State) : State :=
  let d := s.domain b
  let x := FT.minus t2 t1 - s.pathDelay b
  let gap := s.ticks - d.lastSync.getD s.ticks
  let band := s.eff 0x204700
  let far := decide (s.jumpTol < (x - Config.servoPredict band d.servo gap).natAbs)
  let y := Config.servoUpdate band d.servo gap x
  let s := s.modDomain b fun d => { d with syncT1 := t1, syncT2 := t2, lastSync := some s.ticks, syncLog := logInt, waitSync := none }
  if far && decide (s.eff 0x204900 ≤ d.jumpRun + 1) then
    (s.modDomain b fun d => { d with goodSince := d.goodSince.map fun _ => s.ticks, jumpRun := 0, filtered := x,
                                     servo := Config.servoCentre band d.servo x }).domainSuspect b 1 d.offset (-x)
  else
    s.modDomain b fun d => { d with goodSince := if far then d.goodSince.map fun _ => s.ticks else d.goodSince,
                                    jumpRun := if far then d.jumpRun + 1 else 0, servo := y.1, filtered := y.2 }

/-- Is a message from the master that a port follows? -/
def State.fromMaster (b : Bool) (m : PtpMsg) (s : State) : Bool :=
  s.isSlave b m.port.val && (s.domain b).parent == (m.clock, m.portNum)

/-- A Sync (R442, R445). -/
def State.syncReceived (m : PtpMsg) (b stored : Bool) (s : State) : State :=
  if s.fromMaster b m then
    if stored then
      let got := s.rxStamp m.port.val m.raw
      let corr := corrUnits m.corr + s.asymmetry m.port.val
      if m.twoStep then s.modDomain b fun d => { d with waitSync := some ⟨m.port.val, m.seq, m.origin, got, m.origin, corr⟩ }
      else s.syncMeasured b (FT.addUnits m.origin corr) got m.logInt
    else s.modDomain b fun d => { d with waitSync := none }
  else s

/-- A Follow_Up completes a two-step Sync. -/
def State.followUpReceived (m : PtpMsg) (b : Bool) (s : State) : State :=
  match (s.domain b).waitSync with
  | some w =>
    if s.fromMaster b m ∧ w.port = m.port.val ∧ w.seqId = m.seq then
      s.syncMeasured b (FT.addUnits m.origin (w.corr + corrUnits m.corr)) w.got m.logInt
    else s
  | none => s

/-- A Delay_Resp completes a mean path delay measurement (end-to-end). -/
def State.delayRespReceived (m : PtpMsg) (b : Bool) (s : State) : State :=
  match (s.domain b).waitDelay with
  | some w =>
    if s.fromMaster b m ∧ m.toMe = true ∧ w.port = m.port.val ∧ w.seqId = m.seq ∧ (s.domain b).lastSync.isSome = true then
      s.modDomain b fun d =>
        { d with waitDelay := none, lastDelay := some s.ticks,
                 delay := (FT.minus d.syncT2 d.syncT1 + FT.minus m.origin w.sent - corrUnits m.corr) / 2 }
    else s
  | none => s

/-- Change the peer delay of ETHp in a domain. -/
def State.modPeer (b : Bool) (p : Nat) (f : PeerPort → PeerPort) (s : State) : State :=
  s.modDomain b fun d => { d with peers := modAt d.peers p f }

/-- The peer delay of ETHp in a domain. -/
def State.peerPort (b : Bool) (p : Nat) (s : State) : PeerPort := (s.domain b).peers.getD p ⟨none, 0, none⟩

/-- A peer delay is measured: twice the delay is `x`. -/
def State.peerMeasured (b : Bool) (p : Nat) (x : Int) (s : State) : State :=
  s.modPeer b p fun _ => ⟨none, x / 2, some s.ticks⟩

/-- A Pdelay_Resp (R442). -/
def State.pdelayRespReceived (m : PtpMsg) (b stored : Bool) (s : State) : State :=
  let p := m.port.val
  match (s.peerPort b p).wait with
  | some w =>
    if m.toMe = true ∧ w.seqId = m.seq then
      if stored then
        let got := s.rxStamp p m.raw
        let corr := corrUnits m.corr + s.asymmetry p
        if m.twoStep then s.modPeer b p fun x => { x with wait := some ⟨p, m.seq, w.sent, got, m.origin, corr⟩ }
        else s.peerMeasured b p (FT.minus got w.sent - corr)
      else s.modPeer b p fun x => { x with wait := none }
    else s
  | none => s

/-- A Pdelay_Resp_Follow_Up completes a two-step peer delay measurement. -/
def State.pdelayFollowUpReceived (m : PtpMsg) (b : Bool) (s : State) : State :=
  let p := m.port.val
  match (s.peerPort b p).wait with
  | some w =>
    if m.toMe = true ∧ w.seqId = m.seq ∧ w.got ≠ w.sent then
      s.peerMeasured b p (FT.minus w.got w.sent - FT.minus m.origin w.remote - w.corr - corrUnits m.corr)
    else s
  | none => s

/-! ### Transmission (R445, R447, R449, R450) -/

/-- The group of a message: MAC address, IPv4 address and UDP port (R442). -/
def ptpGroup (kind : Nat) (udp : Bool) : List Byte × List Byte × Nat :=
  let port := if kind < 4 then 319 else 320
  if kind = 2 ∨ kind = 3 ∨ kind = 10 then
    (if udp then [0x01#8, 0#8, 0x5E#8, 0#8, 0#8, 0x6B#8] else [0x01#8, 0x80#8, 0xC2#8, 0#8, 0#8, 0x0E#8], [224#8, 0#8, 0#8, 107#8], port)
  else
    (if udp then [0x01#8, 0#8, 0x5E#8, 0#8, 0x01#8, 0x81#8] else [0x01#8, 0x1B#8, 0x19#8, 0#8, 0#8, 0#8], [224#8, 0#8, 1#8, 129#8], port)

/-- A PTP message leaves ETHp on the transport of its domain, from the unit address (R442, R450), in class 3 (R432). -/
def State.ptpSend (b : Bool) (p kind seq flags : Nat) (corr : Int) (logInt : Int) (body : List Byte) (s : State) : State :=
  let m := ptpOctets kind (s.domCfg b 1) flags corr (p + 1) seq logInt body
  let udp := s.domCfg b 3 == 1
  let g := ptpGroup kind udp
  if udp then
    s.sendFrame p 3 (Config.unitMac p) g.1 0x0800
      (ipv4Packet 17 (s.unitIp p) g.2.1 (udpDatagram (s.unitIp p) g.2.1 g.2.2 g.2.2 m))
  else s.sendFrame p 3 (Config.unitMac p) g.1 0x88F7 m

/-- twoStepFlag in the flag field. -/
def twoStepFlag : Nat := 0x0200

/-- Does a domain send one-step messages (R447)? -/
def State.oneStep (b : Bool) (s : State) : Bool := s.domCfg b 6 == 1

/-- A Delay_Req is answered by a master (R442). -/
def State.delayReqReceived (m : PtpMsg) (b stored : Bool) (s : State) : State :=
  if s.isMaster b m.port.val && !s.peerToPeer b && stored then
    let got := s.rxStamp m.port.val m.raw
    s.ptpSend b m.port.val 9 m.seq 0 (corrUnits m.corr - got.frac) (s.domCfgI b 9) (ptpTime got ++ m.requester)
  else s

/-- A Pdelay_Req is answered (R447); `sent` is the raw stamp of the answer. -/
def State.pdelayReqReceived (m : PtpMsg) (sent : FT) (b stored : Bool) (s : State) : State :=
  let p := m.port.val
  if s.peerToPeer b && stored then
    let got := s.rxStamp p m.raw
    let out := s.txStamp p sent
    let fits := s.stampFits p
    let t := s.pushStamp p (s.txEntry b p 3 m.seq sent)
    if s.oneStep b then
      t.ptpSend b p 3 m.seq 0 (corrUnits m.corr + FT.minus out got) 0x7F (zeros 10 ++ m.requester)
    else
      let t := t.ptpSend b p 3 m.seq twoStepFlag (-(got.frac : Int)) 0x7F (ptpTime got ++ m.requester)
      when fits (State.ptpSend b p 10 m.seq 0 (corrUnits m.corr + out.frac) 0x7F (ptpTime out ++ m.requester)) t
  else s

/-- May a domain send from ETHp (R459)? -/
def State.ptpMaySend (b : Bool) (p : Nat) (s : State) : Bool := s.inDomain b p && !s.tsHost p

/-- A Sync leaves a master port (R447): its stamp is in it, or in the Follow_Up. -/
def State.sendSync (b : Bool) (p : Nat) (raw : FT) (taken : Nat) (s : State) : State :=
  if s.ptpMaySend b p && s.isMaster b p then
    let s := s.stampsTaken p taken
    let seq := (s.domain b).seqSync
    let out := s.txStamp p raw
    let fits := s.stampFits p
    let t := ((s.modDomain b fun d => { d with seqSync := (seq + 1) % 65536 })).pushStamp p (s.txEntry b p 0 seq raw)
    let log := s.domCfgI b 7
    if s.oneStep b then t.ptpSend b p 0 seq 0 out.frac log (ptpTime out)
    else
      when fits (State.ptpSend b p 8 seq 0 out.frac log (ptpTime out)) (t.ptpSend b p 0 seq twoStepFlag 0 log (zeros 10))
  else s

/-- Is Field Time locked to this domain (R449)? -/
def State.lockedTo (b : Bool) (s : State) : Bool := s.time.state == (if b then .lockedPtpB else .lockedPtpA)

/-- clockClass, clockAccuracy and timeSource of the own defaultDS (R449). -/
def TimeState.dataset : TimeState → Nat × Nat × Nat
  | .lockedGnss => (6, 0x21, 0x20)
  | .lockedPtpA => (6, 0x22, 0x40)
  | .lockedPtpB => (6, 0x22, 0x40)
  | .holdover => (7, 0xFE, 0xA0)
  | .free => (248, 0xFE, 0xA0)

/-- priority2 of the own defaultDS (R450). -/
def State.ownPriority2 (b : Bool) (s : State) : Nat :=
  if s.power.mode = .standby then min 255 (s.domCfg b 12 + 1) else s.domCfg b 12

/-- The dataset that an Announce of a domain carries (R449). -/
def State.announced (b : Bool) (s : State) : GmData :=
  let x := s.time.state.dataset
  let own : GmData := ⟨Config.clockIdentity, x.1, x.2.1, Config.clockVariance, s.domCfg b 11, s.ownPriority2 b, 0, x.2.2, s.cfg 0x204D00⟩
  match (s.domain b).gm with
  | some g => if s.lockedTo b then { g with steps := g.steps + 1, utc := s.cfg 0x204D00 } else own
  | none => own

/-- The flag field of an Announce (R449): ptpTimescale, currentUtcOffsetValid, and those the spec does not give. -/
def State.announceFlags (s : State) : Nat :=
  8 + 4 * b2n s.ptp.utcValid + (Config.announceFlags % 4 + Config.announceFlags / 16 % 4 * 16)

/-- An Announce leaves a master port (R449). -/
def State.sendAnnounce (b : Bool) (p : Nat) (s : State) : State :=
  if s.ptpMaySend b p && s.isMaster b p && s.domCfg b 5 == 1 then
    let seq := (s.domain b).seqAnn
    (s.modDomain b fun d => { d with seqAnn := (seq + 1) % 65536 }).ptpSend b p 11 seq s.announceFlags 0 (s.domCfgI b 8)
      (s.announced b).body
  else s

/-- A Delay_Req leaves the slave port of an end-to-end domain (R451). -/
def State.sendDelayReq (b : Bool) (p : Nat) (raw : FT) (taken : Nat) (s : State) : State :=
  if s.ptpMaySend b p && s.isSlave b p && !s.peerToPeer b then
    let s := s.stampsTaken p taken
    let seq := (s.domain b).seqReq
    let w : Option PtpWait := if s.stampFits p then some ⟨p, seq, s.txStamp p raw, ⟨0, 0, 0⟩, ⟨0, 0, 0⟩, 0⟩ else none
    ((s.modDomain b fun d => { d with seqReq := (seq + 1) % 65536, waitDelay := w }).pushStamp p
      (s.txEntry b p 1 seq raw)).ptpSend b p 1 seq 0 (-s.asymmetry p) 0x7F (zeros 10)
  else s

/-- A Pdelay_Req leaves a port of a peer-to-peer domain (R442). -/
def State.sendPdelayReq (b : Bool) (p : Nat) (raw : FT) (taken : Nat) (s : State) : State :=
  if s.ptpMaySend b p && s.peerToPeer b then
    let s := s.stampsTaken p taken
    let seq := (s.domain b).seqReq
    let out := s.txStamp p raw
    let w : Option PtpWait := if s.stampFits p then some ⟨p, seq, out, out, out, 0⟩ else none
    (((s.modDomain b fun d => { d with seqReq := (seq + 1) % 65536 }).modPeer b p fun x => { x with wait := w }).pushStamp p
      (s.txEntry b p 2 seq raw)).ptpSend b p 2 seq 0 (-s.asymmetry p) 0x7F (zeros 20)
  else s

/-! ### The best master clock algorithm (R442, R448, R449, R453)

PRESUMED from IEEE 1588-2019, 9.3 (assumption 28): the spec names the standard's default algorithm. Two Announce messages within
four announce intervals qualify a foreign master; a recommended state is taken at once. -/

/-- A dataset to compare: the grandmaster's, the port it comes from, the own port that received it. -/
structure Rival where
  data     : GmData
  sender   : Nat × Nat
  receiver : Nat × Nat
  deriving DecidableEq, Repr

/-- Is a list of numbers before another of the same length? -/
def lexBefore : List Nat → List Nat → Bool
  | a :: l, b :: m => decide (a < b) || (a == b && lexBefore l m)
  | _, _ => false

/-- The dataset comparison: 2 `a` is better, 1 better by topology, 0 the same, -1 and -2 the reverse. -/
def Rival.rank (a b : Rival) : Int :=
  if a.data.identity ≠ b.data.identity then (if lexBefore a.data.key b.data.key then 2 else -2)
  else if a.data.steps + 1 < b.data.steps then 2
  else if b.data.steps + 1 < a.data.steps then -2
  else if a.data.steps < b.data.steps then (if b.receiver.1 < b.sender.1 then 2 else 1)
  else if b.data.steps < a.data.steps then (if a.receiver.1 < a.sender.1 then -2 else -1)
  else if a.sender ≠ b.sender then (if lexBefore [a.sender.1, a.sender.2] [b.sender.1, b.sender.2] then 1 else -1)
  else if a.receiver.2 < b.receiver.2 then 1
  else if b.receiver.2 < a.receiver.2 then -1
  else 0

/-- The best of a list of datasets. -/
def bestRival : List Rival → Option Rival
  | [] => none
  | a :: l =>
    match bestRival l with
    | none => some a
    | some b => if 0 ≤ a.rank b then some a else some b

/-- The foreign masters of a port. -/
def State.foreigns (b : Bool) (p : Nat) (s : State) : List Foreign := (s.domain b).foreign.getD p []

/-- Does a foreign master take part at port `p`? -/
def State.foreignFits (b : Bool) (f : Foreign) (s : State) : Bool :=
  match f.times with
  | _ :: t :: _ => decide (s.ticks - t ≤ 4 * logTicks (s.domCfgI b 8)) && decide (f.data.steps < 255) &&
      f.clock != Config.clockIdentity
  | _ => false

/-- Erbest of port `p`. -/
def State.bestAt (b : Bool) (p : Nat) (s : State) : Option Rival :=
  bestRival (((s.foreigns b p).filter fun f => s.foreignFits b f).map fun f =>
    ⟨f.data, (f.clock, f.portNum), (Config.clockIdentity, p + 1)⟩)

/-- Ebest of a domain, among its ports. -/
def State.bestOf (b : Bool) (s : State) : Option Rival :=
  bestRival ((List.range 4).filterMap fun p => if s.inDomain b p then s.bestAt b p else none)

/-- The unit's own dataset D0: that of its defaultDS (R449, R450), of class 255 where it is slave only, and of class 248 where the
domain itself carries Field Time (PRESUMED: R449 gives the locked classes for the other domain). -/
def State.ownRival (b : Bool) (s : State) : Rival :=
  let x := s.time.state.dataset
  let cls := if s.domCfg b 5 = 0 then 255 else if s.lockedTo b then 248 else x.1
  ⟨⟨Config.clockIdentity, cls, x.2.1, Config.clockVariance, s.domCfg b 11, s.ownPriority2 b, 0, x.2.2, 0⟩,
    (Config.clockIdentity, 0), (Config.clockIdentity, 0)⟩

/-- Is `a` better than what may be there, or better by topology? -/
def Rival.beats (a : Rival) (o : Option Rival) : Bool :=
  match o with
  | none => true
  | some b => decide (0 < a.rank b)

/-- The portState that the algorithm gives ETHp of a domain: 4 LISTENING, 6 MASTER, 7 PASSIVE, 9 SLAVE. -/
def State.recommended (b : Bool) (p : Nat) (s : State) : Nat :=
  let own := s.ownRival b
  let here := s.bestAt b p
  let best := s.bestOf b
  let slave := best.any fun x => x.receiver.2 == p + 1
  if s.domCfg b 5 = 0 then (if slave then 9 else 4)
  else if here = none ∧ s.portState b p = 4 then 4
  else if own.data.cls < 128 then (if own.beats here then 6 else 7)
  else if own.beats best then 6
  else if slave then 9
  else match best, here with
    | some x, some y => if x.rank y = 1 then 7 else 6
    | _, _ => 6

/-- ETHp changes its portState in a domain (0x2013). -/
def State.setPortState (b : Bool) (p n : Nat) (s : State) : State :=
  if s.portState b p = n then s
  else (s.modDomain b fun d => { d with states := setAt d.states p n }).record 0x2013
    [.u8 (b2n b), .u8 p, .u8 (s.portState b p), .u8 n]

/-- Another grandmaster takes the place of the one known (R453). -/
def State.gmChanged (b : Bool) (g : Option GmData) (s : State) : Bool :=
  match (s.domain b).gm, g with
  | some x, some y => x.identity != y.identity
  | _, _ => false

/-- The algorithm decides for every port of a domain; at most one is in SLAVE (R448). -/
def State.decided (b : Bool) (s : State) : State :=
  let old := s
  let s := each (List.range 4) (fun p s => s.setPortState b p (if old.inDomain b p then old.recommended b p else 3)) s
  let best := (old.bestOf b).filter fun _ => (s.domain b).states.contains 9
  let gm := best.map Rival.data
  let change := old.gmChanged b gm
  let s := s.modDomain b fun d => { d with gm := gm, parent := (best.map Rival.sender).getD (0, 0) }
  if change then s.domainSuspect b 2 (s.domain b).offset (s.domain b).offset else s

/-- An Announce is noted at its port: at most five foreign masters are kept, the newest first. -/
def State.announceNoted (b : Bool) (m : PtpMsg) (s : State) : State :=
  let p := m.port.val
  let old := (s.foreigns b p).find? fun f => f.clock == m.clock && f.portNum == m.portNum
  let times := s.ticks :: ((old.map Foreign.times).getD []).take 1
  let rest := (s.foreigns b p).filter fun f => !(f.clock == m.clock && f.portNum == m.portNum)
  let f : Foreign := ⟨m.clock, m.portNum, m.dataset, times⟩
  s.modDomain b fun d => { d with foreign := setAt d.foreign p ((f :: rest).take 5), heard := setAt d.heard p s.ticks }

/-- An Announce is heard at a port, and the algorithm decides. -/
def State.announceHeard (b : Bool) (m : PtpMsg) (s : State) : State := (s.announceNoted b m).decided b

/-- Does a command bring an Announce to a port (R80)? -/
def announceAt (p : Nat) (i : Instr) : Bool :=
  match i with
  | .ptpAnnounce m => m.port.val == p
  | _ => false

/-- announceReceiptTimeout expires at a port (R469, R79, R80): what it heard is forgotten, a LISTENING port that may be a master
becomes one. -/
def State.announceTimeout (b : Bool) (p : Nat) (s : State) : State :=
  let since := (s.domain b).heard.getD p 0
  if s.inDomain b p && s.timedOut since (s.domCfg b 10 * logTicks (s.domCfgI b 8)) (announceAt p) then
    let t := (s.modDomain b fun d => { d with foreign := setAt d.foreign p [], heard := setAt d.heard p s.ticks }).count 0x206007
    let t := if s.portState b p = 4 ∧ s.domCfg b 5 = 1 then t.setPortState b p 6 else t
    t.decided b
  else s

/-! ### The slot-0 evaluation (R451, R454, R455) -/

/-- A domain's settings come into force at its ports: one that enters it is LISTENING, one that leaves it DISABLED. -/
def State.portsFollow (b : Bool) (s : State) : State :=
  each (List.range 4) (fun p s =>
    if s.inDomain b p then
      (if s.portState b p = 3 then
        (s.modDomain b fun d => { d with foreign := setAt d.foreign p [], heard := setAt d.heard p s.ticks }).setPortState b p 4
      else s)
    else s.setPortState b p 3) s

/-- Has something happened within so many ticks? -/
def State.within (n : Nat) (t : Option Nat) (s : State) : Bool :=
  match t with
  | some x => decide (s.ticks - x ≤ n)
  | none => false

/-- Is a domain valid (R451)? -/
def State.domainValid (b : Bool) (s : State) : Bool :=
  let d := s.domain b
  d.states.contains 9 && (d.gm.any fun g => decide (g.cls ≤ s.eff 0x204C00)) &&
    s.within (3 * logTicks d.syncLog) d.lastSync &&
    s.within (16 * logTicks (s.domCfgI b 9)) (s.delayMeasured b)

/-- A domain's validity and offset at slot 0 (R451). -/
def State.domainEval (b : Bool) (s : State) : State :=
  let v := s.domainValid b
  let s := s.modDomain b fun d => { d with offset := -d.filtered, goodSince := since v s.ticks d.goodSince }
  if b then { s with time.validB := since v s.ticks s.time.validB } else { s with time.validA := since v s.ticks s.time.validA }

/-- |Δ_A − Δ_B| exceeds 0x204B. -/
def State.crossFails (s : State) : Bool :=
  decide (nsUnits (s.eff 0x204B00) < (s.ptp.domA.offset - s.ptp.domB.offset).natAbs)

/-- Are both domains valid? -/
def State.bothValid (s : State) : Bool := s.time.validA.isSome && s.time.validB.isSome

/-- Does the clearing condition of a domain's mark hold (R454)? -/
def State.clears (b : Bool) (s : State) : Bool :=
  let d := s.domain b
  let good := match d.goodSince with
    | some t => decide (secTicks (s.eff 0x204A00) ≤ s.ticks - t)
    | none => false
  match d.cause with
  | 1 => good
  | 2 => good
  | 3 => good && s.bothValid && !s.crossFails
  | 4 => decide (-secUnits < d.offset)
  | _ => false

/-- The domain that a cross-check failure marks (R455): `true` is B. -/
def State.crossLoser (s : State) : Bool :=
  let a := (s.ptp.domA.offset - s.time.gnssDelta).natAbs
  let b := (s.ptp.domB.offset - s.time.gnssDelta).natAbs
  if s.time.validGnss.isSome ∧ a ≠ b then decide (a < b)
  else if s.time.selected = some .ptpB then false
  else true

/-- The cross-check (R455). -/
def State.crossCheck (s : State) : State :=
  if s.bothValid && s.ptp.domA.cause == 0 && s.ptp.domB.cause == 0 then
    if s.crossFails then
      if s.eff 0x204900 ≤ s.ptp.crossRun + 1 then
        let b := s.crossLoser
        (({ s with ptp.crossRun := 0 }).count 0x206006).domainSuspect b 3 (s.domain b).offset (s.domain b).offset
      else { s with ptp.crossRun := s.ptp.crossRun + 1 }
    else { s with ptp.crossRun := 0 }
  else { s with ptp.crossRun := 0 }

/-- Clear a mark where due. -/
def State.clearIfDue (b : Bool) (s : State) : State := when (s.clears b) (State.domainCleared b) s

/-- The evaluation of both domains. -/
def State.evalDomains (s : State) : State :=
  let s := ((s.adopt 0x2040 0x2041).adopt 0x2047 0x204C)
  let s := (((s.portsFollow false).portsFollow true).domainEval false).domainEval true
  ((s.clearIfDue false).clearIfDue true).crossCheck

/-! ### Reading a host's queue (R459) -/

/-- A read of 0x2058.(p + 1): the oldest entry, removed where the host reads the port. -/
def State.popStamp (p : Nat) (s : State) : List Byte × State :=
  match s.tsQueue p with
  | [] => (zeros 32, s)
  | e :: _ => (e.bytes, if s.tsHost p then s.modQueue p (List.drop 1) else s)

/-- Answer a read that stands as a row of its own. -/
def State.readRow (w : Writer) (obj : Nat) (r : List Byte × State) : State :=
  r.2.emit (.value w.port.val w.sess.val obj 0 r.1)

/-! ### The commands -/

/-- PTP_SYNC (R452). -/
def execPtpSync (m : PtpMsg) (s : State) : Host.Outcome State Fault Refusal :=
  .next (s.ptpReceive 0 m (State.syncReceived m))

/-- PTP_FOLLOW_UP (R442). -/
def execPtpFollowUp (m : PtpMsg) (s : State) : Host.Outcome State Fault Refusal :=
  .next (s.ptpReceive 8 m fun b _ => State.followUpReceived m b)

/-- PTP_DELAY_REQ (R442). -/
def execPtpDelayReq (m : PtpMsg) (s : State) : Host.Outcome State Fault Refusal :=
  .next (s.ptpReceive 1 m (State.delayReqReceived m))

/-- PTP_DELAY_RESP (R442). -/
def execPtpDelayResp (m : PtpMsg) (s : State) : Host.Outcome State Fault Refusal :=
  .next (s.ptpReceive 9 m fun b _ => State.delayRespReceived m b)

/-- PTP_PDELAY_REQ (R447). -/
def execPtpPdelayReq (m : PtpMsg) (sent : FT) (s : State) : Host.Outcome State Fault Refusal :=
  .next (s.ptpReceive 2 m (State.pdelayReqReceived m sent))

/-- PTP_PDELAY_RESP (R442). -/
def execPtpPdelayResp (m : PtpMsg) (s : State) : Host.Outcome State Fault Refusal :=
  .next (s.ptpReceive 3 m (State.pdelayRespReceived m))

/-- PTP_PDELAY_RESP_FOLLOW_UP (R442). -/
def execPtpPdelayRespFollowUp (m : PtpMsg) (s : State) : Host.Outcome State Fault Refusal :=
  .next (s.ptpReceive 10 m fun b _ => State.pdelayFollowUpReceived m b)

/-- PTP_ANNOUNCE (R449). -/
def execPtpAnnounce (m : PtpMsg) (s : State) : Host.Outcome State Fault Refusal :=
  .next (s.ptpReceive 11 m fun b _ => State.announceHeard b m)

/-- PTP_SYNC_TRANSMIT (R447). -/
def execPtpSyncTransmit (dom : Bool) (port : Fin 4) (raw : FT) (taken : Nat) (s : State) :
    Host.Outcome State Fault Refusal := .next (s.sendSync dom port.val raw taken)

/-- PTP_ANNOUNCE_TRANSMIT (R449). -/
def execPtpAnnounceTransmit (dom : Bool) (port : Fin 4) (s : State) : Host.Outcome State Fault Refusal :=
  .next (s.sendAnnounce dom port.val)

/-- PTP_DELAY_REQ_TRANSMIT (R451). -/
def execPtpDelayReqTransmit (dom : Bool) (port : Fin 4) (raw : FT) (taken : Nat) (s : State) :
    Host.Outcome State Fault Refusal := .next (s.sendDelayReq dom port.val raw taken)

/-- PTP_PDELAY_REQ_TRANSMIT (R442). -/
def execPtpPdelayReqTransmit (dom : Bool) (port : Fin 4) (raw : FT) (taken : Nat) (s : State) :
    Host.Outcome State Fault Refusal := .next (s.sendPdelayReq dom port.val raw taken)

/-- ANNOUNCE_RECEIPT_TIMEOUT (R469) at ETHp. -/
def execAnnounceReceiptTimeout (dom : Bool) (port : Fin 4) (s : State) : Host.Outcome State Fault Refusal :=
  .next (s.announceTimeout dom port.val)

/-- PTP_DOMAIN_EVAL (R455). -/
def execPtpDomainEval (s : State) : Host.Outcome State Fault Refusal := .next s.evalDomains

/-- TS_POP (R459). -/
def execTsPop (w : Writer) (port : Fin 4) (s : State) : Host.Outcome State Fault Refusal :=
  .next (State.readRow w (0x205801 + port.val) (s.popStamp port.val))

end Sys2Proof.Machine
end

