-- ==== Sys2Proof/Machine/Net.lean ====
section
/-!
DEFINITION. Ethernet and CAN FD ports (chapter 13): the checks of a received frame, filter rules and queues, the stop tap,
addresses, ARP and ICMP, reassembly; CAN error states, status frames and settings.
-/

namespace Sys2Proof.Machine

/-! ### A frame's fields (R12: network order) -/

/-- Is a frame tagged? -/
def frameTagged (f : List Byte) : Bool := beField f 12 2 == 0x8100

/-- Where its EtherType stands, after any VLAN tag. -/
def typeAt (f : List Byte) : Nat := if frameTagged f then 16 else 12

/-- Its EtherType. -/
def etherType (f : List Byte) : Nat := beField f (typeAt f) 2

/-- VLAN ID. -/
def frameVid (f : List Byte) : Nat := beField f 14 2 % 4096

/-- PCP; an untagged frame counts as PCP 0. -/
def framePcp (f : List Byte) : Nat := if frameTagged f then beField f 14 2 / 8192 else 0

/-- What follows the EtherType, without the FCS. -/
def framePayload (f : List Byte) : List Byte := (f.take (f.length - 4)).drop (typeAt f + 2)

/-- IHL × 4. -/
def ipHeader (d : List Byte) : Nat := beField d 0 1 % 16 * 4

/-- Total length. -/
def ipTotal (d : List Byte) : Nat := beField d 2 2

/-- The data of an IPv4 packet. -/
def ipData (d : List Byte) : List Byte := (d.take (ipTotal d)).drop (ipHeader d)

/-- Protocol. -/
def ipProto (d : List Byte) : Nat := beField d 9 1

/-- Source address. -/
def ipSource (d : List Byte) : List Byte := (d.drop 12).take 4

/-- Destination address. -/
def ipDest (d : List Byte) : List Byte := (d.drop 16).take 4

/-- Fragment offset in octets. -/
def fragOffset (d : List Byte) : Nat := beField d 6 2 % 8192 * 8

/-- More fragments follow. -/
def moreFragments (d : List Byte) : Bool := (beField d 6 2).testBit 13

/-- Is a packet a fragment? -/
def isFragment (d : List Byte) : Bool := moreFragments d || fragOffset d != 0

/-- Does a sum of words verify: all ones? -/
def sumOk (l : List Byte) : Bool := onesSum l == 0xFFFF

/-- Row 4 of R418: is an IPv4 header good? -/
def ipHeaderOk (d : List Byte) : Bool :=
  beField d 0 1 / 16 == 4 && decide (5 ≤ beField d 0 1 % 16) && decide (ipTotal d ≤ d.length) && sumOk (d.take (ipHeader d))

/-- Row 5 of R418 on the transport data `t` of protocol `proto`; a UDP checksum of zero means none (R431). -/
def transportOk (proto : Nat) (src dst t : List Byte) : Bool :=
  let u := if proto = 17 then t.take (beField t 4 2) else t
  let pseudo := src ++ dst ++ [0#8, byte proto] ++ (leBytes 2 u.length).reverse
  if proto = 17 then beField t 6 2 == 0 || sumOk (pseudo ++ u)
  else if proto = 6 then sumOk (pseudo ++ u)
  else true

/-- The UDP destination port of transport data. -/
def udpPort (t : List Byte) : Nat := beField t 2 2

/-- The UDP payload of transport data. -/
def udpPayload (t : List Byte) : List Byte := (t.take (beField t 4 2)).drop 8

/-! ### Addresses (R419, R426, R427) -/

/-- The group MAC addresses that every port accepts (R419). -/
def groupMacs : List (List Byte) :=
  [List.replicate 6 0xFF#8, [0x01#8, 0x1B#8, 0x19#8, 0#8, 0#8, 0#8], [0x01#8, 0x80#8, 0xC2#8, 0#8, 0#8, 0x0E#8],
    [0x01#8, 0#8, 0x5E#8, 0#8, 0x01#8, 0x81#8], [0x01#8, 0#8, 0x5E#8, 0#8, 0#8, 0x6B#8]]

/-- The IPv4 groups that PTP has joined (R442). -/
def groupIps : List (List Byte) := [[224#8, 0#8, 1#8, 129#8], [224#8, 0#8, 0#8, 107#8]]

/-- Is an IPv4 address one of the port's own? -/
def State.ownIp (p : Nat) (ip : List Byte) (s : State) : Bool :=
  ((s.unitIp p != zeros 4) && s.unitIp p == ip) || (s.roleLive p && s.roleIp p == ip)

/-- Row 3 of R418: is a frame addressed to the port? -/
def State.addressed (p : Nat) (f : List Byte) (s : State) : Bool :=
  let dst := f.take 6
  (groupMacs.contains dst || dst == Config.unitMac p || (s.roleLive p && dst == s.roleMac p)) &&
    etherType f != 0x8808 && decide (0x0600 ≤ etherType f) &&
    (etherType f != 0x0800 || groupIps.contains (ipDest (framePayload f)) || s.ownIp p (ipDest (framePayload f)))

/-! ### Filter rules and queues (R422 to R424) -/

/-- Does a rule match a frame (R422)? -/
def ruleMatches (r : Nat) (f : List Byte) : Bool :=
  r.testBit 63 &&
    (match r / 2 ^ 61 % 4 with
     | 0 => true | 1 => !frameTagged f | 2 => frameTagged f | _ => false) &&
    (r.testBit 60 || (frameTagged f && frameVid f == r / 2 ^ 48 % 4096)) &&
    (r / 2 ^ 40 % 256).testBit (framePcp f) &&
    (r.testBit 39 || etherType f == r % 65536)

/-- The rule that decides the fate of a frame (R423). -/
def State.decidingRule (p : Nat) (f : List Byte) (s : State) : Option Nat :=
  ((List.range 64).map fun k => s.cfg ((0x3610 + p) * 256 + k + 1)).find? fun r => ruleMatches r f

/-- The receive buffer of ETHp (R415). -/
def bufferSize (p : Nat) : Nat := if p < 2 then 524288 else 131072

/-- Space of queue `q` of ETHp (R424). -/
def State.queueSpace (p q : Nat) (s : State) : Nat := s.cfg ((0x3614 + p) * 256 + q + 1) * bufferSize p / 16

/-- Space a frame occupies. -/
def frameSpace (n : Nat) : Nat := (n + 63) / 64 * 64

/-- Space in use of a queue. -/
def State.queueUsed (p q : Nat) (s : State) : Nat := ((s.ethPort p).queues.getD q []).sum

/-! ### The rows of R418 -/

/-- The subindices of the counters of R418, in the order of 0x8002's counts. -/
def ethRows : List Nat := [3, 4, 5, 6, 7, 8, 9, 10]

/-- A frame fails a row: counter, and a record where the row is an error. -/
def State.ethDrop (p row : Nat) (s : State) : State :=
  let adds := ethRows.map fun r => b2n (r == row)
  let t := s.countEth p row
  if row = 6 ∨ row = 9 then t.noteSince p 0x8002 adds else t.recordRows p 0x8002 [.u8 p] adds

/-- The first failing row of 1 to 5, 0 where they pass; `intact` says that no symbol error occurred in the frame. -/
def State.ethRow (p : Nat) (f : List Byte) (intact : Bool) (s : State) : Nat :=
  let d := framePayload f
  firstCase [
    (decide (f.length < 64), 3),
    (decide (s.cfg (0x360201 + p) < f.length), 4),
    (!intact || !fcsGood f, 5),
    (!s.addressed p f, 6),
    (etherType f == 0x0800 && !ipHeaderOk d, 7),
    (etherType f == 0x0800 && !isFragment d && !transportOk (ipProto d) (ipSource d) (ipDest d) (ipData d), 8)]

/-- Is a frame a stop datagram (R425)? -/
def isStopTap (f : List Byte) : Bool :=
  let d := framePayload f
  etherType f == 0x0800 && !isFragment d && ipProto d == 17 && udpPort (ipData d) == 4354

/-! ### What the firmware does with a frame (R427 to R433) -/

/-- Learn a neighbour: at most 64 entries, the oldest giving way. -/
def learnArp (ip mac : List Byte) (tick : Nat) (l : List ArpEntry) : List ArpEntry :=
  let m := l.filter fun e => e.ip != ip
  (if 64 ≤ m.length then m.drop 1 else m) ++ [⟨ip, mac, tick⟩]

/-- A next hop answers: it is learnt, and the datagram held for it leaves. -/
def State.arpAnswered (p : Nat) (ip mac : List Byte) (s : State) : State :=
  let w := (s.ethPort p).waits.filter fun w => w.hop == ip
  let s := s.modEth p fun e => { e with arp := learnArp ip mac s.ticks e.arp, waits := e.waits.filter fun w => w.hop != ip }
  each w (fun w s => s.sendFrame p w.cls (s.sourceMac w.role p) mac 0x0800 w.pkt) s

/-- The MAC address that answers for one of the port's own addresses (R427). -/
def State.macFor (p : Nat) (ip : List Byte) (s : State) : List Byte :=
  if s.roleLive p && s.roleIp p == ip then s.roleMac p else Config.unitMac p

/-- An ARP frame (R427, R428, R429). -/
def State.arpReceived (p : Nat) (a : List Byte) (s : State) : State :=
  let mac := (a.drop 8).take 6
  let ip := (a.drop 14).take 4
  let target := (a.drop 24).take 4
  if s.ownIp p ip then
    if mac = Config.unitMac p ∨ (s.roleLive p = true ∧ s.roleIp p = ip ∧ mac = s.roleMac p) then s
    else (s.countEth p 0x11).record 0x8009 [.u8 p, .oct ip, .oct mac]
  else
    let s := if s.ownIp p target || ((s.ethPort p).waits.any fun w => w.hop == ip) then s.arpAnswered p ip mac else s
    if beField a 6 2 = 1 ∧ s.ownIp p target = true then
      s.sendFrame p 1 (s.macFor p target) mac 0x0806 (arpPacket 2 (s.macFor p target) target mac ip)
    else s

/-- An echo request to `own` is answered at most 10 times a second, from the address it was sent to (R430, R433). -/
def State.echoed (p : Nat) (own ip icmp : List Byte) (s : State) : State :=
  if s.cfg 0x360B00 = 1 ∧ beField icmp 0 1 = 8 ∧ icmp.length ≤ 1480 then
    let e := s.ethPort p
    let fresh := decide (500000000 ≤ s.ticks - e.icmpStart) || e.icmpCount == 0
    if fresh ∨ e.icmpCount < 10 then
      (s.modEth p fun e => { e with icmpStart := if fresh then s.ticks else e.icmpStart,
                                    icmpCount := if fresh then 1 else e.icmpCount + 1 }).sendIp 1
        (s.roleLive p && s.roleIp p == own) ip fun _ => ipv4Packet 1 own ip (echoReply icmp)
    else s
  else s

/-- A PTP message that has no row of its own: one that R443 discards, stamped where the host reads the port (R459). -/
def State.ptpOther (p : Nat) (m : List Byte) (s : State) : State :=
  let kind := beField m 0 1 % 16
  if kind ≤ 3 ∨ (8 ≤ kind ∧ kind ≤ 11) then s
  else if s.tsHost p then
    s.pushStamp p ⟨1, 2, kind, beField m 4 1, beField m 30 2, 0, beField m 28 2, beField m 20 8, s.rxStamp p s.now⟩
  else s.count 0x206005

/-- A datagram for the unit, sent to `own` (R433); DTLS records and PTP messages have rows of their own. -/
def State.datagram (p proto : Nat) (own src t : List Byte) (s : State) : State :=
  if proto = 1 then s.echoed p own src t
  else if proto = 17 then
    let port := udpPort t
    if port = 4350 ∨ port = 4354 then s
    else if port = 319 ∨ port = 320 then s.ptpOther p (udpPayload t)
    else s.countEth p 0x0F
  else s.countEth p 0x0F

/-! ### Reassembly (R421) -/

/-- The key of a fragment: source, identification, protocol. -/
def fragKey (d : List Byte) : List Byte := ipSource d ++ (d.drop 4).take 2 ++ [byte (ipProto d)]

/-- Add a fragment, by offset. -/
def insertPart (o : Nat) (b : List Byte) : List (Nat × List Byte) → List (Nat × List Byte)
  | [] => [(o, b)]
  | x :: l => if o < x.1 then (o, b) :: x :: l else x :: insertPart o b l

/-- The data of fragments that lie end to end from `o`; none at a gap. -/
def joinParts : Nat → List (Nat × List Byte) → Option (List Byte)
  | _, [] => some []
  | o, x :: l => if x.1 = o then (joinParts (o + x.2.length) l).map fun r => x.2 ++ r else none

/-- The whole data once it is there. -/
def Reassembly.whole (r : Reassembly) : Option (List Byte) :=
  match r.total, joinParts 0 r.parts with
  | some n, some b => if b.length = n then some b else none
  | _, _ => none

/-- Does a reassembly break a limit of R421, or go to UDP port 4354? -/
def Reassembly.bad (r : Reassembly) : Bool :=
  decide (4 < r.parts.length) || (r.parts.any fun x => decide (8980 < x.1 + x.2.length)) ||
    (r.parts.any fun x => x.1 == 0 && r.key.getLast? == some 17#8 && udpPort x.2 == 4354)

/-- A datagram in reassembly is discarded. -/
def State.fragDropped (p : Nat) (key : List Byte) (s : State) : State :=
  (s.modEth p fun e => { e with frags := e.frags.filter fun r => r.key != key }).countEth p 0x0B

/-- A fragment arrives. -/
def State.fragment (p : Nat) (d : List Byte) (s : State) : State :=
  let key := fragKey d
  let old := (s.ethPort p).frags.find? fun r => r.key == key
  let part := ipData d
  let r := old.getD ⟨key, s.ticks, [], none⟩
  let r := { r with parts := insertPart (fragOffset d) part r.parts,
                    total := if moreFragments d then r.total else some (fragOffset d + part.length) }
  if r.bad || (old.isNone && decide (8 ≤ (s.ethPort p).frags.length)) then s.fragDropped p key
  else
    match r.whole with
    | some b =>
      let s := s.modEth p fun e => { e with frags := e.frags.filter fun x => x.key != key }
      if transportOk (ipProto d) (ipSource d) (ipDest d) b then s.datagram p (ipProto d) (ipDest d) (ipSource d) b
      else s.ethDrop p 8
    | none => s.modEth p fun e => { e with frags := (e.frags.filter fun x => x.key != key) ++ [r] }

/-- The firmware's work on a queued frame. -/
def State.frameServed (p : Nat) (f : List Byte) (s : State) : State :=
  let d := framePayload f
  if etherType f = 0x0806 then s.arpReceived p d
  else if etherType f = 0x88F7 then s.ptpOther p d
  else if etherType f = 0x0800 then
    if isFragment d then s.fragment p d else s.datagram p (ipProto d) (ipDest d) (ipSource d) (ipData d)
  else s

/-- A frame that passed rows 1 to 6 meets its rule and its queue (R423, R424). -/
def State.frameQueued (p : Nat) (f : List Byte) (s : State) : State :=
  let rule := (s.decidingRule p f).getD 0
  if rule.testBit 38 then s.ethDrop p 9
  else
    let q := rule / 2 ^ 35 % 8
    let n := frameSpace f.length
    if s.queueUsed p q + n ≤ s.queueSpace p q then
      ((s.modEth p fun e => { e with queues := modAt e.queues q (· ++ [n]) }).countEth p 1).frameServed p f
    else (s.ethDrop p 0x0A).recordSince p 0x8003 1 [.u8 p, .u8 q]

/-- A frame ends at ETHp (R418, R425). The firmware has taken the frames `taken` names, the oldest of each queue. -/
def State.frameReceived (p : Nat) (f : List Byte) (intact : Bool) (taken : List Nat) (s : State) : State :=
  let s := each taken (fun q s => s.modEth p fun e => { e with queues := modAt e.queues q (List.drop 1) }) s
  if s.linkUp p then
    let row := s.ethRow p f intact
    if row ≠ 0 then s.ethDrop p row
    else if isStopTap f then (s.countEth p 1).stopCommand 0 none (udpPayload (ipData (framePayload f)))
    else s.frameQueued p f
  else s

/-! ### Links and ARP timers -/

/-- LINK_STATUS from what the PHY reports (R416): held down where it reports half duplex. -/
def linkStatus (rate : Nat) (full : Bool) : Nat := if rate = 0 then 0 else if full then rate + 16 else 32

/-- A link comes up or goes down (R416, R417); `cut`: it cut a frame short. -/
def State.linkMoves (p rate : Nat) (full cut : Bool) (s : State) : State :=
  let new := linkStatus rate full
  let old := (s.ethPort p).link
  if s.ethOperates p && new != old then
    let up := decide (new % 16 ≠ 0)
    let was := decide (old % 16 ≠ 0)
    let t := (s.modEth p fun e => { e with link := new }).record 0x8001 [.u8 p, .u8 new]
    when (was && !up && cut) (State.countEth p 0x0C) (when (was != up) (State.countEth p 0x10) t)
  else s

/-- A next gratuitous request of a newly live role identity (R427): 100 ms after the one before. -/
def State.garpAgain (s : State) : State :=
  if 0 < s.net.garp ∧ s.passed s.net.garpAt 50000000 = true then
    { s.gratuitous with net.garp := s.net.garp - 1, net.garpAt := s.ticks }
  else s

/-- Is a command an Ethernet frame at ETHp that passes its checks so far (R80)? -/
def ethArrival (p : Nat) (q : List Byte → Bool) (i : Instr) : Bool :=
  match i with
  | .ethFrameReceived x f intact _ => x.val == p && intact && fcsGood f && q f
  | _ => false

/-- Is a frame an ARP frame from an address? -/
def arpFrom (hop f : List Byte) : Bool := etherType f == 0x0806 && ((framePayload f).drop 14).take 4 == hop

/-- An unanswered request is repeated after 1 s, or its datagram dropped (R429, R79, R80). -/
def State.arpAgain (p : Nat) (hop : List Byte) (s : State) : State :=
  match (s.ethPort p).waits.find? fun w => w.hop == hop with
  | none => s
  | some w =>
    if !s.timedOut w.since (secTicks 1) (ethArrival p (arpFrom hop)) then s
    else if w.tries < 3 then
      (s.modEth p fun e =>
        { e with waits := e.waits.map fun x =>
            if x.hop == hop then { x with tries := x.tries + 1, since := s.ticks } else x }).arpRequest p hop
    else (s.modEth p fun e => { e with waits := e.waits.filter fun x => x.hop != hop }).unrouted p w.dst

/-- An entry of the ARP cache ends after 300 s (R428). -/
def State.arpExpires (p : Nat) (ip : List Byte) (s : State) : State :=
  s.modEth p fun e => { e with arp := e.arp.filter fun x => !(x.ip == ip && s.passed x.since (secTicks 300)) }

/-- Does a frame carry a fragment of a datagram in reassembly? -/
def fragmentOf (key f : List Byte) : Bool :=
  etherType f == 0x0800 && isFragment (framePayload f) && fragKey (framePayload f) == key

/-- The oldest datagram in reassembly at ETHp is late (R421, R79, R80). -/
def State.fragLate (p : Nat) (s : State) : State :=
  match (s.ethPort p).frags with
  | [] => s
  | r :: _ => if s.timedOut r.since 50000000 (ethArrival p (fragmentOf r.key)) then s.fragDropped p r.key else s

/-! ### CAN FD (R434 to R439) -/

/-- CAN port `c`. -/
def State.canPort (s : State) (c : Nat) : CanPort := s.net.can.getD c .init

/-- Change CAN port `c`. -/
def State.modCan (c : Nat) (f : CanPort → CanPort) (s : State) : State := { s with net.can := modAt s.net.can c f }

/-- Count under 0x3670 + c. -/
def State.countCan (c sub : Nat) (s : State) : State := s.count ((0x3670 + c) * 256 + sub)

/-- Does a mode let the ports operate? -/
def Mode.portsUp (m : Mode) : Bool :=
  match m with
  | .off => false | .backup => false | .boot => false | _ => true

/-- The CAN ports follow 0x3660 and the mode: on the bus while enabled, off otherwise (0x3665). -/
def State.canFollow (s : State) : State :=
  each (List.range 2) (fun c s =>
    let on := (s.cfg 0x366000).testBit c && s.power.mode.portsUp
    s.modCan c fun x => if on then (if x.state = 0 then { x with state := 1 } else x)
      else { x with state := 0, errors := 0, queue := [], rx := 0 }) s

/-- A frame to transmit (R436): sent at once on a bus, kept while the port is off it. -/
def State.canSend (c ident : Nat) (b : List Byte) (s : State) : State :=
  match (s.canPort c).state with
  | 0 => s
  | 3 =>
    if (s.canPort c).queue.length < 16 then s.modCan c fun x => { x with queue := x.queue ++ [(ident, b)] }
    else (s.countCan c 6).recordSince c 0x8007 1 [.u8 c]
  | _ => (s.emit (.can c ident b)).countCan c 2

/-- The port detects errors and its error counters move (R437). -/
def State.canErrors (c errors detected : Nat) (s : State) : State :=
  let x := s.canPort c
  let passive := decide (0x8000 ≤ errors % 65536) || decide (0x80 ≤ errors % 256)
  let t := (s.modCan c fun x =>
    { x with errors := errors % 65536, state := if x.state = 1 ∨ x.state = 2 then (if passive then 2 else 1) else x.state }).countN
      ((0x3670 + c) * 256 + 4) detected
  when (x.state == 1 && passive) (State.record 0x8006 [.u8 c, .u16 (errors % 65536)]) t

/-- The port enters bus-off (R437). -/
def State.canOff (c errors detected : Nat) (s : State) : State :=
  if (s.canPort c).state = 0 ∨ (s.canPort c).state = 3 then s
  else
    (((s.canErrors c errors detected).modCan c fun x => { x with state := 3 }).countCan c 5).recordSince c 0x8005 1 [.u8 c]

/-- Frames in ascending order of identifier (R436). -/
def insertIdent (x : Nat × List Byte) : List (Nat × List Byte) → List (Nat × List Byte)
  | [] => [x]
  | y :: l => if x.1 ≤ y.1 then x :: y :: l else y :: insertIdent x l

/-- The port rejoins the bus and sends what waits. -/
def State.canBack (c : Nat) (s : State) : State :=
  if (s.canPort c).state = 3 then
    let w := (s.canPort c).queue.foldr insertIdent []
    each w (fun x s => s.canSend c x.1 x.2) (s.modCan c fun x => { x with state := 1, errors := 0, queue := [] })
  else s

/-- Machines ASSOCIATED. -/
def State.associatedCount (s : State) : Nat := (s.machines.filter fun m => m.link == .associated).length

/-- STOP_STATUS (R412). -/
def State.stopStatus (s : State) : Nat :=
  s.stop.mask % 64 + 256 * b2n s.stop.latch + 512 * b2n s.stop.discrepancy + 1024 * b2n s.stop.outFault +
    2048 * b2n s.stop.release.isSome

/-- The 16 data octets of the status frame (R438). -/
def State.statusFrame (seq : Nat) (s : State) : List Byte :=
  [byte s.power.mode.code, byte s.time.state.code] ++ leBytes 2 s.stopStatus ++ leBytes 8 (FT.cycle s.now) ++
    [byte (b2n s.pair.output + 2 * b2n (s.inPair && s.pair.pos == 1)), byte s.associatedCount] ++ leBytes 2 seq

/-- The cyclic status frame (R438). -/
def State.canStatus (c : Nat) (s : State) : State :=
  if s.cfg (0x366401 + c) = 0 ∨ (s.canPort c).state = 0 then s
  else
    let x := s.canPort c
    (s.modCan c fun x => { x with seq := (x.seq + 1) % 65536 }).canSend c (0x180 + x.node) (s.statusFrame x.seq)

/-- A changed setting takes effect (R439). -/
def State.canSettings (c : Nat) (s : State) : State :=
  s.modCan c fun x => { x with node := s.cfg (0x366101 + c), nominal := s.cfg (0x366201 + c), data := s.cfg (0x366301 + c) }

/-! ### The commands -/

/-- ETH_FRAME_RECEIVED (R418). -/
def execEthFrameReceived (p : Fin 4) (f : List Byte) (intact : Bool) (taken : List (Fin 8)) (s : State) :
    Host.Outcome State Fault Refusal := .next (s.frameReceived p.val f intact (taken.map Fin.val))

/-- FRAGMENT_TIMEOUT (R421): the oldest datagram in reassembly at ETHp is late. -/
def execFragmentTimeout (p : Fin 4) (s : State) : Host.Outcome State Fault Refusal :=
  .next (s.fragLate p.val)

/-- LINK_CHANGED (R417). -/
def execLinkChanged (p : Fin 4) (rate : Fin 7) (full cut : Bool) (s : State) : Host.Outcome State Fault Refusal :=
  .next (s.linkMoves p.val rate.val full cut)

/-- GRATUITOUS_ARP (R427). -/
def execGratuitousArp (s : State) : Host.Outcome State Fault Refusal := .next s.garpAgain

/-- ARP_RETRY (R429). -/
def execArpRetry (p : Fin 4) (hop : List Byte) (s : State) : Host.Outcome State Fault Refusal := .next (s.arpAgain p.val hop)

/-- ARP_ENTRY_EXPIRED (R428). -/
def execArpEntryExpired (p : Fin 4) (ip : List Byte) (s : State) : Host.Outcome State Fault Refusal :=
  .next (s.arpExpires p.val ip)

/-- CAN_BUS_OFF (R437). -/
def execCanBusOff (c : Fin 2) (errors detected : Nat) (s : State) : Host.Outcome State Fault Refusal :=
  .next (s.canOff c.val errors detected)

/-- CAN_BUS_RECOVERED (R437). -/
def execCanBusRecovered (c : Fin 2) (s : State) : Host.Outcome State Fault Refusal := .next (s.canBack c.val)

/-- CAN_STATUS_FRAME (R438). -/
def execCanStatusFrame (c : Fin 2) (s : State) : Host.Outcome State Fault Refusal := .next (s.canStatus c.val)

/-- CAN_RECONFIGURE (R439). -/
def execCanReconfigure (c : Fin 2) (s : State) : Host.Outcome State Fault Refusal := .next (s.canSettings c.val)

end Sys2Proof.Machine
end

