-- ==== Sys2Proof/Machine/Recorder.lean ====
section
/-!
DEFINITION. The event recorder (chapter 19): the octets of a record, the flash areas, windows, streams, the scan at start.
-/

namespace Sys2Proof.Machine

/-! ### Octets (R601, R602) -/

/-- The octets of one element: tag and value (R602). -/
def elementBytes : Item → List Byte
  | .bool b => [0x01#8, byte (b2n b)]
  | .u8 n => 0x02#8 :: leBytes 1 n
  | .u16 n => 0x03#8 :: leBytes 2 n
  | .u32 n => 0x04#8 :: leBytes 4 n
  | .u64 n => 0x05#8 :: leBytes 8 n
  | .i32 z => 0x06#8 :: leBytes 4 (ofSigned 32 z)
  | .i64 z => 0x07#8 :: leBytes 8 (ofSigned 64 z)
  | .ft t => 0x08#8 :: FT.bytes t
  | .oct bs => [0x0A#8, byte bs.length] ++ bs

/-- One bit of CRC-16/CCITT-FALSE. -/
def crc16Bit (c : Nat) : Nat := if 0x8000 ≤ c then (c * 2 % 0x10000) ^^^ 0x1021 else c * 2

/-- One octet. -/
def crc16Byte (c : Nat) (b : Byte) : Nat :=
  crc16Bit (crc16Bit (crc16Bit (crc16Bit (crc16Bit (crc16Bit (crc16Bit (crc16Bit (c ^^^ (b.toNat * 256)))))))))

/-- CRC-16/CCITT-FALSE of octets (R601). -/
def crc16 (l : List Byte) : Nat := l.foldl crc16Byte 0xFFFF

/-- The octets of a record with a given CRC field. -/
def Rec.octets (crc : Nat) (r : Rec) : List Byte :=
  (leBytes 2 r.length ++ leBytes 2 r.code ++ [byte (r.sev + 8 * b2n r.moved + 16 * b2n r.free), byte r.era] ++
    leBytes 2 crc ++ leBytes 8 r.seq ++ FT.bytes r.time ++ r.items.flatMap elementBytes ++ zeros 8).take r.length

/-- The octets of a record (R601). -/
def Rec.encode (r : Rec) : List Byte := r.octets (crc16 (r.octets 0))

/-! ### The flash areas (R605 to R608) -/

/-- A sector of 64 KiB. -/
def sectorSize : Nat := 65536

/-- Octets of records of severity at most `s` in the general ring. -/
def reclaimable (s : Nat) (ring : List (Nat × List Rec)) : Nat :=
  recsLength ((ring.flatMap Prod.snd).filter fun r => decide (r.sev ≤ s))

/-- A record placed in the sector being written. -/
def putLast (x : Rec) : List (Nat × List Rec) → List (Nat × List Rec)
  | [] => [(x.length, [x])]
  | [c] => [(c.1 + x.length, c.2 ++ [x])]
  | c :: l => c :: putLast x l

/-- Octets used in the sector being written. -/
def usedLast (ring : List (Nat × List Rec)) : Nat := (ring.getLast?.map Prod.fst).getD sectorSize

/-- What the ring becomes when a record of severity `s` and length `n` needs room: the ring with room in its last sector,
the records discarded and the number copied forward (R606). One sector is kept erased ahead, so at most `sectors − 1` hold
records. The fuel bounds the sectors reclaimed. -/
def makeRoom (sectors s n : Nat) : Nat → List (Nat × List Rec) → List Rec → Nat → List (Nat × List Rec) × List Rec × Nat
  | 0, ring, gone, moved => (ring, gone, moved)
  | fuel + 1, ring, gone, moved =>
    if usedLast ring + n ≤ sectorSize then (ring, gone, moved)
    else if ring.length + 1 < sectors then (ring ++ [(0, [])], gone, moved)
    else
      match ring with
      | [] => (ring, gone, moved)
      | old :: rest =>
        let keep := (old.2.filter fun r => decide (s < r.sev)).map fun r => { r with moved := true }
        let lost := old.2.filter fun r => !decide (s < r.sev)
        makeRoom sectors s n fuel (rest ++ [(recsLength keep, keep)]) (gone ++ lost) (moved + keep.length)

/-- A record is written to the general ring (R606): the ring, records discarded, records copied, and was it dropped? -/
def ringWrite (sectors : Nat) (x : Rec) (ring : List (Nat × List Rec)) : List (Nat × List Rec) × List Rec × Nat × Bool :=
  if usedLast ring + x.length ≤ sectorSize then (putLast x ring, [], 0, false)
  else if ring.length + 1 < sectors ∨ x.length ≤ reclaimable x.sev ring then
    let r := makeRoom sectors x.sev x.length (sectors + 1) ring [] 0
    (putLast x r.1, r.2.1, r.2.2, false)
  else (ring, [], 0, true)

/-- A record is written to the SAFETY area: the oldest give way (R606). Answers the area and the records discarded. -/
def safetyWrite (x : Rec) (area : List Rec) : List Rec × List Rec :=
  let d := displace 7 (recsLength area + x.length - sectorSize) area
  (d.1 ++ [x], d.2.1)

/-- One staged record goes to its area. -/
def State.writeRecord (x : Rec) (s : State) : State :=
  if x.sev = 7 then
    let r := safetyWrite x s.rcd.safety
    ({ s with rcd.safety := r.1 }).countN 0x3E2002 r.2.length
  else
    let r := ringWrite s.rcd.sectors x s.rcd.ring
    if r.2.2.2 then ({ s with rcd := s.rcd.drop 1 x.sev }).count 0x3E2003
    else ((({ s with rcd.ring := r.1 }).countN 0x3E2002 r.2.1.length).countN 0x3E2006 r.2.2.1)

/-- Pad records fill the end of the page. -/
def padLast : List (Nat × List Rec) → List (Nat × List Rec)
  | [] => []
  | [c] => [(min sectorSize (c.1 + Config.padOctets c.1), c.2)]
  | c :: l => c :: padLast l

/-- Every staged record goes to its area, in SEQ order (R604). -/
def State.flush (s : State) : State :=
  if s.rcd.staged = [] then s
  else
    let t := each s.rcd.staged State.writeRecord { s with rcd.staged := [] }
    { t with rcd.ring := padLast t.rcd.ring }

/-- Is a flush due (R604): 256 octets staged, or 20 ms since the oldest of them was created? -/
def State.flushDue (s : State) : Bool :=
  decide (256 ≤ recsLength s.rcd.staged) || (s.rcd.staged.head?.any fun r => decide (r.made + 10000000 ≤ s.ticks))

/-- A page fails its verification (R608): its sector is retired, and its records are written again at the next position. -/
def State.retireSector (sector : Nat) (s : State) : State :=
  let recs := (s.rcd.ring.getLast?.map Prod.snd).getD []
  let t : State := { s with rcd.ring := s.rcd.ring.dropLast ++ [(0, [])], rcd.sectors := s.rcd.sectors - 1 }
  ((each recs State.writeRecord t).count 0x3E2007).record 0xF004
    [.u8 sector, .u8 (s.rcd.sectors - 1)]

/-! ### Summaries (R607, R611) -/

/-- The end of a second in which records were dropped. -/
def State.droppedSummary (s : State) : State :=
  if s.rcd.dropped = 0 then s
  else ({ s with rcd.dropped := 0, rcd.dropSev := 0 }).record 0xF001 [.u32 (min s.rcd.dropped 0xFFFFFFFF), .u8 s.rcd.dropSev]

/-- What 0xF002 reports of a code (R611): the records withheld in an interval that a new one has followed, else those of the
present interval once its 500,000,000 ticks are over; and the cell after. -/
def RateCell.report (tick : Nat) (c : RateCell) : Nat × RateCell :=
  if 0 < c.prev then (c.prev, { c with prev := 0 })
  else if 500000000 ≤ tick - c.start then (c.held, { c with held := 0 })
  else (0, c)

/-- The end of an interval of the default limit in which records of a code were withheld (R611). -/
def State.suppressedSummary (code : Nat) (s : State) : State :=
  let c := (SMap.getD RateCell.fresh (rateKey code 0) s.rcd.rates).report s.ticks
  if c.1 = 0 ∨ (Catalog.event code).limit ≠ .default then s
  else
    let rates := SMap.put (fun _ => RateCell.fresh) (rateKey code 0) c.2 s.rcd.rates
    ({ s with rcd.rates := rates }).record 0xF002 [.u16 code, .u32 (min c.1 0xFFFFFFFF)]

/-! ### Reading and streaming (R613 to R615) -/

/-- Insert a record by SEQ. -/
def insertSeq (x : Rec) : List Rec → List Rec
  | [] => [x]
  | y :: l => if x.seq < y.seq then x :: y :: l else y :: insertSeq x l

/-- Every record held, by SEQ. -/
def RecorderSt.held (r : RecorderSt) : List Rec :=
  (r.ring.flatMap Prod.snd ++ r.safety ++ r.staged).foldr insertSeq []

/-- As many whole records as fit. -/
def takeRecords : Nat → List Rec → List Rec
  | _, [] => []
  | room, r :: l => if r.length ≤ room then r :: takeRecords (room - r.length) l else []

/-- The window of 0x3E11 from a SEQ (R613). -/
def State.readWindow (s : State) : List Byte :=
  let from_ := s.cfg 0x3E1000
  let l := s.rcd.held.filter fun r => decide (from_ ≤ r.seq)
  let take := takeRecords 1008 l
  let next := (take.getLast?.map fun r => r.seq + 1).getD from_
  leBytes 2 take.length ++ [byte (2 * b2n (l.any fun r => decide (next ≤ r.seq)))] ++ zeros 5 ++ leBytes 8 next ++
    take.flatMap Rec.encode

/-- Is a datagram due (R615): 1,000 octets of records waiting, or 1 s since the oldest of them was created? -/
def RecorderSt.streamDue (tick : Nat) (r : RecorderSt) : Bool :=
  decide (1000 ≤ recsLength r.stream) || (r.stream.head?.any fun x => decide (x.made + 500000000 ≤ tick))

/-- One datagram of records to every sink in use (R615). -/
def State.streamRecords (s : State) : State :=
  let l := takeRecords 1256 s.rcd.stream
  if s.rcd.streamDue s.ticks = false ∨ s.streaming = false then s
  else
    let msg := leBytes 8 ((l.head?.map fun r => r.seq).getD 0) ++ leBytes 2 l.length ++
      [1#8, byte (s.pair.pos + 2 * b2n (s.pair.drive == .own))] ++ leBytes 4 (min s.rcd.skipped 0xFFFFFFFF) ++ l.flatMap Rec.encode
    let t : State := { s with rcd.stream := s.rcd.stream.drop l.length, rcd.skipped := 0 }
    (t.sendSinks 4355 0x3E3000 2 msg).countN 0x3E2008 (s.sinksInUse 0x3E3000 2)

/-! ### The scan at start (R612, R738) -/

/-- Staged records whose CRC fails are discarded and counted in 0x3E20.03 (R738). -/
def State.tornStaged (torn : List Nat) (s : State) : State :=
  let kept := s.rcd.staged.filter fun r => !torn.contains r.seq
  ({ s with rcd.staged := kept }).countN 0x3E2003 (s.rcd.staged.length - kept.length)

/-- Records in flash whose CRC fails are no records: the scan passes over them and no reader receives them (R612, R614).
Their octets stay used until their sector is erased. -/
def State.tornFlash (torn : List Nat) (s : State) : State :=
  let good := fun (l : List Rec) => l.filter fun r => !torn.contains r.seq
  { s with rcd.ring := s.rcd.ring.map fun c => (c.1, good c.2), rcd.safety := good s.rcd.safety }

/-- Step 5 of R670: surviving staged records are written, and the next SEQ is found. -/
def State.recorderScan (torn : List Nat) (s : State) : State :=
  let s := (s.tornStaged torn).flush.tornFlash torn
  let all := s.rcd.held
  let h := (all.getLast?.map fun r => r.seq).getD 0
  let n := s.rcd.nextSeq
  let s :=
    if !s.power.bkpValid then
      ({ s with rcd.nextSeq := h + 4096 }).record 0xF003 [.u64 (h + 1), .u64 (h + 4095), .u8 1]
    else if h + 1 < n then (s.countN 0x3E2005 (n - 1 - h)).record 0xF003 [.u64 (h + 1), .u64 (n - 1), .u8 0]
    else s
  s.record 0xF005 [.u64 h, .u32 all.length]

/-- RECORDER_FLUSH (R604, R608): `bad` names the sector whose page fails its verification. -/
def execRecorderFlush (bad : Option (Fin 63)) (s : State) : Host.Outcome State Fault Refusal :=
  .next (if s.flushDue then (match bad with
    | some k => s.flush.retireSector k.val
    | none => s.flush) else s)

/-- RECORDS_DROPPED (R607). -/
def execRecordsDropped (s : State) : Host.Outcome State Fault Refusal := .next s.droppedSummary

/-- RECORDS_SUPPRESSED (R611). -/
def execRecordsSuppressed (code : Nat) (s : State) : Host.Outcome State Fault Refusal := .next (s.suppressedSummary code)

/-- RECORD_STREAM_DATAGRAM (R615). -/
def execRecordStreamDatagram (s : State) : Host.Outcome State Fault Refusal := .next s.streamRecords

end Sys2Proof.Machine
end

