-- ==== Sys2Proof/Machine/MeterCore.lean ====
section
/-!
DEFINITION. Metering (chapter 16): tariff periods, credits, accounts, saves and their restoration, mains sense.
-/

namespace Sys2Proof.Machine

/-! ### Tariff periods (R509) -/

/-- The VALID entries of the schedule: second of day and period. -/
def State.tariffEntries (s : State) : List (Nat × Nat) :=
  ((List.range 8).map fun i => s.cfg (0x3A0501 + i)).filterMap fun e =>
    if e.testBit 31 then some (e % 2 ^ 17, e / 2 ^ 17 % 4) else none

/-- The entry with the latest second. -/
def latestEntry : List (Nat × Nat) → Option (Nat × Nat)
  | [] => none
  | e :: l => match latestEntry l with
    | none => some e
    | some f => if f.1 < e.1 then some e else some f

/-- The tariff period at second `d` of the local day. -/
def periodAt (l : List (Nat × Nat)) (d : Nat) : Nat :=
  match latestEntry (l.filter fun e => decide (e.1 ≤ d)) with
  | some e => e.2
  | none => ((latestEntry l).map Prod.snd).getD 0

/-- The local second of day at a Field Time. -/
def State.localSecond (t : FT) (s : State) : Nat :=
  (((t.sec : Int) - s.cfgI 0x204D00 + s.cfgI 0x3A0400) % 86400).toNat

/-- The tariff period at a Field Time. -/
def State.tariff (t : FT) (s : State) : Nat := periodAt s.tariffEntries (s.localSecond t)

/-- Does a schedule entry hold only what R509 allows: no reserved bit, SECOND at most 86,399? -/
def tariffEntryOk (e : Nat) : Bool := decide (e / 2 ^ 19 % 2 ^ 12 = 0) && decide (e % 2 ^ 17 ≤ 86399)

/-- Are the seconds of the VALID entries all different? -/
def tariffDistinct : List (Nat × Nat) → Bool
  | [] => true
  | e :: l => l.all (fun f => e.1 != f.1) && tariffDistinct l

/-! ### Channels and accounts -/

/-- Object `.sub` of tally channel `k`. -/
def tallyObj (k sub : Nat) : Nat := (0x3A10 + k) * 256 + sub

/-- Tally channel `k`. -/
def State.tally (s : State) (k : Nat) : Tally := SMap.getD .init k s.meter.tallies

/-- Change tally channel `k`. -/
def State.modTally (k : Nat) (f : Tally → Tally) (s : State) : State :=
  { s with meter.tallies := SMap.put (fun _ => .init) k (f (s.tally k)) s.meter.tallies }

/-- Account `a`. -/
def State.account (s : State) (a : Nat) : Account := SMap.getD .blank a s.meter.accounts

/-- Replace account `a`. -/
def State.setAccount (a : Nat) (x : Account) (s : State) : State :=
  { s with meter.accounts := SMap.put (fun _ => .blank) a x s.meter.accounts }

/-- Does an account take a pulse of channel `k` (R504)? -/
def Account.takes (k : Nat) (p : PendPulse) (x : Account) : Bool :=
  x.state == .open_ && x.channel == k && x.mask.testBit p.period && (x.machine == 0 || x.machine == p.holder)

/-- An account after one pulse (R504). -/
def Account.credit (num den : Nat) (x : Account) : Account :=
  let y := x.rem + num
  let a := x.acc + y / den
  { x with acc := a % 2 ^ 64, rem := y % den, pulses := (x.pulses + 1) % 2 ^ 64,
           wraps := if 2 ^ 64 ≤ a then (x.wraps + 1) % 2 ^ 32 else x.wraps }

/-- One account is credited; a pass through 2^64 is recorded. -/
def State.creditAccount (k a : Nat) (s : State) : State :=
  let x := s.account a
  let y := x.credit (s.cfg (tallyObj k 4)) (s.cfg (tallyObj k 5))
  when (y.wraps != x.wraps) (State.record 0xA007 [.u8 a, .u32 y.wraps]) (s.setAccount a y)

/-- A pulse is credited to every account that takes it (R504). -/
def State.creditPulse (k : Nat) (p : PendPulse) (s : State) : State :=
  each ((s.meter.accounts.filter fun e => e.2.takes k p).map Prod.fst) (State.creditAccount k) s

/-- Pending pulses older than CREEP_WINDOW leave the list and count as creep (R502). -/
def State.expirePulses (k : Nat) (s : State) : State :=
  let old := fun (p : PendPulse) => FT.lt (FT.addNs p.stamp (s.cfg (tallyObj k 7) * 1000000000)) s.now
  let n := ((s.tally k).waiting.filter old).length
  (s.modTally k fun c => { c with waiting := c.waiting.filter fun p => !old p }).countN (tallyObj k 0x0A) n

/-- Is a pulse stamped `t` too soon after the accepted pulse before it (R501)? A stamp that a backward set has moved before
that pulse's is not (R509). -/
def tooSoon (rate : Nat) (last : Option FT) (t : FT) : Bool :=
  match last with
  | none => false
  | some l => FT.le l t && decide ((FT.units t - FT.units l) * rate < 1000000000 * 4294967296)

/-- Accepted pulses stamped within [t − CREEP_WINDOW, t] (R502). -/
def countWithin (window : Nat) (t : FT) (l : List FT) : Nat :=
  (l.filter fun x => FT.le x t && FT.le t (FT.addNs x (window * 1000000000))).length

/-- An accepted pulse is a load pulse, credited with the pending ones, or becomes pending (R502, R503). A list that would
exceed CREEP_MIN − 1 gives its oldest pulse up to creep. -/
def State.tallyLoad (k : Nat) (s : State) : State :=
  let least := s.cfg (tallyObj k 6)
  let p : PendPulse := ⟨s.now, s.tariff s.now, s.cfg (tallyObj k 8)⟩
  let c := s.tally k
  if least ≤ countWithin (s.cfg (tallyObj k 7)) s.now c.recent then
    each (c.waiting ++ [p]) (State.creditPulse k) (s.modTally k fun c => { c with waiting := [] })
  else
    let l := c.waiting ++ [p]
    let n := l.length - (least - 1)
    (s.modTally k fun c => { c with waiting := l.drop n }).countN (tallyObj k 0x0A) n

/-- Does TALk count: enabled, in a mode in which it operates, and its ball not just taken from another function (R499, R717)? -/
def State.tallyCounts (k : Nat) (s : State) : Bool :=
  (s.cfg 0x3A0000).testBit k && s.power.mode.portsUp && !s.tallyTurning k (s.cfg (tallyObj k 1) * 500)

/-- A pulse qualifies on TALk (R499 to R504). -/
def State.pulse (k : Nat) (s : State) : State :=
  if s.tallyCounts k then
    if tooSoon (s.cfg (tallyObj k 3)) (s.tally k).last s.now then
      (s.count (tallyObj k 0x0B)).recordSince k 0xA001 1 [.u16 k]
    else
      let s := (s.expirePulses k).count (tallyObj k 9)
      (s.modTally k fun c =>
        { c with last := some s.now,
                 recent := s.now :: c.recent.filter fun x => FT.le s.now (FT.addNs x 3600000000000) }).tallyLoad k
  else s

/-! ### Saves (R510 to R513) -/

/-- Is a counter object one that a save holds? -/
def meterCounter (o : Nat) : Bool :=
  decide (0x3A10 ≤ o / 256) && decide (o / 256 ≤ 0x3A2F) && decide (9 ≤ o % 256) && decide (o % 256 ≤ 0x0B)

/-- The metering state as a save of a cause holds it (R511). -/
def State.saveCopy (seq mask : Nat) (s : State) : SaveCopy :=
  ⟨seq, mask, s.now, s.meter.accounts, (s.meter.tallies.map fun e => (e.1, e.2.waiting)).filter fun e => e.2 != [],
    s.counters.filter fun e => meterCounter e.1⟩

/-- A cause of a save: causes of one tick share a save, and a save in progress is abandoned for a later one (R510, R511). -/
def State.meterSave (mask : Nat) (s : State) : State :=
  match s.meter.saving with
  | none =>
    let x := s.saveCopy s.meter.next mask
    { s with meter.saving := some x, meter.started := s.ticks, meter.next := s.meter.next + 1 }
  | some c =>
    if s.meter.started = s.ticks ∧ c.cause = s.now then
      let x := s.saveCopy c.seq (c.mask ||| mask)
      { s with meter.saving := some x }
    else
      let x := s.saveCopy s.meter.next mask
      ({ s with meter.saving := some x, meter.started := s.ticks, meter.next := s.meter.next + 1 }).count 0x3A5007

/-- The save in progress is written and verified, or fails (R511, R512); after one of a mains loss every staged record is
written (R604). -/
def State.meterSaved (ok : Bool) (s : State) : State :=
  match s.meter.saving with
  | none => s
  | some c =>
    let s : State := { s with meter.saving := none }
    let s :=
      if ok then
        let t : State := { s with meter.copy := some c }
        when (c.mask.testBit 1) (State.count 0x3A5002) ((t.count 0x3A5001).setShown 0x3A0700 (.num (FT.toNum c.cause)))
      else (s.count 0x3A5003).record 0xA005 [.u8 c.mask, .u64 c.seq]
    when (c.mask.testBit 1) State.flush s

/-- The shutdown save (R510), complete before the reset it precedes. -/
def State.shutdownSave (ok : Bool) (s : State) : State := (s.meterSave 8).meterSaved ok

/-- Was the copy the last word before its cut: bit 1 or bit 3, and no bit but 1, 3 and 4 (R513)? -/
def finalMask (m : Nat) : Bool := (m.testBit 1 || m.testBit 3) && decide (m &&& 0b11010 = m)

/-- Restoration at reset (R513): counters, accounts and pending pulses of the newest good copy. -/
def State.meterRestore (s : State) : State :=
  let clean : MeterSt := { s.meter with tallies := [], accounts := [], mains := [.init, .init], saving := none }
  match s.meter.copy with
  | none => { s with meter := clean }
  | some c =>
    let tallies := c.waiting.foldl (fun m e => SMap.insert e.1 (⟨none, e.2.map PendPulse.stamp, e.2⟩ : Tally) m) []
    let counters := c.counts.foldl (fun m e => SMap.insert e.1 e.2 m) s.counters
    let t : State := { s with meter := { clean with accounts := c.accounts, tallies := tallies }, counters := counters }
    let t := t.setShown 0x3A0700 (.num (FT.toNum c.cause))
    if finalMask c.mask then t
    else (t.count 0x3A5005).record 0xA003 [.ft c.cause, .ft (FT.addNs c.cause (s.cfg 0x3A0100 * 1000000000 + 5000000))]

/-! ### Account edits (R505 to R508) -/

/-- STATE of an encoding. -/
def AccState.ofCode (n : Nat) : AccState :=
  match n with
  | 1 => .open_ | 2 => .closed | _ => .empty

/-- The configuration that 16 octets spell (R505); the reading is at zero. -/
def Account.decode (b : List Byte) : Account :=
  let w := field b 0 8
  { Account.blank with
    state := AccState.ofCode (w / 2 ^ 62), channel := w / 2 ^ 57 % 32, mask := w / 2 ^ 53 % 16, machine := w / 2 ^ 45 % 256,
    unit := w / 2 ^ 41 % 16, tag := w % 65536, opening := field b 8 8 }

/-- The 16 octets of a configuration entry (R505). -/
def Account.encode (x : Account) : List Byte :=
  leBytes 8 (x.state.code * 2 ^ 62 + x.channel * 2 ^ 57 + x.mask * 2 ^ 53 + x.machine * 2 ^ 45 + x.unit * 2 ^ 41 + x.tag) ++
    leBytes 8 x.opening

/-- The 32 octets of a reading at SEC `sec` (R506). -/
def Account.reading (sec : Nat) (x : Account) : List Byte :=
  leBytes 8 x.acc ++ leBytes 8 (x.wraps * 2 ^ 32 + x.rem) ++ leBytes 8 x.pulses ++ leBytes 8 sec

/-- The fields other than STATE, TAG and the reading. -/
def Account.fixed (x : Account) : List Nat := [x.channel, x.mask, x.machine, x.unit, x.opening]

/-- The rows of R507 for a write of `b` to account `a` by a role; 0 where it is done. -/
def State.accountCheck (a role : Nat) (b : List Byte) (s : State) : Nat :=
  let w := field b 0 8
  let old := s.account a
  let new := Account.decode b
  firstCase [
    (w / 65536 % 2 ^ 25 != 0 || w / 2 ^ 62 == 3 || new.mask == 0 || decide (128 < new.machine), 0x20),
    (decide (role < 2) || (old.state == .empty && new.state == .open_ && new.opening != 0 && role != 3) ||
      (old.state == .closed && new.state == .empty && role != 3), 0x30),
    ((old.state == .open_ && new.state != .empty && old.fixed != new.fixed) ||
      (old.state == .closed && new.state == .open_) || (old.state == .open_ && new.state == .empty) ||
      (old.state == .empty && new.state == .closed), 0x41)]

/-- A write of an account entry takes effect (R507). -/
def State.accountApply (a : Nat) (b : List Byte) (s : State) : State :=
  let old := s.account a
  let new := Account.decode b
  let kept : Account := { new with acc := old.acc, rem := old.rem, wraps := old.wraps, pulses := old.pulses }
  let x : Account :=
    if old.state = .empty ∧ new.state = .open_ then { new with acc := new.opening }
    else if new.state = .empty then new
    else kept
  let said := if new.state = .empty then old else x
  (when (old.state != new.state)
    (State.record 0xA006 [.u8 a, .u8 old.state.code, .u8 new.state.code, .oct (said.reading s.now.sec)])
    (s.setAccount a x)).meterSave 16

/-- A commit writes 0x4401 (R507, R570): the result code. -/
def State.accountCode (a role : Nat) (b : List Byte) (s : State) : Nat :=
  if b.length ≠ 16 then (if role < 2 then 0x30 else 0x21) else s.accountCheck a role b

/-- May a commit change the scale of channel `k` (R508)? -/
def State.scaleFree (k : Nat) (s : State) : Bool := s.meter.accounts.all fun e => !(e.2.state == .open_ && e.2.channel == k)

/-! ### Mains sense (R514, R515) -/

/-- Mains input `i`. -/
def State.mainsIn (s : State) (i : Nat) : Mains := s.meter.mains.getD i .init

/-- Change mains input `i`. -/
def State.modMains (i : Nat) (f : Mains → Mains) (s : State) : State :=
  { s with meter.mains := modAt s.meter.mains i f }

/-- MAINS_STATE (0x3A40). -/
def State.mainsState (i : Nat) (s : State) : Nat :=
  if (s.cfg 0x3A0200).testBit i then (if (s.mainsIn i).present then 1 else 2) else 0

/-- MAINS_PERIOD (0x3A41): twice the mean interval of the crossings kept, ns. -/
def Mains.period (x : Mains) : Nat :=
  match x.times, x.times.getLast? with
  | t :: _, some u => if x.times.length < 2 then 0 else 2 * (FT.units t - FT.units u) / (x.times.length - 1) / 4294967296
  | _, _ => 0

/-- The enabled inputs follow 0x3A02: one that is disabled starts again in LOST when it is enabled. -/
def State.mainsFollow (s : State) : State :=
  each (List.range 2) (fun i s => if (s.cfg 0x3A0200).testBit i then s else s.modMains i fun _ => .init) s

/-- A zero crossing (R514, R515). -/
def State.crossing (i : Nat) (s : State) : State :=
  if (s.cfg 0x3A0200).testBit i then
    let x := s.mainsIn i
    let near := match x.last with
      | some l => FT.le s.now (FT.addNs l (s.cfg 0x3A0300 * 1000000))
      | none => false
    let run := if near then x.run + 1 else 0
    let y : Mains := { x with run := run, last := some s.now, times := (s.now :: x.times).take 16 }
    if !x.present && decide (4 ≤ run) then
      let y : Mains := { y with present := true, saved := false }
      when x.saved (fun s => (s.meterSave 4).record 0xA004 [.u8 i, .u32 y.period]) (s.modMains i fun _ => y)
    else s.modMains i fun _ => y
  else s

/-- Does a command bring a zero crossing of input `i` (R80)? -/
def crosses (i : Nat) (c : Instr) : Bool :=
  match c with
  | .mainsZeroCrossing k => k.val == i
  | _ => false

/-- No crossing by the deadline, 0x3A03 after the last (R514): a PRESENT input becomes LOST. -/
def State.mainsGone (i : Nat) (s : State) : State :=
  let x := s.mainsIn i
  if (s.cfg 0x3A0200).testBit i && x.present && x.last.all (fun t => s.ripe t (s.cfg 0x3A0300 * 1000000)) &&
      !s.arriving (crosses i) then
    ((((s.modMains i fun x => { x with present := false, run := 0, saved := true }).meterSave 2).count 0x3A5004).record 0xA002
      [.u8 i, .ft (x.last.getD s.now)])
  else s

end Sys2Proof.Machine
end

