-- ==== Sys2Proof/Machine/Background.lean ====
section
/-!
DEFINITION. Background work (chapter 21): Rinse, calibration, wear management, telemetry.
-/

namespace Sys2Proof.Machine

/-! ### Rinse (R646 to R650) -/

/-- The pass through a memory. -/
def State.pass (ddr : Bool) (s : State) : RinsePass := if ddr then s.bg.ddr else s.bg.sram

/-- Replace the pass through a memory. -/
def State.setPass (ddr : Bool) (p : RinsePass) (s : State) : State :=
  if ddr then { s with bg.ddr := p } else { s with bg.sram := p }

/-- Bursts of a pass (R646). -/
def passBursts (ddr : Bool) : Nat := if ddr then Config.ddrBursts else 65536

/-- Is the next burst of a pass due? Rinse paces a pass evenly over its period (R646). -/
def State.burstDue (ddr : Bool) (s : State) : Bool :=
  let p := s.pass ddr
  s.passed p.tick (p.at_ * secTicks p.period / passBursts ddr)

/-- A pass that begins now, with the period committed (R646, R660). -/
def State.passBegins (ddr : Bool) (previous : List Nat) (s : State) : State :=
  s.setPass ddr { start := s.now, tick := s.ticks, at_ := 0, period := s.cfg (if ddr then 0x3F4100 else 0x3F4000), overdue := false,
                  corrected := [], previous := previous }

/-- Rinse corrects a word; `dropped`: a foreground write reached it before the write-back (R647, R648). -/
def State.rinseFix (ddr : Bool) (x : Nat × Bool) (s : State) : State :=
  let p := s.pass ddr
  let s := (s.setPass ddr { p with corrected := x.1 :: p.corrected }).corrected ddr
  let s := s.countN 0x3F5008 (b2n x.2)
  when (p.previous.contains x.1) (fun s => (s.count 0x3F5007).record 0xD002 [.i64 (b2n ddr), .u64 x.1]) s

/-- An item of metering or of the recorder's staging is discarded (R649). -/
def State.discardItem (kind item : Nat) (s : State) : State :=
  match kind with
  | 0 => s.setAccount (item % 256) .blank
  | 1 => { s with rcd.staged := s.rcd.staged.eraseIdx item }
  | _ => s.modTally (item % 32) fun c => { c with waiting := [] }

/-- The owner of the word answers an uncorrectable error (R649). -/
def State.ownerStruck (b : RinseBad) (s : State) : State :=
  match b.owner.val with
  | 0 => s.dataStruck b.kind.val b.item
  | 1 => s.controlStruck (if b.kind.val = 0 then 0 else 1) b.item b.addr
  | 2 => s.discardItem b.kind.val b.item
  | _ => s

/-- Rinse finds an uncorrectable error (R649). -/
def State.rinseBad (ddr : Bool) (b : RinseBad) (s : State) : State :=
  ((s.count (0x3F5005 + b2n ddr)).record 0xD001 [.i64 (b2n ddr), .u64 b.addr, .i64 b.owner.val]).ownerStruck b

/-- A burst of a pass; the last one ends the pass and the next begins (R646). A memory without power has no pass (R650). -/
def State.rinse (ddr : Bool) (fixes : List (Nat × Bool)) (bad : List RinseBad) (s : State) : State :=
  if s.domainOn (6 + b2n ddr) && s.burstDue ddr then
    let s := each bad (State.rinseBad ddr) (each fixes (State.rinseFix ddr) s)
    let p := s.pass ddr
    if p.at_ + 1 < passBursts ddr then s.setPass ddr { p with at_ := p.at_ + 1 }
    else ((s.passBegins ddr p.corrected).count (0x3F5001 + b2n ddr)).show (0x3F4201 + b2n ddr) (FT.toNum s.now)
  else s

/-- Is a command a burst of this pass? -/
def burstOf (ddr : Bool) (i : Instr) : Bool :=
  match i with
  | .rinseBurst d _ _ => d == ddr
  | _ => false

/-- A pass has not ended within 1.1 times its period (R650), counted in ticks. -/
def State.passOverdue (ddr : Bool) (s : State) : State :=
  let p := s.pass ddr
  if p.overdue || !s.domainOn (6 + b2n ddr) || !s.timedOut p.tick (secTicks (11 * p.period) / 10) (burstOf ddr) then s
  else ((s.setPass ddr { p with overdue := true }).count 0x3F500E).record 0xD003 [.i64 (b2n ddr), .ft p.start]

/-! ### Calibration (R651 to R653) -/

/-- The least squares fit of f = a + b·x + c·x² to points (x, f) (R652): b and c as numerators over one denominator, which is
zero where no fit is unique. -/
def quadraticFit (l : List (Int × Int)) : Int × Int × Int :=
  let s := fun k : Nat => (l.map fun p => p.1 ^ k).sum
  let m := fun k : Nat => (l.map fun p => p.1 ^ k * p.2).sum
  let det := fun a b c d e f g h i : Int => a * (e * i - f * h) - b * (d * i - f * g) + c * (d * h - e * g)
  (det (s 0) (m 0) (s 2) (s 1) (m 1) (s 3) (s 2) (m 2) (s 4), det (s 0) (s 1) (m 0) (s 1) (s 2) (m 1) (s 2) (s 3) (m 2),
    det (s 0) (s 1) (s 2) (s 1) (s 2) (s 3) (s 2) (s 3) (s 4))

/-- A quotient to the nearest whole number, halves up (DESIGN CHOICE, assumption 31); zero over zero. -/
def nearestOf (n d : Int) : Int := if d = 0 then 0 else (2 * n + d) / (2 * d)

/-- c₁ and c₂ in the units of 0x3F47 from the samples at a T_ref (R652): slopes of the frequency term, in 2^-32 ns per tick on
the nominal 2^33, by 0.1 °C and its square. -/
def oscFit (tref : Int) (l : List OscSample) : Int × Int :=
  let r := quadraticFit (l.map fun x => (x.temp - tref, x.freq))
  (nearestOf (r.1 * 10 ^ 13) (r.2.2 * 2 ^ 33), nearestOf (r.2.1 * 10 ^ 15) (r.2.2 * 2 ^ 33))

/-- Do the samples span at least 5.0 °C (R652)? -/
def oscWide (l : List OscSample) : Bool :=
  l.any fun x => l.any fun y => decide (x.temp + 50 ≤ y.temp)

/-- A sample of the oscillator model, with those of the 7 days before it (R652). -/
def State.oscSample (temp : Int) (s : State) : State :=
  let l := (⟨s.ticks, temp, s.time.freq⟩ : OscSample) :: s.bg.oscSamples.filter fun x => decide (s.ticks ≤ x.tick + secTicks 604800)
  { s with bg.oscSamples := l, bg.tempAnalog := temp }

/-- A good value of an activity takes effect: chain delays, GLONASS biases, ADC, timestamp paths, PPS_OUT path; or the fit of
the oscillator model to its samples, whose coefficients read zero until those span 5.0 °C (R652). -/
def State.calValue (a : Nat) (l : List Int) (s : State) : State :=
  let put : State := { s with bg.calValues := setAt s.bg.calValues a (l.headD 0) }
  match a with
  | 0 => { put with bg.chainTarget := (l ++ List.replicate 4 0).take 4 }
  | 1 => { put with bg.gloBias := (l ++ List.replicate 4 0).take 4 }
  | 5 =>
    let tref := Config.oscTref (s.bg.oscSamples.map fun x => x.temp)
    let c := if oscWide s.bg.oscSamples then oscFit tref s.bg.oscSamples else (0, 0)
    { put with bg.oscC1 := c.1, bg.oscC2 := c.2, bg.oscTref := tref }
  | _ => put

/-- Does an activity run now (R651)? The oscillator model only while the time state is one of the locked ones. -/
def State.calRuns (a : Nat) (s : State) : Bool := a != 5 || (s.time.state != .holdover && s.time.state != .free)

/-- A calibration run (R651, R653): its values (of the oscillator model the analog die temperature of its sample), or the value
rejected. -/
def State.calibrated (a : Nat) (l : List Int) (rejected : Option Int) (s : State) : State :=
  let s := (when (a == 5) (State.oscSample (l.headD 0)) s).count 0x3F5009
  match rejected with
  | none => { s.calValue a l with bg.calFails := setAt s.bg.calFails a 0, bg.calStale := setBit s.bg.calStale a false }
  | some v =>
    let n := s.bg.calFails.getD a 0 + 1
    ((({ s with bg.calFails := setAt s.bg.calFails a n, bg.calStale := setBit s.bg.calStale a (s.bg.calStale.testBit a || decide (3 ≤ n)) }).count 0x3F500A).record
      0xD004 [.i64 a, .i64 v])

/-- Δf of R652 at a temperature, as units of 2^-32 ns per tick on the nominal increment: c₁ in 0.001 ppb/°C, c₂ in
0.0001 ppb/°C², temperatures in 0.1 °C. -/
def oscDelta (c1 c2 dT : Int) : Int := Int.tdiv ((100 * c1 * dT + c2 * dT * dT) * 0x2_0000_0000) 1000000000000000

/-- One second in HOLDOVER (R652): Δf at the present temperature stands on the frozen frequency term, within R55; not
from D − 4 ms until D of a pulse (R173). -/
def State.oscApply (temp : Int) (s : State) : State :=
  let s : State := { s with bg.tempAnalog := temp }
  if s.time.state = .holdover ∧ s.incrementHeld = false then
    let t := s.time.nextTerms.getD (s.time.freq, s.time.phase)
    let frozen := t.1 - s.bg.oscApplied
    let f := clampFreq (frozen + oscDelta s.bg.oscC1 s.bg.oscC2 (temp - s.bg.oscTref))
    { s with time.nextTerms := some (f, t.2), bg.oscApplied := f - frozen }
  else s

/-! ### Wear (R654, R655) -/

/-- Is the sector, counted from offset 0x120_0000 of its bank, one whose erases are counted (R622, R654)? Settings areas in both
banks, the metering save area in bank 0, the event ring in bank 1. -/
def wearCounted (bank sector : Nat) : Bool :=
  decide (sector < 32) || (bank == 0 && decide (sector < 96)) || (bank == 1 && decide (96 ≤ sector))

/-- Is it a sector of the event ring or SAFETY area, which is not remapped? -/
def wearRing (bank sector : Nat) : Bool := bank == 1 && decide (96 ≤ sector)

/-- The flash sector that serves a sector now: itself, or its spare. -/
def State.flashSector (key : Nat) (s : State) : Nat :=
  match SMap.getD 0 key s.bg.remap with
  | 0 => key
  | n + 1 => 0x20000 + n

/-- The next spare replaces a sector (R654, R655). -/
def State.replaceSector (bank sector erases : Nat) (s : State) : State :=
  let spare := 64 - s.bg.spares
  let left := s.bg.spares - 1
  let t : State := { s with bg.remap := SMap.put (fun _ => 0) (bank * 0x10000 + sector) (spare + 1) s.bg.remap, bg.spares := left }
  when (decide (left ≤ 8)) (State.record 0xD006 [.u8 left])
    ((t.count 0x3F500C).record 0xD005 [.u8 bank, .u8 sector, .u32 erases, .u8 spare])

/-- An erase of a sector finishes, or fails (R654, R655). -/
def State.erased (bank sector : Nat) (ok : Bool) (s : State) : State :=
  let s := s.count 0x3F500B
  if wearCounted bank sector then
    let key := s.flashSector (bank * 0x10000 + sector)
    let n := SMap.getD 0 key s.bg.erases + 1
    let s : State := { s with bg.erases := SMap.put (fun _ => 0) key n s.bg.erases }
    if wearRing bank sector then s
    else if !ok || decide (s.cfg 0x3F4A00 ≤ n) then
      if s.bg.spares = 0 then
        (if ok then s else { s with bg.retired := (bank * 0x10000 + sector) :: s.bg.retired })
      else s.replaceSector bank sector n
    else s
  else s

/-! ### Telemetry (R657, R658) -/

/-- The sums 0x5001.01 … .0F. -/
def State.errorSums (s : State) : List U64 := (List.range 15).map fun k => s.counter (0x500101 + k)

/-- ERR_CHANGED (R658). -/
def errChanged (old new : List U64) : Nat :=
  ((List.range 15).map fun k => if old.getD k 0 = new.getD k 0 then 0 else 2 ^ (k + 1)).sum

/-- The frame of R658. -/
def State.telemetry (s : State) : List Byte :=
  leBytes 4 s.bg.telSeq ++
    [1#8, byte s.power.mode.code, byte s.time.state.code, byte (s.pair.state.code + 16 * b2n s.pair.apart)] ++
    FT.bytes ⟨s.now.sec, 0, 0⟩ ++ leBytes 2 s.stopStatus ++
    [byte s.associatedCount, byte (b2n s.pair.output + 2 * b2n (s.inPair && s.pair.pos == 1) +
      4 * b2n (s.bg.sram.overdue || s.bg.ddr.overdue) + 8 * b2n (s.bg.calStale != 0))] ++
    leBytes 2 (ofSigned 16 s.bg.tempLogic) ++ leBytes 2 (ofSigned 16 s.bg.tempAnalog) ++
    [byte ((s.gnss.chains.map Chain.ji).foldl max 0), byte s.gnss.used] ++ zeros 2 ++ leBytes 4 s.time.estimate ++
    leBytes 4 (errChanged s.bg.telSums s.errorSums) ++
    leBytes 4 (s.counter 0x3F5003 + s.counter 0x3F5004).toNat ++
    leBytes 8 (FT.cycle ⟨s.now.sec, 0, 0⟩) ++ leBytes 4 (s.rcd.nextSeq - 1) ++ zeros 4

/-- The frame of a whole second is composed, kept and sent (R657). -/
def State.telemetrySent (logic analog : Int) (s : State) : State :=
  let s : State := { s with bg.tempLogic := logic, bg.tempAnalog := analog }
  let f := s.telemetry
  let t : State := { s with bg.telLatest := f, bg.telSeq := (s.bg.telSeq + 1) % 2 ^ 32, bg.telSums := s.errorSums }
  (t.sendSinks 4356 0x3F6000 4 f).countN 0x3F500D (s.sinksInUse 0x3F6000 4)

/-! ### The commands -/

/-- RINSE_BURST (R646). -/
def execRinseBurst (ddr : Bool) (fixes : List (Nat × Bool)) (bad : List RinseBad) (s : State) :
    Host.Outcome State Fault Refusal := .next (s.rinse ddr fixes bad)

/-- RINSE_PASS_OVERDUE (R650). -/
def execRinsePassOverdue (ddr : Bool) (s : State) : Host.Outcome State Fault Refusal := .next (s.passOverdue ddr)

/-- CALIBRATION_RUN (R651). -/
def execCalibrationRun (a : Fin 6) (values : List Int) (rejected : Option Int) (s : State) :
    Host.Outcome State Fault Refusal := .next (if s.calRuns a.val then s.calibrated a.val values rejected else s)

/-- OSCILLATOR_MODEL_APPLY (R652). -/
def execOscillatorModelApply (temp : Int) (s : State) : Host.Outcome State Fault Refusal := .next (s.oscApply temp)

/-- FLASH_ERASE_COMPLETE (R654): the sector is counted from offset 0x120_0000 of its bank. -/
def execFlashEraseComplete (bank : Fin 2) (sector : Fin 160) (ok : Bool) (s : State) : Host.Outcome State Fault Refusal :=
  .next (s.erased bank.val sector.val ok)

/-- TELEMETRY_FRAME (R657), with the die temperatures it reports. -/
def execTelemetryFrame (logic analog : Int) (s : State) : Host.Outcome State Fault Refusal :=
  .next (s.telemetrySent logic analog)

end Sys2Proof.Machine
end

