-- ==== Sys2Proof/Machine/Integrity.lean ====
section
/-!
DEFINITION. Signal integrity checks, multipath, GNSS time validity, the release of base observables (R151 to R166).
-/

namespace Sys2Proof.Machine

/-- Is check Cn enabled (R153)? -/
def State.checkOn (n : Nat) (s : State) : Bool := (s.cfg 0x246000).testBit (n - 1)

/-- Squared distance between the committed antenna positions, in units of 0.1 mm. -/
def State.baseline2 (s : State) : Int :=
  let d := fun i => (s.shownVal (0x280200 + i)).int - (s.shownVal (0x280300 + i)).int
  d 1 ^ 2 + d 2 ^ 2 + d 3 ^ 2

/-- Has C5 its inputs: a chain of ANT_B in NORMAL (R153), both positions committed, the antennas at least 2 m apart (R155)? -/
def State.antennasCompare (s : State) : Bool :=
  ((s.chain 2).state == .normal || (s.chain 3).state == .normal) && s.shownNat 0x280700 % 4 == 3 &&
    decide (20000 ^ 2 ≤ s.baseline2)

/-! ### The GNSS time solution (R163, R164) -/

/-- The records of ANT_A that GNSS time may use, but for exclusion (R85, R106, R163): valid, not flagged, their satellite's
ephemeris known. -/
def State.timeRecs (s : State) : List (Nat × MeasRec) :=
  s.epochRecs.filter fun e => decide (e.2.chain < 2) && e.2.prValid && !e.2.notNormal && (s.ephemeris e.2.signal e.2.sv).used.isSome

/-- The signals of the solution (R158, R163): those of them that no check has excluded, with their channels. -/
def State.solObs (s : State) : List (Nat × SolOb) :=
  let l := s.timeRecs.filter fun e => !(s.sigOf e.1).excluded
  l.map fun e => (e.1, e.2.solOb l (s.sigOf e.1).multipath ((s.ephemeris e.2.signal e.2.sv).used.getD []))

/-- Satellites among signals. -/
def satellites (l : List (Nat × SolOb)) : Nat := (l.map fun e => svKey e.2.signal e.2.sv).eraseDups.length

/-- The reference constellation of an epoch (R164): the selected one while it has 2 satellites, else the next in the order GPS,
Galileo, BeiDou; where none has 2 the selected one (DESIGN CHOICE, assumption 27). -/
def refConstellation (sel : Nat) (l : List (Nat × SolOb)) : Nat :=
  ([sel, (sel + 1) % 3, (sel + 2) % 3].find? fun c =>
    decide (2 ≤ satellites (l.filter fun e => constellation e.2.signal == c))).getD sel

/-- The inputs of a solution from signals (R163). -/
def State.solIn (l : List (Nat × SolOb)) (s : State) : SolIn :=
  ⟨FT.ns (FT.cycleStart s.now), s.refPosition, refConstellation (s.cfg 0x246D00 % 3) l, l.map Prod.snd⟩

/-- Can the solution be formed (R155, R163): some signal with the position committed, 5 satellites without? -/
def State.solvable (l : List (Nat × SolOb)) (s : State) : Bool :=
  if s.refPosition.isSome then !l.isEmpty else decide (5 ≤ satellites l)

/-! ### The signal checks (R153, R157) -/

/-- Does a residual in mm exceed the limit of C1 in 0.1 PR_SD of 0.02 m? -/
def residualFails (limit : Nat) (x : SolIn) (o : SolOb) : Bool := decide (2 * limit * o.sd < (Config.solResidual x o).natAbs)

/-- The signal with the larger ratio of residual to PR_SD; of equal ones the first. -/
def worseOf (x : SolIn) (a : Option (Nat × SolOb)) (b : Nat × SolOb) : Option (Nat × SolOb) :=
  match a with
  | some a =>
    if (Config.solResidual x a.2).natAbs * b.2.sd < (Config.solResidual x b.2).natAbs * a.2.sd then some b else some a
  | none => some b

/-- The rounds of C1 (R157): the channels excluded, and the signals that remain. `n` bounds the rounds. -/
def State.residualRounds (s : State) : Nat → List (Nat × SolOb) → List Nat × List (Nat × SolOb)
  | 0, l => ([], l)
  | n + 1, l =>
    if l.length ≤ 5 then ([], l)
    else
      let x := s.solIn l
      match (l.filter fun e => residualFails (s.cfg 0x246100) x e.2).foldl (worseOf x) none with
      | none => ([], l)
      | some w =>
        let r := s.residualRounds n (l.filter fun e => e.1 != w.1)
        (w.1 :: r.1, r.2)

/-- The record of the same signal on the same channel one epoch before, where both carry code and phase without a slip between:
the inputs of C2 and C3. -/
def State.before (k : Nat) (m : MeasRec) (s : State) : Option MeasRec :=
  (s.gnss.prev.find? fun e => e.1 == k && e.2.w0 / 2 ^ 48 == m.w0 / 2 ^ 48 && e.2.prValid && e.2.cpValid && m.prValid &&
    m.cpValid && !m.slip).map Prod.snd

/-- C2 (R153): the change of pseudorange minus carrier range in 2^-20 m against a limit in 0.01 m. -/
def codeCarrierFails (limit : Nat) (a b : MeasRec) : Bool :=
  decide (limit * 1048576 < 100 * (b.codeMinusCarrier b.carrier - a.codeMinusCarrier b.carrier).natAbs)

/-- C3 (R153): the change of carrier phase in 2^-16 cycle against −Doppler × 0.1 s, limit in 0.1 cycle. -/
def dopplerFails (limit : Nat) (a b : MeasRec) : Bool :=
  decide (limit * 65536000 < (10000 * (b.phase - a.phase) + 65536 * b.doppler).natAbs)

/-- A cycle count in 2^-16 cycle without its whole cycles, in −½ to ½. -/
def wrapCycle (x : Int) : Int := (x + 32768) % 65536 - 32768

/-- A pair of channels that follow one signal on both antennas, with the difference predicted and the residual before the common
term is removed, both in 2^-16 cycle, and the satellite (C5). -/
structure AntPair where
  a    : Nat
  b    : Nat
  sat  : Nat
  pred : Int
  raw  : Int
  own  : Bool        -- no other check has excluded it
  held : Bool        -- C5 has
  deriving DecidableEq, Repr

/-- The pairs of a band whose carrier phases both chains in NORMAL give (R106, R153). -/
def State.antPairs (band : Nat) (s : State) : List AntPair :=
  let use := fun (c : Nat) => s.epochRecs.filter fun e => e.2.chain == c && e.2.cpValid && !e.2.notNormal
  (use band).flatMap fun x =>
    match ((use (band + 2)).find? fun y => y.2.w0 / 2 ^ 48 == x.2.w0 / 2 ^ 48), (s.ephemeris x.2.signal x.2.sv).used with
    | some y, some e =>
      let g := s.sigOf x.1
      let h := s.sigOf y.1
      let p := Config.antennaDiff e (FT.ns (FT.cycleStart s.now)) (s.antPosition 0) (s.antPosition 1) x.2.carrier
      [⟨x.1, y.1, svKey x.2.signal x.2.sv, p, x.2.phase - y.2.phase - p,
        (!g.excluded || g.check == 5) && (!h.excluded || h.check == 5), g.excluded || h.excluded⟩]
    | _, _ => []

/-- Satellites among pairs. -/
def pairSatellites (l : List AntPair) : Nat := (l.map fun x => x.sat).eraseDups.length

/-- The residuals of a band's pairs after the common term is removed, in fractions of a cycle: none with fewer than 4
satellites. The whole cycles of each pair are ambiguous and do not count (DEDUCED, assumption 27). -/
def antResiduals (l : List AntPair) : List (AntPair × Int) :=
  let use := l.filter fun x => x.own
  let base := use.filter fun x => !x.held
  if pairSatellites base < 4 then []
  else
    let c := Config.commonTerm (base.map fun x => x.raw)
    use.map fun x => (x, wrapCycle (x.raw - c))

/-- The pairs that the second test of C5 finds (R153): at least 4 satellites whose residuals lie within 0.05 cycle of one
another, predicted to spread over more than 0.5 cycle. -/
def commonArrival (l : List (AntPair × Int)) : Option (List (AntPair × Int)) :=
  (l.map fun a => l.filter fun b => decide (a.2 ≤ b.2) && decide (100 * (b.2 - a.2) ≤ 5 * 65536)).find? fun g =>
    decide (4 ≤ pairSatellites (g.map Prod.fst)) &&
      g.any fun a => g.any fun b => decide (65536 < 2 * (a.1.pred - b.1.pred))

/-! ### An epoch's checks -/

/-- What the checks of an epoch find before any exclusion of theirs: C1's rounds and the solution after them, whether there is
one, and C5's residuals by band. -/
structure EpochView where
  start  : List (Nat × SolOb)
  rounds : List Nat
  rest   : List (Nat × SolOb)
  formed : Bool
  ants   : List (List (AntPair × Int))
  deriving DecidableEq, Repr

/-- The view of the latest epoch. C1 runs with at least 5 signals; C5 as R153 and R155 say, and only with a solution. -/
def State.epochView (s : State) : EpochView :=
  let l := s.solObs
  let formed := s.solvable l
  let r := if s.checkOn 1 && formed then s.residualRounds l.length l else ([], l)
  { start := l, rounds := r.1, rest := r.2, formed := formed,
    ants := [0, 1].map fun b =>
      if s.checkOn 5 && formed && s.antennasCompare then antResiduals (s.antPairs b) else [] }

/-- The verdict of a signal check on a channel's record: none where it does not run, else whether it fails (R153). -/
def State.verdict (v : EpochView) (n k : Nat) (m : MeasRec) (s : State) : Option Bool :=
  match n with
  | 1 =>
    if !s.checkOn 1 || !v.formed || decide (v.start.length < 5) then none
    else if v.start.any fun e => e.1 == k then some (v.rounds.contains k)
    else if (s.timeRecs.any fun e => e.1 == k) && (s.sigOf k).check == 1 then
      some (residualFails (s.cfg 0x246100) (s.solIn v.rest)
        (m.solOb s.timeRecs (s.sigOf k).multipath ((s.ephemeris m.signal m.sv).used.getD [])))
    else none
  | 2 => if s.checkOn 2 then (s.before k m).map fun a => codeCarrierFails (s.cfg 0x246200) a m else none
  | 3 => if s.checkOn 3 then (s.before k m).map fun a => dopplerFails (s.cfg 0x246300) a m else none
  | _ =>
    (v.ants.flatten.find? fun x => x.1.a == k || x.1.b == k).map fun x =>
      decide (s.cfg 0x246500 * 65536 < 100 * x.2.natAbs)

/-- The signal checks that a channel's record fails, in order: an excluded signal enters only the one that excluded it (R158). -/
def State.sigFails (v : EpochView) (k : Nat) (m : MeasRec) (s : State) : List Nat :=
  let g := s.sigOf k
  [1, 2, 3, 5].filter fun n => (!g.excluded || g.check == n) && s.verdict v n k m == some true

/-- A signal is excluded by check `n` (R158), once. -/
def State.excludeSignal (k n : Nat) (s : State) : State :=
  if (s.sigOf k).excluded then s
  else
    (((s.modSig k fun g => { g with excluded := true, check := n, passes := 0, times := (s.ticks :: g.times).take 3 }).count
      0x248009).record 0x3020 [.u8 n, .u8 (s.chan k).signal, .u8 (s.chan k).sv, .u8 (s.chainOf k)])

/-- Three exclusions within 600 s: is the count of R159 held back for 600 s after the third? -/
def State.countHeld (g : Sig) (s : State) : Bool :=
  match g.times with
  | [a, _, c] => decide (a - c ≤ secTicks 600) && decide (s.ticks - a < secTicks 600)
  | _ => false

/-- An excluded signal at an epoch (R159): passed, its check having run, without a slip, it counts one more; else the count
begins anew, also where its check could not run (DEDUCED from "consecutive", assumption 27). -/
def State.passEpoch (k : Nat) (passed slip : Bool) (s : State) : State :=
  let g := s.sigOf k
  if !g.excluded then s
  else if !passed || slip || s.countHeld g then s.modSig k fun g => { g with passes := 0 }
  else if s.cfg 0x246A00 ≤ g.passes + 1 then
    ((s.modSig k fun g => { g with excluded := false, passes := 0 }).count 0x24800A).record 0x3021
      [.u8 (s.chan k).signal, .u8 (s.chan k).sv, .u8 (s.chainOf k)]
  else s.modSig k fun g => { g with passes := g.passes + 1 }

/-- One record's checks, with what they fail and whether its own check passes, both found before (R151, R158, R159). A failure
of C5 is counted once for the two antennas. -/
def State.checkSignal (k : Nat) (m : MeasRec) (l : List Nat) (own : Bool) (s : State) : State :=
  match l with
  | [] => s.passEpoch k own m.slip
  | n :: _ =>
    let s := each l (fun n s => when (n != 5 || decide (m.chain < 2)) (State.count (0x248000 + n)) s) s
    (s.modSig k fun g => { g with passes := 0 }).excludeSignal k n

/-- The signals of a constellation that a unit lost sight of begin their count anew (R159): excluded, and without a record. -/
def State.unseen (s : State) : State :=
  let seen := s.gnss.recorded.map fun k => (s.chan k).key (s.chainOf k)
  let l := SMap.mapVals (fun _ => Sig.init) (fun k g => if seen.contains k then g else { g with passes := 0 }) s.gnss.sigs
  { s with gnss.sigs := l }

/-! ### Chain-level failures (R160) -/

/-- C/N0 of the signals of a chain that C7 looks at. -/
def State.chainPowers (c : Nat) (s : State) : List Nat :=
  (s.gnss.chans.filter fun e => s.chainOf e.1 == c && (e.2.state == .locked || e.2.state == .track) &&
    !(s.sigOf e.1).excluded).map fun e => e.2.cn0

/-- C7 (R153): four signals above the limit, or eight within 2 dB of one another. -/
def powerFails (limit : Nat) (l : List Nat) : Bool :=
  decide (4 ≤ (l.filter fun x => decide (limit < x)).length) ||
    l.any fun a => decide (8 ≤ (l.filter fun x => decide (a ≤ x) && decide (x ≤ a + 200)).length)

/-- The checks that excluded signals of chain `c` in `t` which stood in `s`. -/
def newlyExcluded (c : Nat) (s t : State) : List Nat :=
  ((s.gnss.recorded.filter fun k => s.chainOf k == c && (t.sigOf k).excluded && !(s.sigOf k).excluded)).map fun k =>
    (t.sigOf k).check

/-- Signals of chain `c` in LOCKED. -/
def State.lockedCount (c : Nat) (s : State) : Nat :=
  (s.gnss.chans.filter fun e => s.chainOf e.1 == c && e.2.state == .locked).length

/-- Floor of the mean of integers. -/
def meanOf (l : List Int) : Int := l.sum / l.length

/-- The signals of a band in a solution. -/
def bandObs (upper : Bool) (l : List (Nat × SolOb)) : List (Nat × SolOb) :=
  l.filter fun e => (signalRow e.2.signal).any fun r => r.upper == upper

/-- The clock offsets of the two bands alone, each with 4 satellites (C4). -/
def State.bandClocks (l : List (Nat × SolOb)) (s : State) : Option (Int × Int) :=
  let a := bandObs false l
  let b := bandObs true l
  if 4 ≤ satellites a ∧ 4 ≤ satellites b then some (Config.solClock (s.solIn a), Config.solClock (s.solIn b)) else none

/-- The chain that C4 fails (R153): the difference of the offsets, each against its own mean over the last 3,600 s, beyond the
limit in ns; the ANT_A chain with the larger RMS. The means run over the epochs before this one. -/
def State.bandFails (l : List (Nat × SolOb)) (s : State) : Option Nat :=
  let h := s.gnss.bands.filter fun e => decide (s.ticks - e.1 ≤ secTicks 3600)
  match s.bandClocks l with
  | none => none
  | some c =>
    let d := (c.1 - meanOf (h.map fun e => e.2.1)) - (c.2 - meanOf (h.map fun e => e.2.2))
    if s.checkOn 4 = false ∨ h = [] ∨ (d.natAbs : Int) ≤ nsUnits (s.cfg 0x246400) then none
    else some (b2n (decide (Config.solRms (s.solIn (bandObs false l)) < Config.solRms (s.solIn (bandObs true l)))))

/-- The offsets of the bands enter their history of 3,600 s. -/
def State.noteBands (l : List (Nat × SolOb)) (s : State) : State :=
  match s.bandClocks l with
  | some c =>
    { s with gnss.bands := (s.ticks, c) :: s.gnss.bands.filter fun e => decide (s.ticks - e.1 ≤ secTicks 3600) }
  | none => s

/-- Does the change of GNSS time against Field Time since the epoch before differ from what the increment in force predicts, in
ns (C6)? The frequency term tracks REF10, so the phase term alone moves Field Time against the source (DEDUCED, assumption
27). None without both solutions. -/
def State.clockJumps (clock : Int) (s : State) : Option Bool :=
  s.gnss.clock.bind fun c =>
    if c.1 + 1 = s.gnss.epoch then
      some (decide (nsUnits (s.cfg 0x246600) < (clock - c.2.2 + s.time.phase * (s.ticks - c.2.1 : Nat)).natAbs))
    else none

/-- The run of C6 after an epoch; an epoch without the check's inputs is not a failed one. -/
def State.clockRunNext (v : EpochView) (s : State) : Nat :=
  if s.checkOn 6 && v.formed && s.clockJumps (Config.solClock (s.solIn v.rest)) == some true then s.gnss.clockRun + 1 else 0

/-- Has C6 failed at this epoch? -/
def State.clockFails (s : State) : Bool := s.checkOn 6 && decide (s.cfg 0x246700 ≤ s.gnss.clockRun)

/-- The chain-scope checks that fail for chain `c` (C4, C5's second test, C6, C7); C4 to C6 only with a solution (R155). -/
def State.chainScope (v : EpochView) (c : Nat) (s : State) : List Nat :=
  (if v.formed && s.bandFails v.rest == some c then [4] else []) ++
    (if (commonArrival (v.ants.getD (c % 2) [])).isSome then [5] else []) ++
    (if decide (c < 2) && s.clockFails then [6] else []) ++
    (if s.checkOn 7 && (s.chain c).state != .off && powerFails (s.cfg 0x246800) (s.chainPowers c) then [7] else [])

/-- A chain fails as a whole (R160): the trigger, the counts, one record. Which check that one record names where several fail
the chain the spec leaves open: here the first of C4 to C7, and a joint failure only where none of these failed (DESIGN
CHOICE, assumption 27); where signal checks together did it, a free value among them (assumption 5). -/
def State.chainFailed (c : Nat) (scope : List Nat) (joint : List Nat) (s : State) : State :=
  let n := scope.length + b2n (!joint.isEmpty)
  if n = 0 then s
  else
    let check := match scope with
      | k :: _ => k
      | [] => joint.getD (s.free % joint.length) 0
    let s := if scope.isEmpty then s.drawn else s
    ((s.countN 0x24800B n).record 0x3022 [.u8 c, .u8 check]).trigger c 1

/-- Signal checks that together fail a chain (R160): at least 3 signals and the share 0x2469 of those in LOCKED. -/
def State.jointFail (l : List Nat) (c : Nat) (s : State) : List Nat :=
  if 3 ≤ l.length ∧ s.cfg 0x246900 * s.lockedCount c ≤ 100 * l.length then l else []

/-! ### GNSS time (R163 to R166) -/

/-- The first failed condition of R165, from 1; 0 where all hold. -/
def State.timeCondition (sats rms : Nat) (s : State) : Nat :=
  firstCase [
    (decide (sats < 4), 1),
    (decide (s.cfg 0x246E00 < rms), 2),
    (s.clockFails, 3),
    ((s.chain 0).state != .normal && (s.chain 1).state != .normal, 4)]

/-- GNSS time of an epoch (R165, R166): `cond` 0 means valid. -/
def State.gnssTime (valid : Bool) (cond sats rms : Nat) (fallback : Bool) (s : State) : State :=
  let was := s.time.validGnss.isSome
  let status := s.shownNat 0x246F00 % 16 + 16 * b2n fallback
  let t : State := { s with time.validGnss := since valid s.ticks s.time.validGnss, gnss.used := sats }
  if was = valid then t.show 0x246F00 status
  else
    (t.show 0x246F00 (b2n valid + 2 * cond + 16 * b2n fallback)).record (if valid then 0x3024 else 0x3023)
      (if valid then [.u32 sats, .u16 rms] else [.u8 cond])

/-- The solution of the epoch, formed again without the signals just excluded, gives GNSS time and its offset (R60, R163). -/
def State.timeOfEpoch (s : State) : State :=
  let l := s.solObs
  if s.solvable l then
    let x := s.solIn l
    let t : State := { s with time.gnssDelta := Config.solClock x,
                              gnss.clock := some (s.gnss.epoch, s.ticks, Config.solClock x) }
    let cond := t.timeCondition (satellites l) (Config.solRms x)
    t.gnssTime (cond == 0) cond (satellites l) (Config.solRms x) (x.ref != s.cfg 0x246D00 % 3)
  else s.gnssTime false 1 0 0 false

/-! ### Release (R85, R86, R106, R151, R162, R546) -/

/-- The EXCLUDED and MULTIPATH bits of the epoch's records (R142). -/
def State.markRecords (s : State) : State :=
  { s with gnss.meas := s.gnss.meas.map fun e =>
      if s.gnss.recorded.contains e.1 then
        (e.1, { e.2 with w0 := setBit (setBit e.2.w0 36 (s.sigOf e.1).excluded) 34 (s.sigOf e.1).multipath })
      else e }

/-- The base observables of the epoch: the records of ANT_A (R85) that are neither flagged (R106) nor excluded (R158). -/
def State.baseRecs (s : State) : List MeasRec :=
  (s.cleanRecs 0).map fun e => e.2.based

/-- BASE_OBS (R536): the cycle and the records. -/
def State.sendBase (b : BaseEpoch) (s : State) : State := s.linkSend 4 (baseOctets b)

/-- The base observables of the epoch are released: while an ANT_A chain is NORMAL (R86). A unit that follows uses its
peer's (R546); the holder forwards its own. -/
def State.baseReleased (s : State) : State :=
  let s := s.markRecords
  let s := (s.show 0x247600 (s.epochRecs.filter fun e => e.2.excluded).length)
  let s : State := { s with gnss.released := true }
  if (s.chain 0).state = .normal ∨ (s.chain 1).state = .normal then
    let b : BaseEpoch := ⟨s.gnss.epoch, s.baseRecs⟩
    let s := if s.follows then s else { s with pipe.bases := (b :: s.pipe.bases).take 10 }
    (when s.holdsOwn (State.sendBase b) s).surveyEpoch b
  else s

/-- The checks of an epoch (R151): once, and by T + 3 ms. -/
def State.integrity (s : State) : State :=
  if s.gnss.released = true ∨ FT.lt (FT.addNs (FT.cycleStart s.now) 3000000) s.now = true then s
  else
    let v := s.epochView
    let t := each s.epochRecs (fun e t =>
      t.checkSignal e.1 e.2 (s.sigFails v e.1 e.2) (s.verdict v (s.sigOf e.1).check e.1 e.2 == some false)) s.unseen
    let t : State := { t with gnss.clockRun := s.clockRunNext v }
    let t := each [0, 1] (fun b t =>
      match commonArrival (v.ants.getD b []) with
      | some g => (t.count 0x248005).record 0x3026 [.u8 b, .u32 (pairSatellites (g.map Prod.fst))]
      | none => t) t
    let t := each (List.range 4) (fun c t =>
      let scope := t.chainScope v c
      let t := each (scope.filter (· != 5)) (fun n t => when (n != 6 || c == 0) (State.count (0x248000 + n)) t) t
      t.chainFailed c scope (t.jointFail (newlyExcluded c s t) c)) t
    ((t.noteBands v.rest).timeOfEpoch).baseReleased

/-- Does a command complete the checks of an epoch? -/
def bringsChecks (i : Instr) : Bool :=
  match i with
  | .integrityChecks => true
  | _ => false

/-- The checks are late (R152): the last completed exclusions stand, GNSS time of the epoch is invalid. -/
def State.checksMissed (s : State) : State :=
  if s.gnss.released = true ∨ s.ripe (FT.cycleStart s.now) 3000000 = false ∨ s.arriving bringsChecks = true then s
  else
    let s := (s.count 0x24800C).record 0x3025 [.ft (FT.cycleStart s.now)]
    (s.gnssTime false 0 0 0 false).baseReleased

/-! ### Multipath (R161) -/

/-- Does the mean asymmetry over the latest second exceed a limit in 0.01, or stay below it? -/
def asymmetryAgainst (limit : Nat) (l : List Taps) : Bool × Bool :=
  let q := fracSum (l.map asymmetry)
  (decide (limit * (q.2 * l.length) < 100 * q.1.natAbs), decide (100 * q.1.natAbs < limit * (q.2 * l.length)))

/-- The two metrics of the signal on a channel in a second. -/
def State.multipathOf (k : Nat) (s : State) : State :=
  let l := (s.chan k).hist
  if (s.chan k).state = .idle ∨ l = [] then s
  else
    let sd := Config.cmcDeviation (s.sigOf k).cmc
    let a := asymmetryAgainst (s.cfg 0x246C00) l
    if s.cfg 0x246B00 < sd ∨ a.1 = true then s.modSig k fun g => { g with multipath := true, clean := 0 }
    else if sd < s.cfg 0x246B00 ∧ a.2 = true then
      s.modSig k fun g => { g with clean := min 60 (g.clean + 1), multipath := g.multipath && decide (g.clean + 1 < 60) }
    else s.modSig k fun g => { g with clean := 0 }

/-- INTEGRITY_CHECKS (R151). -/
def execIntegrityChecks (s : State) : Host.Outcome State Fault Refusal := .next (s.inCorr State.integrity)

/-- CHECKS_LATE (R152). -/
def execChecksLate (s : State) : Host.Outcome State Fault Refusal := .next (s.inCorr State.checksMissed)

/-- MULTIPATH_EVAL (R161). -/
def execMultipathEval (s : State) : Host.Outcome State Fault Refusal :=
  .next (s.inCorr fun s => each s.gnss.chans.keys State.multipathOf s)

end Sys2Proof.Machine
end

