-- ==== Sys2Proof/Machine/CommitCore.lean ====
section
/-!
DEFINITION. The application of committed settings (R575, R578): the value, its way into the input log (R545) and what it
does at the commit instant in its home chapter.
-/

namespace Sys2Proof.Machine

/-- A chain is enabled (R90, R97, R107): START once its antenna is ready, EXCLUDED while its antenna is faulty. -/
def State.chainOn (c : Nat) (s : State) : State :=
  if !s.chainEnabled c || (s.chain c).state != .off then s
  else if s.antennaReady (c / 2) then s.startChain c
  else if antFaulty (s.antPort (c / 2)).status then s.excludeChain c 2
  else s

/-- The chains follow a change of 0x2400 (R90). -/
def State.chainsFollow (old : Nat) (s : State) : State :=
  each (List.range 4) (fun c s =>
    if old.testBit c && !(s.cfg 0x240000).testBit c then s.chainOff c else s.chainOn c) s

/-- The Ethernet ports that a new value of 0x3600 disables go down (R417). -/
def State.ethDisable (new : Nat) (s : State) : State :=
  each (List.range 4) (fun p s =>
    if (s.cfg 0x360000).testBit p && !new.testBit p then (s.linkMoves p 0 true false).modEth p fun _ => .init else s) s

/-- What a changed setting that is not pair-common does at its commit. -/
def State.settingHook (o : Nat) (old : Val) (s : State) : State :=
  let s := when (enabling o) State.claimBalls s
  if o = 0x240000 then s.chainsFollow old.int.toNat
  else if o / 256 = 0x2401 then s.supplyCommit (o % 256 - 1) old.int.toNat
  else if o = 0x366000 then s.canFollow
  else if o = 0x3A0200 then s.mainsFollow
  else if o = 0x3C0000 then s.refreshOutput
  else s

/-- One setting of a commit (R545, R575). -/
def State.putSetting (o : Nat) (v : List Byte) (s : State) : State :=
  let x := valueOf o v
  if pairCommon o then (s.commitCommon o x s.now).logWrite o 0 v
  else
    let t := when (o == 0x360000) (State.ethDisable x.int.toNat) s
    (t.setCfg o x).settingHook o (s.setting o)

/-- The TIO pins whose configuration differs between two states take it (R460, R464). -/
def State.tiosFollow (before : State) (s : State) : State :=
  each (List.range 16) (fun k s =>
    when ((List.range 7).any fun i => before.setting ((0x2080 + k) * 256 + i + 1) != s.setting ((0x2080 + k) * 256 + i + 1))
      (State.tioCommit k) s) s

/-- The settings of a commit, in staged order (R575); the commit takes a number of its own in the log. -/
def State.putSettings (l : List (Nat × List Byte)) (s : State) : State :=
  State.tiosFollow s (each l (fun e s => s.putSetting e.1 e.2) { s with pipe.commits := s.pipe.commits + 1 })

/-- The octets of a value as the object carries them on the wire. -/
def wire (o : Nat) (v : Val) : List Byte :=
  match Catalog.row? o with
  | some r => Ty.encode v r.ty
  | none => v.bytes

end Sys2Proof.Machine
end

