-- ==== Sys2Proof/Machine/UpdateCore.lean ====
section
/-!
DEFINITION. What field update shares with the start of the unit: rollback floors (R687), migration of the settings and
their return at a fallback (R639, R640).
-/

namespace Sys2Proof.Machine

/-! ### Rollback floors and the change record (R687, R689) -/

/-- The major part of a VERSION (R619). -/
def major (version : Nat) : Nat := version / 2 ^ 24

/-- An entry that no writer made: its ROLE, PORT and SESSION are free values (assumption 5). A full record takes none
(R689). -/
def State.ownEntry (param : Nat) (value : List Byte) (s : State) : State :=
  if s.recordFull then s
  else s.drawn.changeEntry param (s.free % 256) (s.free / 256 % 256) (s.free / 65536 % 256) value

/-- The floor of a KIND rises to the major version of an image (R687). -/
def State.raiseFloor (kind version : Nat) (s : State) : State :=
  let old := s.sec.floors.getD (kind - 1) 0
  let new := major version
  if old < new then
    ({ s.ownEntry (0x80 + kind) [byte new] with sec.floors := setAt s.sec.floors (kind - 1) new }).record 0xE004
      [.u8 kind, .u8 old, .u8 new]
  else s

/-! ### Images -/

/-- The image in the inactive bank. -/
def State.spareImage (s : State) : Option Image := s.upd.banks.getD (1 - s.upd.active) none

/-- Replace the image in the inactive bank. -/
def State.setSpare (i : Option Image) (s : State) : State := { s with upd.banks := setAt s.upd.banks (1 - s.upd.active) i }

/-- VERSION of an image, 0 where there is none (R642). -/
def versionOf (i : Option Image) : Nat := (i.map fun x => x.version).getD 0

/-- The image in the inactive bank is marked fallen back (R636). -/
def State.markFallen (s : State) : State := s.setSpare (s.spareImage.map fun i => { i with fallen := true })

/-! ### Settings at activation and fallback (R639, R640) -/

/-- The settings are copied into a fresh area for the new image (R639); the area of the old image is held, with the tables
as they stand. -/
def State.migrate (a : Nat) (s : State) : State :=
  let cur := s.areaAt s.upd.area
  let schema := (s.spareImage.map fun i => i.schema).getD 0
  let copy : SettingsArea :=
    { cur with schema := schema, version := versionOf s.spareImage, content := s.settings.filter fun e => savable e.1,
               used := 1 }
  let held : SettingsArea := { cur with content := copy.content, nodes := s.tracks.nodes, segs := s.tracks.segs }
  let areas := setAt (setAt s.upd.areas s.upd.area held) a copy
  (({ s with upd := { s.upd with areas := areas, area := a, oldArea := some s.upd.area } }).count 0x3F2008).record 0xC009
    [.u8 s.upd.area, .u8 a, .u16 cur.schema, .u16 schema]

/-- The value that an area holds for an object. -/
def SettingsArea.value (o : Nat) (a : SettingsArea) : Val := SMap.getD (Catalog.dflt o) o a.content

/-- The settings whose values differ from an area's, in ascending order. -/
def State.discards (a : SettingsArea) (s : State) : List Nat :=
  let all := a.content.foldl (fun m e => SMap.insert e.1 e.2 m) (s.settings.filter fun e => savable e.1)
  all.keys.filter fun o => s.setting o != a.value o

/-- The entries of a table that differ from those kept: numbers of both tables. -/
def tableDiff {α : Type} [DecidableEq α] (d : α) (kept now : SMap α) : List Nat :=
  (kept.foldl (fun m e => SMap.insert e.1 e.2 m) now).keys.filter fun i => SMap.getD d i kept != SMap.getD d i now

/-- The table writes that set nodes and segments back. -/
def State.tableReturn (a : SettingsArea) (s : State) : List (Nat × Nat × List Byte) :=
  ((tableDiff Node.blank a.nodes s.tracks.nodes).map fun i => (0x400100, i, Node.encode (SMap.getD .blank i a.nodes))) ++
    ((tableDiff Seg.blank a.segs s.tracks.segs).map fun i => (0x410100, i, Seg.encode (SMap.getD .blank i a.segs)))

/-- A list cut into pieces of `n`. -/
def pieces {α : Type} (n : Nat) : Nat → List α → List (List α)
  | 0, _ => []
  | _, [] => []
  | k + 1, l => l.take n :: pieces n k (l.drop n)

/-- The records 0xC00A (R640): at most 16, of up to 40 objects; the last carries the total count. -/
def State.discardRecords (area : Nat) (l : List Nat) (s : State) : State :=
  let p := pieces 40 16 l
  each (p.zip (List.range p.length)) (fun e s =>
    s.record 0xC00A ([.u8 area] ++ e.1.map Item.u32 ++ (if e.2 + 1 = p.length then [.u32 l.length] else []))) s

/-- The objects that a return to an area discards: settings, and the table windows whose entries change. -/
def State.discarded (a : SettingsArea) (s : State) : List Nat :=
  s.discards a ++ ((s.tableReturn a).map fun e => e.1).eraseDups

/-- The area held for fallback comes back into use; the fresh one is erased (R640). -/
def State.areaReturns (old : Nat) (s : State) : State :=
  { s with upd := { s.upd with areas := setAt s.upd.areas s.upd.area .erased, area := old, oldArea := none } }

/-- The count and the record of a fallback (R636). -/
def State.fallenBack (cause : Nat) (s : State) : State :=
  (s.count 0x3F2006).record 0xC008 [.u32 (versionOf s.spareImage), .u8 cause]

end Sys2Proof.Machine
end

