-- ==== Sys2Proof/Machine/ResetCore.lean ====
section
/-!
DEFINITION. Reset (R667 to R669) and the start steps of R670: what a reset clears and keeps, the choice of images (R684 to
R688), the Hamper copy (R630), and the restoring of settings, records and metering.
-/

namespace Sys2Proof.Machine

/-! ### Entering reset (R668) -/

/-- The firmware update across a reset (R622, R629, R636): what the flash holds stays; an open session ends; an image
under trial, or being taken into service, waits for the next start. -/
def UpdateSt.throughReset (u : UpdateSt) : UpdateSt :=
  let state := match u.state with
    | .receiving => UpdState.idle | .verifying => .idle | .applying => .idle | x => x
  { UpdateSt.init with
    state := state, hamper := if u.state = .staged then u.hamper else [], staged := u.staged, banks := u.banks,
    active := u.active, boot := u.boot, trim := u.trim, bootUse := u.bootUse, trimUse := u.trimUse, method := u.method,
    areas := u.areas, area := u.area, oldArea := u.oldArea }

/-- The recorder across a reset (R612, R738): staging survives while VDD_AON stays up. -/
def RecorderSt.throughReset (aonLost : Bool) (r : RecorderSt) : RecorderSt :=
  { RecorderSt.init with
    staged := if aonLost then [] else r.staged, ring := r.ring, safety := r.safety, nextSeq := r.nextSeq, era := r.era,
    sectors := r.sectors }

/-- The stop path across a reset (R385, R395): the latch is set with mask bit 5; inputs and key counters stay. -/
def StopSt.throughReset (now : FT) (tick hb : Nat) (p : StopSt) : StopSt :=
  { StopSt.init with
    inA := p.inA, inB := p.inB, key := p.key, counters := p.counters, stored := p.stored,
    since := if p.latch then p.since else now, setTick := if p.latch then p.setTick else tick,
    apart := if p.inA = p.inB then none else some hb }

/-- The RO values that survive a reset: the reference positions and which of them are committed (R188). -/
def keptShown (o : Nat) : Bool := o / 256 == 0x2802 || o / 256 == 0x2803

/-- Reset (R668): causes `bits` are set in 0x1102; everything but flash, PD_BKP, fuses, pin levels and, while VDD_AON
stays up, the recorder's staging restarts as `State.reset` says. -/
def State.enterReset (bits : Nat) (s : State) : State :=
  let p := s.power
  let power : PowerSt :=
    { PowerSt.init with
      cause := if p.inReset then p.cause ||| bits else bits, inReset := true, below := p.below, resetPin := p.resetPin,
      levels := p.levels, bkpTime := p.bkpTime, bootStart := s.ticks,
      left := if p.inReset then p.left else some (p.mode, !s.stop.latch) }
  let shown := s.shown.filter fun e => keptShown e.1
  let positions := s.shownNat 0x280700 % 4
  let t : State :=
    { State.reset with
      pending := s.pending, out := s.out, freeCount := s.freeCount, settings := s.settings, effective := s.settings,
      shown := shown, rcd := s.rcd.throughReset (bits.testBit 0), upd := s.upd.throughReset,
      time := { TimeSt.init with now := s.now, ticks := s.ticks, hb := s.time.hb },
      dict := { DictSt.init with changes := s.dict.changes, claims := [] },
      bg := { BackgroundSt.init with erases := s.bg.erases, remap := s.bg.remap, spares := s.bg.spares,
                                     retired := s.bg.retired },
      power := power,
      sec := { s.sec with nonce := none, debug := false, tamperHeld := s.sec.tamper, tamperStatus := 0 },
      stop := s.stop.throughReset s.now s.ticks s.time.hb,
      pair := { PairSt.init with pos := s.pair.pos, peer := s.pair.peer, compliance := s.pair.compliance, downAt := s.ticks },
      tracks := { TracksSt.init with nodes := s.tracks.nodes, segs := s.tracks.segs },
      tasks := { TasksSt.init with tasks := s.tasks.saved, saved := s.tasks.saved },
      meter := { s.meter with tallies := [], accounts := [], mains := [.init, .init], saving := none } }
  t.show 0x280700 positions

/-! ### Which images run (R684 to R688) -/

/-- Is a copy good: present, verified, and its version at the floor? -/
def State.copyGood (kind : Nat) (l : List (Option Image)) (bad : List Nat) (i : Nat) (s : State) : Bool :=
  match l.getD i none with
  | some x => bad.getD i 0 == 0 && decide (s.sec.floors.getD (kind - 1) 0 ≤ major x.version)
  | none => false

/-- The good copy with the higher VERSION (R685, R686); of two alike, copy 0. -/
def State.bestCopy (kind : Nat) (l : List (Option Image)) (bad : List Nat) (s : State) : Option Nat :=
  match s.copyGood kind l bad 0, s.copyGood kind l bad 1 with
  | true, true => some (if versionOf (l.getD 0 none) < versionOf (l.getD 1 none) then 1 else 0)
  | true, false => some 0
  | false, true => some 1
  | false, false => none

/-- Does the start find an image under trial, other than the one an activation by restart is just taking into service
(R636 cause 2)? -/
def State.trialCut (s : State) : Bool :=
  s.upd.state == .trial || (s.upd.state == .activating && (s.upd.method == 0 || !s.power.cause.testBit 4))

/-- The bank to start first (R633, R636). -/
def State.firstBank (s : State) : Nat := if s.trialCut then s.upd.active else s.servingBank

/-- The bank to start (R686): the first, or the other if that image fails and the other is good and not marked fallen
back. -/
def State.bankToRun (x : StartIn) (s : State) : Option Nat :=
  let good := fun i => s.upd.banks.getD i none != none && x.bank.getD i 0 == 0
  let other := 1 - s.firstBank
  if good s.firstBank then some s.firstBank
  else if good other && !s.trialCut && !((s.upd.banks.getD other none).any fun i => i.fallen) then some other
  else none

/-- The records 0xE001 of the copies that failed (R685). -/
def State.badCopies (kind : Nat) (bad : List Nat) (s : State) : State :=
  each [0, 1] (fun i s => when (bad.getD i 0 != 0) (State.record 0xE001 [.u8 kind, .u8 i, .u8 (bad.getD i 0)]) s) s

/-! ### The Hamper copy (R630, R688) -/

/-- Replace copy `i` of a KIND. -/
def State.setCopy (kind i : Nat) (v : Option Image) (s : State) : State :=
  if kind = 1 then { s with upd.boot := setAt s.upd.boot i v } else { s with upd.trim := setAt s.upd.trim i v }

/-- The copies of a KIND. -/
def State.copies (kind : Nat) (s : State) : List (Option Image) := if kind = 1 then s.upd.boot else s.upd.trim

/-- The older of the two copies; of two alike, the one not in service. -/
def State.olderCopy (kind : Nat) (s : State) : Nat :=
  let a := versionOf ((s.copies kind).getD 0 none)
  let b := versionOf ((s.copies kind).getD 1 none)
  if a < b then 0 else if b < a then 1 else 1 - (if kind = 1 then s.upd.bootUse else s.upd.trimUse)

/-- Slots below the one under which a new boot image verified are revoked when it first runs (R688). -/
def State.revokeRoots (slot : Nat) (s : State) : State :=
  let mask := s.sec.revoked ||| (2 ^ slot - 1)
  if mask = s.sec.revoked then s
  else ({ s.ownEntry 0x84 [byte mask] with sec.revoked := mask }).record 0xE005 [.u8 mask]

/-- A verified Hamper image is copied over the older copy of its KIND, and is in service from this start if it is the
higher version (R630, R685). -/
def State.hamperCopy (x : StartIn) (s : State) : State :=
  match s.upd.staged with
  | none => s
  | some i =>
    let c := s.olderCopy i.kind
    if x.copied then
      let t := s.setCopy i.kind c (some i)
      let runs := decide (versionOf ((s.copies i.kind).getD (1 - c) none) ≤ i.version)
      let t : State := { t with
        upd := { t.upd with staged := none, hamper := [], state := .idle, fresh := [i.kind],
                            bootUse := if i.kind = 1 ∧ runs = true then c else t.upd.bootUse,
                            trimUse := if i.kind = 2 ∧ runs = true then c else t.upd.trimUse },
        power.hamperCopied := true }
      let t := (t.count 0x3F2009).record 0xC00B [.u8 i.kind, .u32 i.version, .u8 c]
      when (i.kind == 1 && runs) (State.revokeRoots x.slot.val) t
    else (s.setCopy i.kind c none).record 0xC00C [.u8 i.kind, .u8 c]

/-! ### Settings (R596, R638, R640) -/

/-- The settings that no settings area holds: write-limited values and the secure store (R641, R691). -/
def outsideAreas (o : Nat) : Bool := [0x300200, 0x3C0100, 0x121100, 0x121200].contains o

/-- The settings of the area in use come back; all are in force. -/
def State.settingsReturn (s : State) : State :=
  let kept := s.settings.filter fun e => outsideAreas e.1
  let all := (s.areaAt s.upd.area).content.foldl (fun m e => SMap.insert e.1 e.2 m) kept
  { s with settings := all, effective := all }

/-- An image under trial when the unit was reset has fallen back (R636 cause 2): the old area and its tables. -/
def State.fallAtStart (s : State) : State :=
  let t : State := { s.markFallen with upd.state := .idle }
  match s.upd.oldArea with
  | none => t.settingsReturn
  | some a =>
    let area := s.areaAt a
    (({ t with tracks := { s.tracks with nodes := area.nodes, segs := area.segs } }).areaReturns a).settingsReturn

/-- The records of that fallback; `before` is the state it found. -/
def State.fallNoted (before s : State) : State :=
  let l := match before.upd.oldArea with
    | some a => before.discarded (before.areaAt a)
    | none => []
  (s.discardRecords before.upd.area l).fallenBack 2

/-- An activation by restart starts its image in TRIAL (R633). -/
def State.trialStarts (s : State) : State :=
  if s.upd.state = .activating then
    { s with upd := { s.upd with state := .trial, trialStart := s.ticks, done := [3, 2, 1, 0], confirmed := false,
                                 struck := false } }
  else s

/-- Pins and comparators are claimed in ascending index order (R74, R596), and the features stand as their settings say. -/
def State.featuresReturn (s : State) : State :=
  let s := each (List.range 16) (fun k s => when (s.tioCfg k 1 != 0) (State.tioCommit k) s) s.claimBalls
  let s := each (List.range 8) (fun n s => s.axisModeSet n 0 (s.axisCfg n 1)) s.airClaims
  let s := each (List.range 8) State.gateWatch s
  let s := each [0, 1] State.canSettings s
  let s := each [0, 1] (fun p s => when (s.antSupply p != 1) (State.supplyCommit p 1) s) s
  { s.mainsFollow with gnss.bankMap := s.cfg 0x243000,
                       bg.sram := { RinsePass.init (s.cfg 0x3F4000) with start := s.now, tick := s.ticks },
                       bg.ddr := { RinsePass.init (s.cfg 0x3F4100) with start := s.now, tick := s.ticks } }

/-! ### The records of the start -/

/-- The newest entry of a parameter, with its number. -/
def State.newestEntry (param : Nat) (s : State) : Option (Nat × ChangeEntry) :=
  (((List.range s.dict.changes.length).zip s.dict.changes).filter fun e => e.2.param == param).getLast?

/-- The stored value of a write-limited parameter as octets on the wire (R580); the coordinates of parameter 1 do not say
which value of 0x2804 stored them. -/
def State.limitedValue (param : Nat) (s : State) : Option (List Byte) :=
  match param with
  | 2 => some (wire 0x300200 (s.setting 0x300200))
  | 3 => some (wire 0x3C0100 (s.setting 0x3C0100))
  | 4 => if s.sec.owner = [] then none else some s.sec.owner
  | _ => none

/-- A change record entry whose value was not stored is reported (R580). -/
def State.changesChecked (s : State) : State :=
  each [2, 3, 4] (fun p s =>
    match s.newestEntry p, s.limitedValue p with
    | some e, some v => if (Config.sha384 v).take 8 = e.2.digest then s else s.record 0x1065 [.u16 e.1, .u8 p]
    | _, _ => s) s

/-- What the reset itself changed is recorded once the recorder runs (R387, R674). -/
def State.resetNoted (s : State) : State :=
  match s.power.left with
  | none => s
  | some m =>
    let t : State := { s with power.left := none }
    let t := when m.2 (State.record 0x7001 [.u8 0x20, .ft s.stop.since]) t
    if m.1 = .boot then t else (t.count 0x112001).record 0x1001 [.u8 m.1.code, .u8 2, .u8 3]

/-! ### The steps of R670 -/

/-- Steps 5 and 6: settings, claims, records, metering, chains and ports. `failed` is the bank whose image failed. -/
def State.bootLast (x : StartIn) (cut : Bool) (failed : Option Nat) (before : State) : State :=
  let s := if cut then before.fallAtStart else before.trialStarts.settingsReturn
  let s := ((s.featuresReturn.recorderScan x.torn).resetNoted.badCopies 1 x.boot).badCopies 2 x.trim
  let s := match failed with
    | some k => s.record 0xE001 [.u8 3, .u8 k, .u8 (x.bank.getD k 0)]
    | none => s
  let s := (when cut (State.fallNoted before) s).hamperCopy x
  let s := s.meterRestore.changesChecked
  let s : State := { s with power.domains := 0x3FF, power.bootStep := 6 }
  let s := each (List.range 4) State.chainOn s
  each (List.range 8) (fun n s => when (s.airEnabled.testBit n) (State.configPort n) s) s

/-- Steps 3 and 4: without a good boot copy, trim table or runtime image the unit stays at step 3 (R685, R686). An image
under trial that fails its verification has fallen back (R636). -/
def State.bootImages (x : StartIn) (s : State) : State :=
  match s.bestCopy 1 s.upd.boot x.boot, s.bestCopy 2 s.upd.trim x.trim, s.bankToRun x with
  | some b, some t, some r =>
    let failed := if r = s.firstBank then none else some s.firstBank
    let trial := s.upd.state == .trial || s.upd.state == .activating
    let cut := s.trialCut || (trial && failed.isSome)
    let active := if trial then s.upd.active else r
    ({ s with upd := { s.upd with bootUse := b, trimUse := t, active := active }, power.bootStep := 4 }).bootLast x cut failed
  | _, _, _ => { s with power := { s.power with bootStep := 3, bootTried := s.ticks } }

/-- Step 2: Field Time is loaded from the backup counter (R70), once REF10 is there (R672). -/
def State.bootTime (x : StartIn) (s : State) : State :=
  if x.ref10 then
    let t : FT := match x.backup with
      | some t => ⟨t.sec, t.nsec, 0⟩
      | none => ⟨0, 0, 0⟩
    (({ s with time.now := t, power.bkpTime := t, power.bootWait := s.ticks }).rearmSlotTick).bootImages x
  else { s with power.bootStep := 2 }

/-- RESET_RELEASE (R667, R670): a unit in BACKUP resets with cause power-on first. -/
def State.released_ (x : StartIn) (s : State) : State :=
  let s := if s.power.mode = .backup then s.enterReset 1 else s
  if s.power.mode = .boot ∧ s.power.bootStep = 1 then
    let counters := if x.backup.isSome then s.stop.counters else s.stop.stored
    let p : PowerSt := { s.power with inReset := false, below := 0, resetPin := false, bkpValid := x.backup.isSome,
                                      bootStart := s.ticks, domains := 0x3CF }
    ({ s with power := p, stop.counters := counters }).bootTime x
  else s

end Sys2Proof.Machine
end

