-- ==== Sys2Proof/Machine/PowerCore.lean ====
section
/-!
DEFINITION. Mode changes by request, reset and shutdown by command, and leaving BOOT (R671, R674 to R677).
-/

namespace Sys2Proof.Machine

/-! ### Requests (R675) -/

/-- Is a change to the target of a request a row of R674? 3 SURVEY, 4 service, 8 MAINTAIN, 9 TEST. -/
def Mode.leads (pair : Bool) (target : Nat) (m : Mode) : Bool :=
  match m, target with
  | .solo, 3 => !pair
  | .solo, 8 => true
  | .standby, 8 => true
  | .orphan, 8 => true
  | .survey, 4 => true
  | .survey, 8 => true
  | .maintain, 3 => true
  | .maintain, 4 => true
  | .maintain, 9 => true
  | .test, 8 => true
  | _, _ => false

/-- The last two rows of R675. -/
def State.modeBusy (s : State) : Nat :=
  firstCase [
    (s.axesBusy, 0x12),
    (s.power.pendingMode.isSome || s.pair.handover.isSome || s.pair.yield ||
      !(s.upd.state == .idle || s.upd.state == .staged || s.upd.state == .ready), 0x10),
    (true, 1)]

/-- The decision on a write to 0x1101 (R675). -/
def State.modeCheck (role : Nat) (v : List Byte) (s : State) : Nat :=
  firstCode [s.writeCheck role 0x110100 v,
    if leNat v = 9 ∧ role < 3 then 0x30
    else if s.power.mode.leads s.inPair (leNat v) then s.modeBusy else 0x11]

/-- The decision on a write to 0x1103 (R675, R677): 1 reset, 2 shut down. -/
def State.resetCheck (role : Nat) (v : List Byte) (s : State) : Nat :=
  firstCode [s.writeCheck role 0x110300 v,
    if leNat v = 2 then
      (if role < 3 then 0x30 else if s.power.mode = .safe ∨ s.power.mode = .off then 0x11 else s.modeBusy)
    else if s.power.mode = .solo ∨ s.power.mode = .active ∨ s.power.mode = .handover then 0x11 else s.modeBusy]

/-- A refusal of R675 is counted; one that R570 makes for its length or range is none of R675's. -/
def State.requestCounted (code : Nat) (s : State) : State :=
  when (decide (1 < code) && code != 0x20 && code != 0x21) (State.count 0x112002) s

/-- An accepted request waits for the next slot 0. -/
def State.modeAsked (v : List Byte) (s : State) : State := { s with power.pendingMode := some (leNat v) }

/-! ### The change (R109, R674, R676) -/

/-- A survey begins: earlier results and completion bits are gone (R183, R184). -/
def State.surveyBegins (s : State) : State :=
  let kept := s.shown.filter fun e => e.1 / 256 != 0x2808 && e.1 / 256 != 0x2809
  let positions := s.shownNat 0x280700 % 4
  let corr : CorrSt := { CorrSt.init with pending := s.corr.pending, cycles := s.corr.cycles, stream := s.corr.stream, station := s.corr.station }
  State.show 0x280700 positions { s with shown := kept, corr := corr }

/-- TEST is left: the chains settle and the debug port locks (R109, R698). -/
def State.testLeft (s : State) : State := { s.chainsFromTest with sec.debug := false }

/-- Service is entered: SOLO, or pair START, whose mode is BOOT (R674). -/
def State.toService (cause : Nat) (s : State) : State :=
  if s.inPair then
    let s := (s.enterMode .boot cause).enterPair .start
    ({ s with pair.hbOut := true }).pairEval
  else ({ s.enterMode .solo cause with pair.state := .solo }).drive .own

/-- A mode in which the fleet is stopped is entered (R676). -/
def State.toStopped (m : Mode) (cause : Nat) (s : State) : State :=
  let s := s.drive .free
  let s : State := { s with pair.hbOut := false, pair.state := if s.pair.state = .solo then PairState.start else s.pair.state }
  (s.enterMode m cause).setLatch 5

/-- The target of a request is entered. -/
def State.toTarget (target cause : Nat) (s : State) : State :=
  match target with
  | 3 => (s.toStopped .survey cause).surveyBegins
  | 4 => s.toService cause
  | 9 => (s.toStopped .test cause).chainsToTest
  | _ => s.toStopped .maintain cause

/-- Slot 0 (R676): an accepted change that is still a row of R674 takes effect. -/
def State.modeNow (s : State) : State :=
  match s.power.pendingMode with
  | none => s
  | some k =>
    let t : State := { s with power.pendingMode := none }
    if t.power.mode.leads t.inPair k then
      ((when (t.power.mode == .test) State.testLeft t).toTarget k 0).canFollow
    else t

/-! ### Leaving BOOT (R671) -/

/-- Does the unit leave BOOT at this slot 0 (R671): the time state has left FREE, or 0x1107 has passed? -/
def State.startDue (s : State) : Bool :=
  s.power.mode == .boot && s.power.bootStep == 6 &&
    (s.time.state != .free || s.passed s.power.bootWait (secTicks (s.cfg 0x110700)))

/-- The unit leaves BOOT: its time there, the record, the floors of fresh copies (R687), and the mode. -/
def State.unitStarts (s : State) : State :=
  if s.startDue then
    let ms := (s.ticks - s.power.bootStart) / 500000
    let s : State := { s with power.bootStep := 7, power.bootTime := ms }
    let s := s.record 0x1002 [.u16 s.power.cause, .u32 (min ms 0xFFFFFFFF), .bool s.power.hamperCopied]
    let s := each s.upd.fresh (fun k s =>
      s.raiseFloor k (versionOf ((s.copies k).getD (if k = 1 then s.upd.bootUse else s.upd.trimUse) none))) s
    let s : State := { s with upd.fresh := [] }
    ((if s.inPair then s.toService 3 else s.toTarget (s.cfg 0x110400) 3)).canFollow
  else s

/-! ### Reset and shutdown (R677) -/

/-- A commanded reset, with its shutdown save and flush. -/
def State.resetBy (saved : Bool) (s : State) : State := ((s.shutdownSave saved).count 0x112004).flush.enterReset 8

/-- Shutting down: save, flush, pins and domains of OFF. -/
def State.shutDown (saved : Bool) (s : State) : State :=
  let s := ((s.shutdownSave saved).count 0x112004).flush
  let s := each (List.range 4) State.chainOff (s.toStopped .off 0)
  let s : State := { s with power.domains := 0x103, sec.debug := false }
  s.canFollow

/-- A write to 0x1103 acts. -/
def State.resetAct (v : List Byte) (saved : Bool) (s : State) : State :=
  if leNat v = 2 then s.shutDown saved else s.resetBy saved

end Sys2Proof.Machine
end

