-- ==== Sys2Proof/Machine/SecurityCore.lean ====
section
/-!
DEFINITION. The owner credential, owner recovery, the tamper input, authenticated debug and the stop key slots (R684,
R691 to R698).
-/

namespace Sys2Proof.Machine

/-! ### Credentials (R692 to R694) -/

/-- A DER certificate without the zeros that pad it: its length stands in the first four octets. -/
def certOctets (c : List Byte) : List Byte :=
  if c.take 2 = [0x30#8, 0x82#8] then c.take (4 + beNat ((c.drop 2).take 2)) else c

/-- The fingerprint of a certificate (R692, R700): the first 8 octets of its SHA-384. -/
def fingerprint (c : List Byte) : Nat := leNat ((Config.sha384 (certOctets c)).take 8)

/-- Is a certificate on the deny list (0x1211)? -/
def State.denied (c : List Byte) (s : State) : Bool :=
  let l := s.cfgOct 0x121100
  (List.range (field l 0 2)).any fun i => field l (2 + 8 * i) 8 == fingerprint c

/-- The decision on a write to 0x1210 (R581, R693); `verified` is the verdict on the change record entry (R580). -/
def State.ownerCheck (role : Nat) (v : List Byte) (verified : Bool) (s : State) : Nat :=
  firstCode [s.writeCheck role 0x121000 v, firstCase [(s.limitSpent 4, 0x31), (!verified, 0x60)]]

/-- The owner credential is replaced (R693, R694); every session but the writer's ends. -/
def State.ownerApply (w : Writer) (v : List Byte) (s : State) : State :=
  let t : State := { s.spend 4 (s.roleOf w) w.port.val w.session v true with sec.owner := v }
  let t := when (s.sec.owner == []) (State.record 0xE008 [.u64 (fingerprint v)]) t
  t.endSessions true fun x => x.num != w.session

/-! ### Owner recovery (R695) -/

/-- The decision on a write to 0x1238. -/
def State.ownerBackCheck (role : Nat) (v : List Byte) (s : State) : Nat :=
  firstCode [s.writeCheck role 0x123800 v,
    firstCase [(!(s.sec.tamperHeld && s.stop.key && s.power.mode == .maintain), 0x11), (s.recordFull, 0x31)]]

/-- The owner credential, the deny list, the owner lock and the stop key slots are emptied; every session ends. -/
def State.ownerBack (w : Writer) (v : List Byte) (s : State) : State :=
  let n := s.dict.changes.length
  let t := s.changeEntry 0x86 (s.roleOf w) w.port.val w.session v
  let t : State := { t with sec.owner := [], sec.stopKeys := List.replicate 4 [] }
  let t := (t.setCfg 0x121100 (Catalog.dflt 0x121100)).setCfg 0x121200 (Catalog.dflt 0x121200)
  (t.record 0xE007 [.u16 n]).endSessions true fun _ => true

/-! ### The tamper input (R697) -/

/-- TAMPER_L is asserted or released; `inBackup` says that it happened in BACKUP and is reported at this start. -/
def State.tamperMoves (asserted inBackup : Bool) (s : State) : State :=
  let sec : SecuritySt := { s.sec with
    tamper := asserted, tamperHeld := if inBackup then asserted else s.sec.tamperHeld && asserted,
    tamperStatus := s.sec.tamperStatus ||| (2 + 4 * b2n inBackup) }
  (({ s with sec := sec }).count 0x125002).record 0xE003 [.u8 (b2n !asserted), .bool inBackup]

/-! ### Authenticated debug (R698) -/

/-- The 48 octets of 0x1230 for the n-th nonce. -/
def challenge (n : Nat) : List Byte := Config.nonce n ++ leBytes 8 Config.serial ++ zeros 8

/-- Does a signature over a challenge verify under a root key that is not revoked (R684)? -/
def State.debugSigned (n : Nat) (v : List Byte) (s : State) : Bool :=
  (List.range 4).any fun k => !s.sec.revoked.testBit k && Config.rootVerify k (Config.sha384 (challenge n)) v

/-- The decision on a write to 0x1231 once R570 has passed. -/
def State.debugRule (v : List Byte) (s : State) : Nat :=
  firstCase [
    ((s.cfg 0x121200).testBit 1, 0x14),
    (s.power.mode != .test, 0x11),
    ((List.range s.sec.nonces).any fun n => s.sec.nonce != some n && s.debugSigned n v, 0x40),
    (!(s.sec.nonce.any fun n => s.debugSigned n v), 0x20),
    (s.recordFull, 0x31)]

/-- The decision on a write to 0x1231. -/
def State.debugCheck (role : Nat) (v : List Byte) (s : State) : Nat :=
  firstCode [s.writeCheck role 0x123100 v, s.debugRule v]

/-- A write that passes R570 uses up the nonce, whatever its result (R698). -/
def State.nonceUsed (role : Nat) (v : List Byte) (s : State) : State :=
  if s.writeCheck role 0x123100 v = 0 then { s with sec.nonce := none } else s

/-- The debug port unlocks. -/
def State.debugApply (w : Writer) (v : List Byte) (s : State) : State :=
  let n := s.dict.changes.length
  let t := s.changeEntry 0x85 (s.roleOf w) w.port.val w.session v
  ({ t with sec.debug := true, sec.nonce := none }).record 0xE006 [.u16 n]

/-! ### Stop key slots (R413) -/

/-- A stop key slot takes a key; 16 octets of zero empty it. -/
def State.stopKeySet (slot : Nat) (v : List Byte) (s : State) : State :=
  { s with sec.stopKeys := setAt s.sec.stopKeys slot (if v = zeros 16 then [] else v) }

end Sys2Proof.Machine
end

