-- ==== Sys2Proof/Machine/UpdateSession.lean ====
section
/-!
DEFINITION. Field update: the session (R623 to R629), verification and application of images, activation, health and
fallback (R631 to R640).
-/

namespace Sys2Proof.Machine

/-! ### The session (R623 to R626) -/

/-- The recommended ranges of R722 in the order of 0x1110, mV. -/
def supplyRanges : List (Nat × Nat) :=
  [(728, 772), (776, 824), (873, 927), (1060, 1170), (580, 650), (1710, 1890), (3135, 3465), (1710, 1890), (2500, 3600)]

/-- The supply case of R624: an enabled mains input LOST, or a supply outside its recommended range. -/
def State.supplyBad (s : State) : Bool :=
  s.mainsState 0 == 2 || s.mainsState 1 == 2 ||
    (s.power.levels.zip supplyRanges).any fun e => decide (e.1 < e.2.1) || decide (e.2.2 < e.1)

/-- The longest resulting image of a KIND (R619). -/
def imageLimit (kind : Nat) : Nat :=
  match kind with
  | 1 => 1048576 | 2 => 262144 | 3 => 16777216 | _ => 0

/-- The decision on a write to 0x3F00 (R624). -/
def State.openCheck (role : Nat) (v : List Byte) (s : State) : Nat :=
  let kind := field v 0 1
  let total := field v 4 4
  firstCode [s.admits role 0x3F0000, if v.length = 8 then 0 else 0x21,
    firstCase [
      ((kind == 1 || kind == 2) && decide (role < 3), 0x30),
      ((s.cfg 0x121200).testBit 0, 0x14),
      (s.upd.state != .idle, 0x10),
      (decide (kind < 1) || decide (3 < kind) || field v 1 3 != 0 || decide (total < 257) ||
        decide (256 + imageLimit kind < total), 0x20),
      (s.supplyBad, 0x13),
      (true, 1)]]

/-- A refusal of R624 is counted and recorded. -/
def State.openRefused (port sess code : Nat) (s : State) : State :=
  when (decide (1 < code) && code != 0x21) (fun s => (s.count 0x3F2002).record 0xC002 [.u8 port, .u8 sess, .u8 code]) s

/-- A session opens. -/
def State.openSession (port sess : Nat) (v : List Byte) (s : State) : State :=
  (({ s with upd := { s.upd with state := .receiving, holder := some (port, sess), kind := field v 0 1,
                                 total := field v 4 4, hamper := [], staged := none, pieceAt := s.ticks } }).count 0x3F2001).record 0xC001
    [.u8 port, .u8 sess, .u8 (field v 0 1), .u32 (field v 4 4)]

/-- The decision on a piece (R625). -/
def State.pieceCheck (role port sess : Nat) (v : List Byte) (s : State) : Nat :=
  let at_ := field v 0 4
  let have_ := s.upd.hamper.length
  firstCode [s.writeCheck role 0x3F0100 v,
    firstCase [
      (field v 4 4 != 0, 0x20),
      (!s.holdsLock port sess, 0x30),
      (decide (at_ < have_), 0x40),
      (decide (have_ < at_) || decide (s.upd.total < at_ + (v.length - 8)) || s.upd.state != .receiving, 0x41)]]

/-- A piece is stored. -/
def State.storePiece (v : List Byte) (s : State) : State :=
  { s with upd := { s.upd with hamper := s.upd.hamper ++ v.drop 8, pieceAt := s.ticks } }

/-- Does a command bring a piece or another write that keeps the session of a holder alive (R626)? -/
def bringsPiece (i : Instr) : Bool :=
  match i with
  | .updateData _ _ => true
  | .dictWrite _ _ _ => true
  | .groupCommit _ _ _ => true
  | .canWrite _ _ _ => true
  | .segmentDown _ _ _ => true
  | .canGroup _ _ _ => true
  | .canFrameReceived _ _ _ _ _ => true
  | _ => false

/-- A session without a piece for 0x3F10 ends (R626, R79, R80). Without a piece a holder on CAN may yet have written something
else since: the cause is 1 where its port has not, 2 otherwise (DESIGN CHOICE, assumption 15: both cases may hold). -/
def State.sessionIdles (s : State) : State :=
  let t := secTicks (s.cfg 0x3F1000)
  let silent := match s.upd.holder with
    | some h => decide (h.1 < 2) && s.passed (s.canDict h.1).wrote t
    | none => false
  if s.timedOut s.upd.pieceAt t bringsPiece then s.sessionLost (if silent then 1 else 2) else s

/-! ### Verification and application (R627, R628) -/

/-- The decision on a write to 0x3F02. -/
def State.finishCheck (role port sess : Nat) (v : List Byte) (s : State) : Nat :=
  firstCode [s.writeCheck role 0x3F0200 v,
    firstCase [
      (!s.holdsLock port sess, 0x30),
      (s.upd.state != .receiving || s.upd.hamper.length != s.upd.total, 0x41),
      (true, 1)]]

/-- The image that a header names, with octets of its own. -/
def headerImage (h content : List Byte) : Image :=
  { kind := field h 5 1, version := field h 8 4, ds := field h 16 2, schema := field h 18 2, minBoot := field h 28 4,
    content := content, fallen := false }

/-- Does SIGNATURE verify under a root key that is not revoked (R619, R684)? -/
def State.signed (h payload : List Byte) (s : State) : Bool :=
  [0, 1, 2, 3].any fun k =>
    !s.sec.revoked.testBit k && Config.rootVerify k (Config.sha384 (h.take 160 ++ payload)) ((h.drop 160).take 96)

/-- The cause of the first check of R627 that fails; 0 if none does. -/
def State.verifyCause (s : State) : Nat :=
  let h := s.upd.hamper.take 256
  let payload := s.upd.hamper.drop 256
  let kind := field h 5 1
  let bootVersion := versionOf (s.upd.boot.getD s.upd.bootUse none)
  let active := ((s.upd.banks.getD s.upd.active none).map fun i => i.content).getD []
  firstCase [
    (field h 0 4 != 0x4E524144 || field h 4 1 != 1 || field h 6 2 != 0 || field h 128 32 != 0 ||
      field h 20 4 + 256 != s.upd.total, 1),
    (kind != s.upd.kind, 2),
    (!s.signed h payload, 3),
    (decide (major (field h 8 4) < s.sec.floors.getD (kind - 1) 0), 4),
    (kind != 1 && decide (bootVersion < field h 28 4), 5),
    (kind == 3 && (h.drop 32).take 48 != Config.sha384 active, 6),
    (kind != 3 && (h.drop 80).take 48 != Config.sha384 payload, 7)]

/-- An image is rejected (R627). -/
def State.imageRejected (cause : Nat) (s : State) : State :=
  let kind := s.upd.kind
  (({ s with upd := { s.upd with state := .idle, holder := none, hamper := [], cause := cause } }).count 0x3F2003).record
    0xC004 [.u8 kind, .u8 cause]

/-- An image is ready (R629): the lock is released. -/
def State.imageReady (st : UpdState) (version place : Nat) (s : State) : State :=
  ({ s with upd := { s.upd with state := st, holder := none } }).record 0xC005 [.u8 s.upd.kind, .u32 version, .u8 place]

/-- Verification completes (R627, R629). -/
def State.verified (s : State) : State :=
  if s.upd.state = .verifying then
    let c := s.verifyCause
    if c ≠ 0 then s.imageRejected c
    else if s.upd.kind = 3 then { s with upd.state := .applying }
    else
      let i := headerImage (s.upd.hamper.take 256) (s.upd.hamper.drop 256)
      ({ s with upd.staged := some i }).imageReady .staged i.version 0
  else s

/-- The image that the operations of R620 build from a base image; none where one of R628's faults shows. The first
argument bounds the operations. -/
def darn (base : List Byte) : Nat → List Byte → List Byte → Option (List Byte)
  | 0, _, _ => none
  | n + 1, ops, acc =>
    match field ops 0 1, ops with
    | 0, [_] => some acc
    | 1, _ =>
      let src := field ops 1 4
      let len := field ops 5 4
      if ops.length < 9 ∨ base.length < src + len then none
      else darn base n (ops.drop 9) (acc ++ (base.drop src).take len)
    | 2, _ =>
      let len := field ops 1 4
      if ops.length < 5 + len then none else darn base n (ops.drop (5 + len)) (acc ++ (ops.drop 5).take len)
    | _, _ => none

/-- The Darn image is applied (R628): the resulting image, verified, in the inactive bank; or rejected with cause 8. -/
def State.applied (s : State) : State :=
  if s.upd.state = .applying then
    let h := s.upd.hamper.take 256
    let payload := s.upd.hamper.drop 256
    let base := ((s.upd.banks.getD s.upd.active none).map fun i => i.content).getD []
    match darn base payload.length payload [] with
    | none => (s.setSpare none).imageRejected 8
    | some r =>
      if r.length = field h 24 4 ∧ Config.sha384 r = (h.drop 80).take 48 then
        (s.setSpare (some (headerImage h r))).imageReady .ready (field h 8 4) 1
      else (s.setSpare none).imageRejected 8
  else s

/-- The decision on a write to 0x3F03 (R626, R629). -/
def State.abortCheck (role port sess : Nat) (v : List Byte) (s : State) : Nat :=
  firstCode [s.writeCheck role 0x3F0300 v,
    match s.upd.state with
    | .receiving => if s.holdsLock port sess then 0 else 0x30
    | .staged => 0
    | .ready => 0
    | .idle => 0x41
    | _ => 0x10]

/-- A write to 0x3F03 acts. -/
def State.abortUpdate (s : State) : State :=
  match s.upd.state with
  | .receiving => s.sessionLost 0
  | .staged => { s with upd := { s.upd with state := .idle, hamper := [], staged := none } }
  | .ready => { s.setSpare none with upd.state := .idle }
  | _ => s

/-! ### Fallback (R636, R640) -/

/-- The settings and tables of the old area come back in one commit at the fallback instant (R640). -/
def State.settingsBack (s : State) : State :=
  match s.upd.oldArea with
  | none => s
  | some a =>
    let area := s.areaAt a
    let t := s.putSettings ((s.discards area).map fun o => (o, wire o (area.value o)))
    let edits := s.tableReturn area
    let t := if edits = [] then t else t.commitEdits edits
    (t.areaReturns a).discardRecords s.upd.area (s.discarded area)

/-- The unit falls back (R636). Where the activation was a restart, so is this. -/
def State.fallBack (cause : Nat) (saved : Bool) (s : State) : State :=
  let t := ({ s.settingsBack.markFallen with upd.state := UpdState.idle }).fallenBack cause
  if s.upd.method = 1 then (t.shutdownSave saved).enterReset 0x10 else t

/-! ### Activation (R631 to R633) -/

/-- The pair's cases of R631: the code, 0 where they pass. `changed`: the image changes DS_VERSION. -/
def State.activatePair (changed : Bool) (s : State) : Nat :=
  firstCase [
    (s.power.mode != .standby || (changed && !s.pair.peerFlags.testBit 1), 0x11),
    (!s.pair.hbA || !s.pair.hbB || (!changed && (s.pair.state == .transfer || s.pair.apart)), 0x15)]

/-- The decision on a write to 0x3F04 (R631, R636). -/
def State.activateCheck (role : Nat) (v : List Byte) (s : State) : Nat :=
  let value := leNat v
  let want := if value = 1 then UpdState.ready else .staged
  let changed := value == 1 && (s.spareImage.map fun i => i.ds) != some s.dsVersion
  let parked := s.power.mode == .maintain
  firstCode [s.writeCheck role 0x3F0400 v,
    firstCase [
      ((s.cfg 0x121200).testBit 0, 0x14),
      (value == 1 && s.spareImage.any (fun i => i.fallen), 0x41),
      (s.upd.state != want || s.pair.handover.isSome || s.pair.yield, 0x10)],
    if s.inPair then s.activatePair changed
      else if (value == 2 || changed) && !parked then 0x11 else 0,
    firstCase [(s.axesBusy, 0x12), (s.supplyBad, 0x13), (true, 1)]]

/-- An activation by restart (R633). -/
def State.restartFor (version : Nat) (saved : Bool) (s : State) : State :=
  ((s.shutdownSave saved).record 0xC006 [.u32 version, .u8 1]).enterReset 0x10

/-- A READY image is activated (R632, R633, R639); a migration that fails is a fallback before any cluster changes. -/
def State.activate (migrated saved : Bool) (s : State) : State :=
  let same := (s.spareImage.map fun i => i.ds) == some s.dsVersion
  let u : UpdateSt := { s.upd with state := .activating, method := if same then 0 else 1, done := [], out := none,
                                   confirmed := false, struck := false }
  let t := ({ s with upd := u }).count 0x3F2004
  match migrated, t.erasedArea with
  | true, some a =>
    if same then t.migrate a else (t.migrate a).restartFor (versionOf s.spareImage) saved
  | _, _ => ({ t with upd.method := 0 }).fallBack 2 saved

/-- A write to 0x3F04 acts. -/
def State.activateAct (v : List Byte) (migrated saved : Bool) (s : State) : State :=
  if leNat v = 1 then s.activate migrated saved else s.restartFor (versionOf s.upd.staged) saved

/-- The cores of a cluster. -/
def clusterCores (c : Nat) : List Nat := [4 * c, 4 * c + 1, 4 * c + 2, 4 * c + 3]

/-- A cluster is withdrawn: its cores finish their operations and issue no TAKE (R322, R336). -/
def State.withdraw (c : Nat) (s : State) : State :=
  let t := each (clusterCores c) (fun k s =>
    let s := s.completed k
    { s with sched.cores := modAt s.sched.cores k fun x => { x with state := 3 } }) s
  { t with upd.out := some c }

/-- A cluster returns to service: its cores issue TAKE. -/
def State.returnCluster (c : Nat) (s : State) : State :=
  each (clusterCores c) (fun k s =>
    State.takeOp k { s with sched.cores := modAt s.sched.cores k fun x => { x with state := 0 } }) { s with upd.out := none }

/-- The last cluster runs the new image: TRIAL (R629). -/
def State.trialBegins (s : State) : State :=
  ({ s with upd := { s.upd with state := .trial, trialStart := s.ticks } }).record 0xC006
    [.u32 (versionOf s.spareImage), .u8 0]

/-- One slot start of a cluster handover (R632), toward the new image while ACTIVATING and back to the old one after a
fallback: clusters 3, 2, 1, 0. -/
def State.clusterStep (s : State) : State :=
  let on := s.upd.state == .activating && s.upd.method == 0
  match s.upd.out with
  | some c =>
    let t := s.returnCluster c
    if on then
      let t : State := { t with upd.done := c :: t.upd.done }
      when (decide (4 ≤ t.upd.done.length)) State.trialBegins t
    else { t with upd.done := t.upd.done.filter fun k => k != c }
  | none =>
    let next := [3, 2, 1, 0].find? fun c => if on then !s.upd.done.contains c else s.upd.done.contains c
    match next with
    | some c => if on || !(s.upd.state == .activating || s.upd.state == .trial) then s.withdraw c else s
    | none => s

/-! ### Health (R634 to R636) -/

/-- Condition 3 of R634. -/
def State.pairHealthy (s : State) : Bool :=
  let own := decide (100 ≤ s.upd.ownRun)
  !s.inPair ||
    ((if s.pair.peerDs = s.dsVersion then decide (100 ≤ s.upd.matchRun) else own) && (s.cfg 0x3F0E00 == 0 || own))

/-- The conditions of R634 at a slot 0, within the health timer (R635). -/
def State.healthy (s : State) : Bool :=
  s.upd.state == .trial && decide (s.ticks ≤ s.upd.trialStart + secTicks (s.cfg 0x3F0C00)) && !s.upd.struck &&
    decide (4 ≤ s.upd.done.length) && decide (100 ≤ s.upd.cleanRun) &&
    s.pairHealthy && (s.cfg 0x3F0D00 == 0 || s.upd.confirmed)

/-- Health is confirmed (R634, R687): the inactive bank becomes the active one and the fresh area the only one. -/
def State.confirm (s : State) : State :=
  let version := versionOf s.spareImage
  let only := List.zipWith (fun a k => if k = s.upd.area then a else SettingsArea.erased) s.upd.areas (List.range 4)
  let u : UpdateSt := { s.upd with state := .idle, active := 1 - s.upd.active, done := [], areas := only, oldArea := none }
  (((({ s with upd := u }).count 0x3F2005).record 0xC007 [.u32 version, .u64 ((s.ticks - s.upd.trialStart) * 2)])).raiseFloor
    3 version

/-- The decision on a write to 0x3F05 or 0x3F06: only in TRIAL (R635, R636). -/
def State.trialCheck (role o : Nat) (v : List Byte) (s : State) : Nat :=
  firstCode [s.writeCheck role o v, if s.upd.state = .trial then 0 else 0x11]

/-- Seconds left in TRIAL (0x3F0F). -/
def State.healthLeft (s : State) : Nat :=
  if s.upd.state = .trial then s.cfg 0x3F0C00 - (s.ticks - s.upd.trialStart) / 500000000 else 0

end Sys2Proof.Machine
end

