-- ==== Sys2Proof/Machine/Commit.lean ====
section
/-!
DEFINITION. Commits (R572 to R578): the own rules of every object that a host writes, the rules that relate several objects,
the claims, and the application of a commit on one tick.
-/

namespace Sys2Proof.Machine

/-- Subindex `sub` of index `i` as an object. -/
def objOf (i sub : Nat) : Nat := i * 256 + sub

/-- Does the index of an object lie between two others? -/
def inRun (lo hi o : Nat) : Bool := decide (lo ≤ o / 256) && decide (o / 256 ≤ hi)

/-! ### Staging (R573) -/

/-- The select object that governs a table window. -/
def windowSelect (o : Nat) : Option Nat :=
  [(0x400100, 0x400000), (0x410100, 0x410000), (0x430100, 0x430000), (0x440100, 0x440000)].lookup o

/-- A write joins those staged before it; a window write is bound to the entry selected now. -/
def State.bound (done : List StagedWrite) (o : Nat) (v : List Byte) (s : State) : StagedWrite :=
  match windowSelect o with
  | none => ⟨o, v, 0⟩
  | some q =>
    match done.reverse.find? fun x => x.obj == q with
    | some x => ⟨o, v, leNat x.value⟩
    | none => ⟨o, v, s.cfg q⟩

/-- Writes staged one after another. -/
def State.boundAll (s : State) (done : List StagedWrite) : List (Nat × List Byte) → List StagedWrite
  | [] => done
  | e :: l => s.boundAll (done ++ [s.bound done e.1 e.2]) l

/-! ### Kinds of objects -/

/-- The writes that must be the only write of their commit (R578, R625, R631, R677, R695). -/
def standsAlone (o : Nat) : Bool :=
  [0x280400, 0x300200, 0x3C0100, 0x121000, 0x200500, 0x341000, 0x3C1000, 0x3F0100, 0x3F0400, 0x110300, 0x123800].contains o

/-- The objects whose home chapter orders their refusals itself (R66, R186, R394, R479, R497, R507). -/
def homeOrder (o : Nat) : Bool :=
  [0x341000, 0x200500, 0x280400, 0x440100].contains o || (inRun 0x3820 0x3827 o && decide (1 ≤ o % 256) && decide (o % 256 ≤ 2))

/-- The writes that ALLOT and RESERVE apply (R291, R300). -/
def isEdit (o : Nat) : Bool := isTrackEdit o || isTaskEdit o

/-- The RW and WL objects whose value the settings hold. -/
def isSetting (o : Nat) : Bool :=
  match Catalog.row? o with
  | some r => (r.acc == .rw || r.acc == .wl) && !isEdit o && !([0x440100, 0x280400, 0x121000].contains o)
  | none => false

/-- PARAM of the write-limited settings (R579). -/
def limitedParam (o : Nat) : Option Nat := [(0x300200, 2), (0x3C0100, 3), (0x121000, 4)].lookup o

/-! ### Radio (R349, R353, R360) -/

/-- Channels that the committed region and mode have. -/
def State.regionChannels (s : State) : Nat := channelCount (s.cfg 0x300200) (s.cfg 0x300300)

/-- Does an enabled port lack a region of at least 10 channels (R349)? -/
def State.radioBroken (s : State) : Bool :=
  s.cfg 0x300000 != 0 && (s.cfg 0x300200 == 0 || decide (s.regionChannels < 10))

/-- Do two enabled ports have offsets equal modulo H (R360)? -/
def State.offsetsClash (s : State) : Bool :=
  let h := hopSize s.regionChannels
  let on := (List.range 8).filter fun n => (s.cfg 0x300000).testBit n
  h != 0 && on.any fun a => on.any fun b => decide (a < b) && s.cfg (0x300401 + a) % h == s.cfg (0x300401 + b) % h

/-- The decision on a write to 0x3002 (R349, R353, R545, R581). -/
def State.regionRule (c : CommitIn) (t s : State) : Nat :=
  let open_ := if s.inPair then s.power.mode == .active && s.stop.latch else s.power.mode == .maintain
  firstCase [
    (!open_, 0x11),
    (s.inPair && !s.peerSynced, 0x15),
    (s.limitSpent 2 || (s.inPair && c.peerSpent), 0x31),
    (t.radioBroken, 0x41),
    (!c.verified, 0x60)]

/-! ### Own rules of settings -/

/-- Reserved fields of a filter rule (R422). -/
def filterRuleOk (n : Nat) : Bool :=
  decide (n / 2 ^ 16 % 2 ^ 19 = 0) && decide (n / 2 ^ 61 % 4 ≠ 3) && decide (n / 2 ^ 48 % 4096 ≠ 4095)

/-- Reserved bits and the pinned slot of 0x3021 (R378). -/
def pinOk (n : Nat) : Bool :=
  decide (n / 2 ^ 13 % 4 = 0) && decide (n / 8 % 32 = 0) &&
    (!n.testBit 15 || (decide (2 ≤ n / 256 % 32) && decide (n / 256 % 32 ≤ 24)))

/-- A slot map entry (R355, R356): slots 0, 1 and 12 are fixed; a slot that a machine holds stays UP. -/
def State.slotRule (o n : Nat) (s : State) : Nat :=
  let port := o / 256 - 0x3010
  let slot := o % 256 - 1
  firstCase [
    ((slot == 0 && n != 1) || (slot == 1 && n != 2) || (slot == 12 && n != 6), 0x20),
    (s.cfg o == 3 && n != 3 && (s.slotHolder port slot).isSome, 0x41)]

/-- An object's own rule on a setting that passes R570: 0 where it passes. -/
def State.settingRule (o : Nat) (v : List Byte) (s : State) : Nat :=
  let n := leNat v
  if inRun 0x3800 0x3807 o && o % 256 == 1 then (if (s.axis (o / 256 - 0x3800)).busy then 0x12 else 0)
  else if o = 0x3C0000 then (if n ≠ s.cfg o ∧ s.power.mode ≠ .maintain then 0x11 else 0)
  else if o / 256 = 0x3A05 then (if tariffEntryOk n then 0 else 0x20)
  else if inRun 0x2080 0x208F o && o % 256 == 3 then
    (if n % 2 ^ 32 ≠ 0 ∨ n / 2 ^ 32 % 2 = 1 then 0x20 else 0)
  else if inRun 0x3010 0x3017 o then s.slotRule o n
  else if o / 256 = 0x3021 then (if pinOk n then 0 else 0x20)
  else if o / 256 = 0x360A then (if n.testBit 3 || n.testBit 7 then 0x20 else 0)
  else if inRun 0x3610 0x3613 o then (if filterRuleOk n then 0 else 0x20)
  else 0

/-! ### Own rules (R574) -/

/-- The own rule of an axis command object (R479, R497, R570). -/
def State.axisRule (role o : Nat) (v : List Byte) (s : State) : Nat :=
  let n := o / 256 - 0x3820
  if o % 256 = 1 then s.targetCheck role n v
  else if v.length = 1 then s.axisCommandCheck role n (leNat v)
  else if role < 1 then 0x30 else 0x21

/-- An object's own rule on a write that passes R570: its result code. `t` holds the commit's writes before it, `s` the
committed state. -/
def State.ownRule (w : Writer) (role : Nat) (c : CommitIn) (x : StagedWrite) (t s : State) : Nat :=
  let v := x.value
  let port := w.port.val
  let sess := w.session
  match x.obj with
  | 0x200500 => t.timeSetCheck role v
  | 0x240E00 => t.recoveryCheck role v
  | 0x280400 => let k := t.posCommitCheck role v c.peerSpent; if k = 0 then 1 else k
  | 0x300200 => t.regionRule c s
  | 0x3C0100 => firstCase [(s.limitSpent 3, 0x31), (!c.verified, 0x60)]
  | 0x121000 => s.ownerCheck role v c.verified
  | 0x341000 => s.stopCode (some role) v
  | 0x3C1000 => t.pairCommandCheck role v
  | 0x440100 => t.accountCode x.sel role v
  | 0x3F0000 => t.openCheck role v
  | 0x3F0100 => t.pieceCheck role port sess v
  | 0x3F0200 => t.finishCheck role port sess v
  | 0x3F0300 => t.abortCheck role port sess v
  | 0x3F0400 => t.activateCheck role v
  | 0x3F0500 => t.trialCheck role x.obj v
  | 0x3F0600 => t.trialCheck role x.obj v
  | 0x110100 => t.modeCheck role v
  | 0x110300 => t.resetCheck role v
  | 0x123100 => t.debugRule v
  | 0x123800 => t.ownerBackCheck role v
  | o =>
    if isEdit o then (if t.editOk o v then 1 else 0x20)
    else if inRun 0x3820 0x3827 o then t.axisRule role o v
    else s.settingRule o v

/-! ### What a write does -/

/-- A write that is neither a setting nor a table edit takes effect. -/
def State.act (w : Writer) (role : Nat) (c : CommitIn) (x : StagedWrite) (s : State) : State :=
  let v := x.value
  let port := w.port.val
  let sess := w.session
  match x.obj with
  | 0x200500 => s.timeSetApply v
  | 0x240E00 => s.recoveryApply v
  | 0x280400 => s.posAccepted role port sess v
  | 0x2C0900 => s.slackReset
  | 0x2F0300 => s.storeHighReset
  | 0x121000 => s.ownerApply w v
  | 0x341000 => s.stopCommand 2 (some role) v
  | 0x3C1000 => s.pairCommand v
  | 0x440100 => s.accountApply x.sel v
  | 0x3F0000 => s.openSession port sess v
  | 0x3F0100 => s.storePiece v
  | 0x3F0200 => { s with upd.state := .verifying }
  | 0x3F0300 => s.abortUpdate
  | 0x3F0400 => s.activateAct v c.migrated c.saved
  | 0x3F0500 => { s with upd.confirmed := true }
  | 0x3F0600 => s.fallBack 1 c.saved
  | 0x110100 => s.modeAsked v
  | 0x110300 => s.resetAct v c.saved
  | 0x123100 => s.debugApply w v
  | 0x123800 => s.ownerBack w v
  | o =>
    let n := o / 256 - 0x3820
    if o / 256 = 0x3420 then s.stopKeySet (o % 256 - 1) v
    else if inRun 0x3820 0x3827 o then
      (if o % 256 = 1 then s.targetApply n v else s.axisCommandApply n (leNat v)).gateWatch n
    else s

/-- A refused write that its home chapter counts, records or spends (R395, R507, R497, R580, R624, R675, R698). -/
def State.refusedWrite (w : Writer) (role : Nat) (x : StagedWrite) (code : Nat) (s : State) : State :=
  let port := w.port.val
  match x.obj with
  | 0x3F0000 => s.openRefused port w.session code
  | 0x110100 => s.requestCounted code
  | 0x110300 => s.requestCounted code
  | 0x440100 => when (code != 0x21) (State.count 0x3A5006) s
  | 0x123100 => s.nonceUsed role x.value
  | o =>
    if inRun 0x3820 0x3827 o then s.axisRefused (o / 256 - 0x3820)
    else
      match limitedParam o with
      | some p => if code = 0x60 then s.spend p role port w.session x.value false else s
      | none => s

/-! ### Rules that relate several objects (R574) -/

/-- Is a chain enabled that has no bank (R118)? -/
def State.chainBankless (s : State) : Bool :=
  (List.range 4).any fun c => (s.cfg 0x240000).testBit c &&
    (List.range 16).all fun b => s.cfg 0x243000 / 2 ^ (2 * b) % 4 != c

/-- Do two ports have unit addresses in one subnet, or does a role address equal a unit address (R426)? -/
def State.addressesClash (s : State) : Bool :=
  let ports := List.range 4
  (ports.any fun p => ports.any fun q => decide (p < q) && s.unitIp p != zeros 4 && s.unitIp q != zeros 4 &&
    samePrefix (min (s.cfg (0x360501 + p)) (s.cfg (0x360501 + q))) (s.unitIp p) (s.unitIp q)) ||
  ports.any fun p => s.roleIp p != zeros 4 && ports.any fun q => s.roleIp p == s.unitIp q

/-- Do both domains have ports and one domainNumber (R448)? -/
def State.domainsClash (s : State) : Bool :=
  s.cfg 0x204002 != 0 && s.cfg 0x204102 != 0 && s.cfg 0x204001 == s.cfg 0x204101

/-- Is a port in a domain whose stamps are given to the host (R448, R459)? -/
def State.stampsClash (s : State) : Bool := s.cfg 0x205600 &&& (s.cfg 0x204002 ||| s.cfg 0x204102) != 0

/-- The shares of port `p`'s queues sum to more than 16 (R424). -/
def State.sharesOver (p : Nat) (s : State) : Bool :=
  decide (16 < ((List.range 8).map fun q => s.cfg (objOf (0x3614 + p) (q + 1))).sum)

/-- Does axis `n` break R478? -/
def State.axisBroken (n : Nat) (s : State) : Bool :=
  decide (s.axisCfg n 7 < s.axisCfg n 5) || decide (s.axisCfg n 0x17 < s.axisCfg n 0x14) ||
    decide (s.axisCfg n 0x0F < s.axisCfg n 0x10) || decide (s.axisCfg n 0x19 ≤ s.axisCfg n 0x1A) ||
    decide (s.axisCfgI n 0x0C ≤ s.axisCfgI n 0x0B) ||
    (s.axisCfg n 1 == 1 && (List.range 4).any fun k =>
      decide (s.cfgI (objOf (0x2D20 + n) (k + 1)) < s.axisCfgI n 0x0B) ||
        decide (s.axisCfgI n 0x0C < s.cfgI (objOf (0x2D20 + n) (k + 1))))

/-- Does pin TIOk have a WIDTH not below its PERIOD in mode 2 (R461)? -/
def State.tioBroken (k : Nat) (s : State) : Bool :=
  s.cfg (objOf (0x2080 + k) 1) == 2 && decide (s.cfg (objOf (0x2080 + k) 4) ≤ s.cfg (objOf (0x2080 + k) 5))

/-- The relational rules that the settings `t` after a commit break: which objects each involves and its code. -/
def State.broken (t s : State) : List ((Nat → Bool) × Nat) :=
  let one := fun (l : List Nat) (o : Nat) => l.contains o
  let rules : List (Bool × (Nat → Bool) × Nat) :=
    [(decide (t.cfg 0x240700 ≤ t.cfg 0x240800), one [0x240700, 0x240800], 0x41),
     (t.chainBankless, one [0x240000, 0x243000], 0x41),
     (t.radioBroken, one [0x300000, 0x300200, 0x300300], 0x41),
     (t.offsetsClash, fun o => one [0x300000, 0x300200, 0x300300] o || o / 256 == 0x3004, 0x41),
     (t.addressesClash, fun o => [0x3604, 0x3605, 0x3607].contains (o / 256), 0x41),
     (t.domainsClash, one [0x204001, 0x204101, 0x204002, 0x204102], 0x41),
     (t.stampsClash, one [0x205600, 0x204002, 0x204102], 0x41),
     (!tariffDistinct t.tariffEntries, fun o => o / 256 == 0x3A05, 0x20)] ++
    ((List.range 4).map fun p => (t.sharesOver p, fun o => o / 256 == 0x3614 + p, 0x41)) ++
    ((List.range 8).map fun n =>
      (t.axisBroken n, fun o => o / 256 == 0x3800 + n || (o / 256 == 0x2D20 + n && decide (o % 256 ≤ 4)), 0x41)) ++
    ((List.range 16).map fun k => (t.tioBroken k, fun o => o / 256 == 0x2080 + k && [1, 4, 5].contains (o % 256), 0x20)) ++
    ((List.range 32).map fun k =>
      (!s.scaleFree k && (t.cfg (tallyObj k 4) != s.cfg (tallyObj k 4) || t.cfg (tallyObj k 5) != s.cfg (tallyObj k 5)),
        fun o => o / 256 == 0x3A10 + k && (o % 256 == 4 || o % 256 == 5), 0x41))
  (rules.filter fun r => r.1).map Prod.snd

/-- Each broken rule is reported on the first write that takes part in it (R574). -/
def blame (rules : List ((Nat → Bool) × Nat)) : List Nat → List Nat → List Nat
  | _, [] => []
  | seen, o :: l => ((rules.find? fun r => r.1 o && !seen.any r.1).map Prod.snd).getD 0 :: blame rules (o :: seen) l

/-! ### The check of a commit (R574, R578, R594, R75) -/

/-- What the check of a commit finds: the code of each write, the ball and holder's word of a refused claim, and whether
comparators are short. -/
structure Verdict where
  codes : List Nat
  clash : Option (Nat × Nat)
  short : Bool
  deriving DecidableEq, Repr

/-- No write is refused. -/
def passes (codes : List Nat) : Bool := codes.all fun k => decide (k ≤ 1)

/-- R570 for each write, where its home chapter does not order the refusals itself. -/
def State.firstCodes (role : Nat) (l : List StagedWrite) (s : State) : List Nat :=
  l.map fun x => if homeOrder x.obj then 0 else s.writeCheck role x.obj x.value

/-- A code on the first write that passes a test and is not refused yet. -/
def refuseFirst (p : Nat → Bool) (code : Nat) : List StagedWrite → List Nat → List Nat
  | x :: l, k :: ks => if p x.obj && decide (k ≤ 1) then code :: ks else k :: refuseFirst p code l ks
  | _, ks => ks

/-- The settings that a commit would leave, before any command of it acts. -/
def State.candidate (l : List (StagedWrite × Nat)) (s : State) : State :=
  each l (fun e s => when (e.2 == 0 && isSetting e.1.obj) (State.setCfg e.1.obj (valueOf e.1.obj e.1.value)) s) s

/-- The own rules in staged order, each on the state that the writes before it leave. -/
def State.ownCodes (w : Writer) (role : Nat) (c : CommitIn) (s : State) : List (StagedWrite × Nat) → State → List Nat
  | [], _ => []
  | e :: l, t =>
    let k := if e.2 ≠ 0 then e.2 else t.ownRule w role c e.1 s
    k :: s.ownCodes w role c l (if k ≤ 1 ∧ isSetting e.1.obj = false then t.act w role c e.1 else t)

/-- The rules that relate several objects, then the claims of balls, then those of comparators. -/
def State.wholeCheck (l : List StagedWrite) (codes : List Nat) (t s : State) : Verdict :=
  let objs := l.map fun x => x.obj
  let codes := if passes codes then List.zipWith (fun k b => if b = 0 then k else b) codes (blame (t.broken s) [] objs) else codes
  if !passes codes then ⟨codes, none, false⟩
  else
    match State.claimClash objs t s with
    | some x => ⟨refuseFirst (· == x.1) 0x50 l codes, some x.2, false⟩
    | none =>
      if 30 < t.comparatorsWanted then ⟨refuseFirst enabling 0x50 l codes, none, true⟩ else ⟨codes, none, false⟩

/-- The check of a commit as a whole. -/
def State.commitCheck (w : Writer) (role : Nat) (c : CommitIn) (l : List StagedWrite) (s : State) : Verdict :=
  let first := s.firstCodes role l
  if 1 < l.length ∧ (l.any fun x => standsAlone x.obj) = true then ⟨refuseFirst (fun _ => true) 0x41 l first, none, false⟩
  else
    let t := s.candidate (l.zip first)
    t.wholeCheck l (s.ownCodes w role c (l.zip first) t) s

/-- The result of a commit (R576). -/
def commitResult (codes : List Nat) : Nat :=
  match codes.find? fun k => decide (1 < k) with
  | some k => k
  | none => if codes.contains 1 then 1 else 0

/-! ### Its end (R575, R580, R595) -/

/-- One write of a commit that passes. Table edits of a running unit go to the log. -/
def State.applyWrite (w : Writer) (role : Nat) (c : CommitIn) (running : Bool) (x : StagedWrite) (s : State) : State :=
  if isEdit x.obj then when running (State.logWrite x.obj x.sel x.value) s
  else if isSetting x.obj then
    (match limitedParam x.obj with
      | some p => s.spend p role w.port.val w.session x.value true
      | none => s).putSetting x.obj x.value
  else s.act w role c x

/-- A commit that passes applies on one tick, in staged order. -/
def State.commitApply (w : Writer) (role : Nat) (c : CommitIn) (l : List StagedWrite) (s : State) : State :=
  let first := s.firstCodes role l
  let t := s.candidate (l.zip first)
  let s1 : State := { s.count 0x104002 with pipe.commits := s.pipe.commits + 1 }
  let s2 := each l (State.applyWrite w role c s.perCycle) (State.comparatorsLeave t s1)
  let edits := l.filter fun x => isEdit x.obj
  let s3 := when (!s.perCycle && !edits.isEmpty) (State.editsApplied (edits.map fun x => (x.obj, x.sel, x.value))) s2
  let s4 := when (l.any fun x => inRun 0x2080 0x208F x.obj) (State.tiosFollow s) s3
  when (l.any fun x => savable x.obj && s.setting x.obj != s4.setting x.obj) State.saveSettings s4

/-- A refused commit changes nothing but counters, records, the latest refused claim and void entries. -/
def State.commitRefused (w : Writer) (role : Nat) (l : List StagedWrite) (v : Verdict) (s : State) : State :=
  let s := s.count 0x104003
  let s := each (l.zip v.codes) (fun e s => when (decide (1 < e.2)) (State.refusedWrite w role e.1 e.2) s) s
  let s := match l with
    | [x] => when (x.obj == 0x341000) (State.stopCommand 2 (some role) x.value) s
    | _ => s
  let s := match v.clash with
    | some x => ({ s with dict.refusedBall := x.1, dict.refusedHolder := x.2 } : State).count 0x104004
    | none => s
  when v.short (State.count 0x201007) s

/-- The end of a checked commit. -/
def State.commitEnd (w : Writer) (c : CommitIn) (l : List StagedWrite) (v : Verdict) (s : State) : State :=
  if passes v.codes then s.commitApply w (s.roleOf w) c l else s.commitRefused w (s.roleOf w) l v

/-- A write that is a row of its own makes up a commit alone; its answer leaves first (R576). -/
def State.writeRow (w : Writer) (o : Nat) (v : List Byte) (c : CommitIn) (s : State) : State :=
  let l := [s.bound [] o v]
  let d := s.commitCheck w (s.roleOf w) c l
  (s.emit (.answer w.port.val w.sess.val o (commitResult d.codes))).commitEnd w c l d

/-- RADIO_REGION_WRITE (R353). -/
def execRadioRegionWrite (w : Writer) (v : List Byte) (peerSpent verified : Bool) (s : State) :
    Host.Outcome State Fault Refusal :=
  .next (s.writeRow w 0x300200 v ⟨verified, peerSpent, true, true⟩)

end Sys2Proof.Machine
end

