-- ==== Sys2Proof/Machine/Pair.lean ====
section
/-!
DEFINITION. The commands of the redundant pair (chapter 17): Seam, heartbeats, the frames of the Akris link, digests and
state transfer, handover and yield.
-/

namespace Sys2Proof.Machine

/-! ### Receiving a frame (R537, R538) -/

/-- ACK of a received frame releases what it acknowledges (R537). -/
def State.linkAcked (ack : Nat) (s : State) : State :=
  let rest := s.pair.unacked.filter fun f => !entryFrom f.lseq ack
  { s with pair.unacked := rest, pair.ackAt := if rest.length < s.pair.unacked.length then s.ticks else s.pair.ackAt }

/-- Link errors are recorded with their counts since the last record (R537, R564). -/
def State.linkErrors (crc retries : Nat) (s : State) : State := s.recordRows 0 0xB00D [] [crc, retries]

/-- A frame of TYPE `kind` arrives: one with a wrong CRC is counted, one out of order or delivered already is discarded (R537), and
from a peer whose HELLO disagrees only HELLO and HEARTBEAT_A count (R538). A unit alone ignores the link (R519). -/
def State.linkReceive (kind : Nat) (f : List Byte) (act : List Byte → State → State) (s : State) : State :=
  if !s.inPair || s.pair.lanes == 0 then s
  else if !linkIntact f then (s.count 0x3C2003).linkErrors 1 0
  else
    let s := s.linkAcked (field f 8 4)
    if field f 4 4 ≠ s.pair.rxSeq then s
    else
      let s := ({ s with pair.rxSeq := (s.pair.rxSeq + 1) % 2 ^ 32 }).count 0x3C2002
      if field f 0 1 ≠ kind || (s.pair.mismatch && decide (2 < kind)) then s else act (linkPayload f) s

/-! ### HELLO and HEARTBEAT_A (R536, R538 to R540) -/

/-- The field in which a HELLO disagrees (R538): 0 PAIR_ID, 1 POS, 2 DS_VERSION; 3 none. -/
def State.helloField (pairId pos ds : Nat) (s : State) : Nat :=
  if pairId ≠ s.cfg 0x3C0100 then 0 else if pos = s.pair.pos then 1 else if ds ≠ s.dsVersion then 2 else 3

/-- The record of a disagreeing HELLO. -/
def State.helloMismatch (f pairId pos ds : Nat) (s : State) : State :=
  match f with
  | 0 => s.record 0xB00C [.u8 0, .u32 (s.cfg 0x3C0100), .u32 pairId]
  | 1 => s.record 0xB00C [.u8 1, .u8 s.pair.pos, .u8 pos]
  | _ => s.record 0xB00C [.u8 2, .u16 s.dsVersion, .u16 ds]

/-- A HELLO is delivered: a SYNCED standby whose peer disagrees is SYNCED no longer. -/
def State.helloDelivered (b : List Byte) (s : State) : State :=
  let pairId := field b 0 4
  let pos := field b 4 1
  let ds := field b 5 2
  let serial := field b 7 8
  let f := s.helloField pairId pos ds
  let t : State := { s.show 0x3C0C00 serial with pair.mismatch := decide (f < 3), pair.peerDs := ds }
  if f = 3 then t
  else
    let t := if s.pair.mismatch then t else t.helloMismatch f pairId pos ds
    when (t.pairLive && t.pair.state == .synced) State.toTransfer t

/-- SEAM_STATUS (R562). -/
def State.seamStatus (s : State) : Nat :=
  s.pair.drive.code + s.pair.compliance * 16 + s.pair.peer.code * 64 + b2n s.pair.output * 512 + b2n s.pair.hbA * 1024 +
    b2n s.pair.hbB * 2048

/-- LOG_NEXT of R539. -/
def State.logNext (s : State) : Nat :=
  if s.follows then s.pair.expect else (s.ingest.outbox.head?.map fun e => e.num).getD s.ingest.next

/-- The HEARTBEAT_A payload (R539). -/
def State.heartbeat (s : State) : Heartbeat :=
  { state := s.pair.state.code, seam := s.seamStatus % 256, flags := b2n s.pair.hbB + b2n s.stop.latch * 2 + s.pair.pos * 4,
    cycle := FT.cycle s.now, txTime := s.now, echoTx := s.pair.echoTx, echoRx := s.pair.echoRx, logNext := s.logNext }

/-- A HEARTBEAT_A leaves (R539, R540). -/
def State.sendHeartbeat (s : State) : State := if s.pair.faulted then s else s.linkSend 2 s.heartbeat.octets

/-- The sum of the two differences of R540: 2θ in units of 2^-32 ns. -/
def thetaTwice (t4 : FT) (f : Heartbeat) : Int :=
  ((FT.units f.echoRx : Int) - FT.units f.echoTx) + ((FT.units f.txTime : Int) - FT.units t4)

/-- θ in picoseconds, within the range of 0x3C0A. -/
def thetaPs (t4 : FT) (f : Heartbeat) : Int :=
  clamp (-1000000000000000000) 1000000000000000000 (Int.tdiv (thetaTwice t4 f * 500) 4294967296)

/-- The test of R540 on one heartbeat. -/
def State.timeApart (f : Heartbeat) (s : State) : State :=
  let far := decide (2 * nsUnits (s.cfg 0x3C0800) < ((thetaTwice s.now f).natAbs : Int))
  let a := if far then s.pair.apartRun + 1 else 0
  let b := if far then 0 else s.pair.nearRun + 1
  let theta := thetaPs s.now f
  let t : State := { s with pair := { s.pair with offset := theta, apartRun := a, nearRun := b } }
  if s.pair.apart = false ∧ 10 ≤ a then
    (({ t with pair.apart := true }).record 0xB00E [.i64 theta]).count 0x3C2011
  else if s.pair.apart = true ∧ 10 ≤ b then { t with pair.apart := false }
  else t

/-- A HEARTBEAT_A is delivered. -/
def State.heartbeatDelivered (b : List Byte) (s : State) : State :=
  let f := Heartbeat.read b
  let t := s.timeApart f
  let p : PairSt :=
    { t.pair with peerState := f.state % 8, peerFlags := f.flags, echoTx := f.txTime, echoRx := s.now,
                  beatHb := s.time.hb }
  let t : State := { t with pair := p }
  if s.pair.hbA then t.pairEval else t.heartbeatBack false

/-! ### LOG (R541, R544, R549, R741) -/

/-- The octets of an entry. -/
def LogEntry.encode (e : LogEntry) : List Byte :=
  leBytes 4 e.num ++ [byte e.source, 0#8] ++ leBytes 2 e.data.length ++ FT.bytes e.stamp ++ e.data

/-- The entries that a payload still has room for, and the others. -/
def takeEntries : Nat → List LogEntry → List LogEntry × List LogEntry
  | _, [] => ([], [])
  | room, e :: l =>
    if e.encode.length ≤ room then
      let r := takeEntries (room - e.encode.length) l
      (e :: r.1, r.2)
    else ([], e :: l)

/-- COMPLETE: the last tick before the oldest input not yet sent, or before now. -/
def State.completeNow (rest : List LogEntry) (s : State) : FT :=
  let oldest := ((rest ++ s.ingest.held).map fun e => e.stamp).foldl (fun a b => if FT.lt b a then b else a) s.now
  FT.addUnits oldest (-nsUnits 2)

/-- The holder of OWN sends a LOG frame (R541). -/
def State.sendLog (s : State) : State :=
  if s.inPair && s.holdsOwn then
    let r := takeEntries (8192 - 16) s.ingest.outbox
    let c := s.completeNow r.2
    ({ s with ingest.outbox := r.2 }).linkSend 3 (FT.bytes c ++ r.1.flatMap LogEntry.encode)
  else s

/-- Do the entries of a LOG frame leave out a number? -/
def entriesSkip : Nat → List LinkEntry → Bool
  | _, [] => false
  | n, e :: l => decide (e.num ≠ n) || entriesSkip ((n + 1) % 2 ^ 32) l

/-- A logged stop-state change acts on a standby at once (R403); ORPHAN only keeps it as the state last logged. -/
def State.entryStop (e : LinkEntry) (s : State) : State :=
  if e.source = 0x20 then
    if s.power.mode = .standby then s.peerStop (field e.data 0 1) (field e.data 1 1)
    else { s with stop.logged := (field e.data 0 1, field e.data 1 1) }
  else s

/-- One entry of a LOG frame reaches the decision side (R544). -/
def State.entryIn (e : LinkEntry) (s : State) : State :=
  let x : LogEntry := ⟨e.num, e.source, e.stamp, e.data, 0⟩
  let s : State := { s with
    ingest.unsorted := s.ingest.unsorted ++ [x],
    pair := { s.pair with expect := (e.num + 1) % 2 ^ 32,
                          kept := if s.pair.state = .transfer then s.pair.kept ++ [x] else s.pair.kept } }
  (s.count 0x2C1002).entryStop e

/-- A LOG frame is delivered. -/
def State.logDelivered (b : List Byte) (s : State) : State :=
  let complete := FT.read b 0
  let entries := readEntries b.length (b.drop 16)
  if s.pairLive && s.follows then
    let skip := entriesSkip s.pair.expect entries
    let s : State := { s with pair.complete := complete }
    let s := when (skip && s.pair.state == .synced) State.toTransfer s
    each entries State.entryIn s
  else s

/-- BASE_OBS is delivered (R546): the base observables of a cycle, newest first, at most ten (R206). -/
def State.baseDelivered (b : List Byte) (s : State) : State :=
  when s.follows (fun s =>
    { s with pipe.bases := (⟨field b 0 8, readRecords b.length (b.drop 8)⟩ :: s.pipe.bases).take 10 }) s

/-! ### Digests and CONFIRM (R542, R547, R550, R551) -/

/-- Digests differ or one is late on a standby that is in step (R551). -/
def State.digestMismatch (cyc own peer cause : Nat) (s : State) : State :=
  if s.pair.state = .synced ∨ s.pair.state = .incoming then
    let t := ({ s with upd.matchRun := 0 }.count 0x3C2006).record 0xB003 [.u64 cyc, .u64 own, .u64 peer, .u8 cause]
    if s.pair.state = .synced then t.toTransfer else t
  else s

/-- A loaded standby meets the first later digest that matches (R552). -/
def State.transferDone (cyc : Nat) (s : State) : State :=
  if s.pair.state = .transfer ∧ s.pair.loaded = true ∧ s.pair.imageCycle < cyc ∧ s.pair.mismatch = false then
    ((({ s with pair := { s.pair with loaded := false, requested := none, kept := [] } }).record 0xB002
      [.u32 s.pair.transferId, .u64 cyc]).count 0x3C2007).enterPair .synced
  else s

/-- The two digests of a cycle are compared once both are present (R551). The holder only counts. -/
def State.compareDigests (s : State) : State :=
  match s.pair.ownDigest, s.pair.peerDigest with
  | some a, some b =>
    if a.1 = b.1 ∧ s.pair.compared ≠ some a.1 then
      let run := if a.2 = b.2 then s.upd.matchRun + 1 else 0
      let s := ({ s with pair.compared := some a.1, upd.matchRun := run }).count 0x3C2005
      if s.follows then (if a.2 = b.2 then s.transferDone a.1 else s.digestMismatch a.1 a.2 b.2 0) else s
    else s
  | _, _ => s

/-- Chunks of a list of octets. -/
def chunks (size : Nat) : Nat → List Byte → List (List Byte)
  | 0, _ => []
  | n + 1, l => if l = [] then [] else l.take size :: chunks size n (l.drop size)

/-- The holder sends the image that a request asked for (R552). -/
def State.sendImage (id cyc : Nat) (s : State) : State :=
  let img := s.image cyc
  let parts := chunks 8176 (img.length / 8176 + 1) img
  each ((List.range parts.length).zip parts)
    (fun p s => s.linkSend 6 (imageOctets id (p.1 * 8176) img.length p.2)) { s with pair.freezing := none }

/-- D(n) is formed, n the cycle of the latest snapshot (R550, R741); the holder serves a transfer here (R552). -/
def State.formDigest (s : State) : State :=
  if s.inPair && (s.follows || s.holdsOwn) then
    let n := FT.cycle s.pipe.snapAt
    let d := s.digest n
    let t := (({ s with pair.ownDigest := some (n, d) }).show 0x3C0B00 d).compareDigests
    match s.pair.freezing with
    | some f => if s.holdsOwn && decide (f.2 ≤ n) then t.sendImage f.1 n else t
    | none => t
  else s

/-- The holder's CONFIRM at a slot start: at slot 0 with the digest of the cycle before, where it has it. -/
def State.confirmPayload (s : State) : List Byte :=
  let c := FT.cycle s.now
  let recs := s.pair.placed.map fun r =>
    (⟨r.getD 0 0, r.getD 1 0, r.getD 2 0, r.getD 3 0, r.getD 4 0, r.getD 5 0⟩ : Placement)
  match s.pair.ownDigest with
  | some d => if FT.slot s.now = 0 ∧ d.1 + 1 = c then confirmOctets d.1 d.2 1 recs else confirmOctets c 0 0 recs
  | none => confirmOctets c 0 0 recs

/-- A CONFIRM leaves (R542, R551): the holder's at each slot start, the peer's once for each digest of its own. -/
def State.sendConfirm (s : State) : State :=
  if s.holdsOwn then ({ s with pair.placed := [] }).linkSend 5 s.confirmPayload
  else
    match s.pair.ownDigest with
    | some d =>
      if s.power.mode = .standby ∧ s.pair.digestSent ≠ some d.1 then
        ({ s with pair.digestSent := some d.1 }).linkSend 5 (confirmOctets d.1 d.2 1 [])
      else s
    | none => s

/-- The first unit that a placement record names leaves a list. -/
def removeUnit (r : Placement) : List DownUnit → List DownUnit
  | [] => []
  | u :: l => if u.kind = r.kind ∧ u.machine = r.machine ∧ u.ref = r.ref then l else u :: removeUnit r l

/-- A placement record (R547): a unit placed or dropped leaves the peer's queues, a deferred one stays. -/
def State.placementIn (r : Placement) (s : State) : State :=
  if r.outcome ≤ 1 then
    { s with pipe.launch := modAt s.pipe.launch r.port fun l => removeUnit r l }
  else s

/-- A CONFIRM is delivered. -/
def State.confirmDelivered (b : List Byte) (s : State) : State :=
  let s := when s.follows (each (readPlacements b.length (b.drop 20)) State.placementIn) s
  when ((field b 16 1).testBit 0) (fun s => ({ s with pair.peerDigest := some (field b 0 8, field b 8 8) }).compareDigests) s

/-- Slot 0 of cycle n + 2 without both digests of cycle n (R551). A digest that is missing has no value to record: a free
value (assumption 5). -/
def State.digestLate (s : State) : State :=
  let n := FT.cycle s.now - 2
  let value := fun (d : Option (Nat × Nat)) => match d with
    | some x => if x.1 = n then x.2 else s.free % 2 ^ 64
    | none => s.free % 2 ^ 64
  if s.arriving isLinkFrame then s
  else if s.pairLive && decide (s.pair.compared ≠ some n) && (s.pair.state == .synced || s.pair.state == .incoming) then
    (({ s.drawn with pair.compared := some n }).digestMismatch n (value s.pair.ownDigest) (value s.pair.peerDigest) 1)
  else s

/-! ### AXIS (R543, R548) -/

/-- A state report of the holder (R543). -/
def State.axisReport (n : Nat) (s : State) : AxisRec := ⟨n, 3, (s.axis n).state.code, 0, s.axisPos n, s.now⟩

/-- The holder reports every enabled axis (R543). -/
def State.sendReports (s : State) : State :=
  if s.holdsOwn then
    let l := (List.range 8).filter fun n => s.axisCfg n 1 != 0
    when (!l.isEmpty) (State.linkSend 7 (l.flatMap fun n => (s.axisReport n).octets)) s
  else s

/-- A state report is compared with the own axis (R548). -/
def State.compareReport (r : AxisRec) (s : State) : State :=
  let n := r.axis
  let own := (s.axis n).counter r.at_ (s.ticks - FT.nsSince r.at_ s.now / 2)
  if (s.axis n).state.code = r.state ∧ own = r.value then s.modAxis n fun a => { a with diverged := false }
  else (s.modAxis n fun a => { a with diverged := true }).record 0xB00F
    [.u8 n, .i32 own, .i32 r.value, .u8 (s.axis n).state.code, .u8 r.state]

/-- One record of an AXIS frame. -/
def State.axisRecord (r : AxisRec) (s : State) : State :=
  let n := r.axis
  if 8 ≤ n then s else
  match r.kind with
  | 1 => s.modAxis n fun a => { a with start := some (r.at_, r.value) }
  | 2 => (s.axisAct n r.code).gateWatch n
  | 3 => s.compareReport r
  | _ => s

/-! ### State transfer (R552) -/

/-- A STATE request reaches the holder: served at the next snapshot. -/
def State.requestDelivered (b : List Byte) (s : State) : State :=
  if s.holdsOwn && field b 0 1 == 1 then
    let c := FT.cycle s.now
    { s with pair.freezing := some (field b 1 4, if s.now.nsec % 100000000 < 80000000 then c else c + 1) }
  else s

/-- A STATE frame with image octets reaches a peer in TRANSFER; `rest` is what the sections without a layout hold. -/
def State.imageDelivered (rest : ImageRest) (b : List Byte) (s : State) : State :=
  if field b 0 1 = 2 ∧ s.pair.state = .transfer ∧ field b 1 4 = s.pair.transferId ∧ s.pair.loaded = false then
    let offset := field b 5 4
    let total := field b 9 4
    let before := if offset = 0 then [] else s.pair.image
    if offset = before.length then
      let img := before ++ b.drop 13
      if total ≤ img.length then s.loadImage img rest
      else { s with pair := { s.pair with image := img, imageTotal := total } }
    else s
  else s

/-- The outgoing unit sends what it has logged and lets go (R559, R560). -/
def State.handOver (at_ : FT) (s : State) : State :=
  let s := each s.ingest.held (fun _ s => s.ingestOne) s
  let s := (each s.ingest.outbox (fun _ s => when (!s.ingest.outbox.isEmpty) State.sendLog s) s).sendLog
  let s : State := { s.drive .free with pair := { (s.drive .free).pair with expect := s.ingest.next, handover := none, peerDigest := none } }
  (((s.count 0x3C200A).record 0xB005 [.ft at_, .u8 3]).enterPair .synced).pairSettle

/-- s of a planned handover (R557, R559): the peer has answered, and the conditions hold. -/
def State.handoverDue (s : State) : State :=
  match s.pair.handover with
  | some h =>
    match h.at_ with
    | some t =>
      if s.pair.state = .outgoing ∧ FT.le t s.now = true ∧ h.acked = true ∧ s.handoverUnready = false then s.handOver t else s
    | none => s
  | none => s

/-- A HANDOVER frame (R557): OP 1 GO, 2 ACK, 3 ABORT. -/
def State.handoverFrame (b : List Byte) (s : State) : State :=
  match field b 0 1 with
  | 1 => s.goReceived (FT.read b 1)
  | 2 => s.ackReceived (FT.read b 1)
  | 3 => s.incomingGivesUp
  | _ => s

/-! ### Timeouts (R79, R80) -/

/-- Heartbeat A is lost (R532): no valid frame for 0x3C04, counted on CK_HB (R78). -/
def State.beatLate (s : State) : State :=
  when (s.inPair && s.hbPassed s.pair.beatHb (hbMs (s.cfg 0x3C0400)) && !s.arriving isLinkFrame) (State.heartbeatLost false) s

/-- 100 µs have passed without ACK advancing (R537): every frame not acknowledged is sent again, from the oldest one. -/
def State.resend (s : State) : State :=
  let l := s.pair.unacked
  if s.inPair && s.pair.lanes != 0 && !l.isEmpty && s.timedOut s.pair.ackAt 50000 isLinkFrame then
    (({ each l (State.linkOut true) s with pair := { (each l (State.linkOut true) s).pair with ackAt := s.ticks } }).countN
      0x3C2004 l.length).linkErrors 0 l.length
  else s

/-- COMPLETE lags Field Time by more than 0x3C06 (R549). -/
def State.logLags (s : State) : State :=
  if s.pairLive && s.pair.state == .synced && FT.lt (FT.addNs s.pair.complete (s.cfg 0x3C0600 * 1000000)) s.now &&
      !s.arriving isLinkFrame then s.toTransfer.pairSettle
  else s

/-- 0x3C07 has passed since the request of a transfer (R552). -/
def State.transferLate (s : State) : State :=
  if s.pairLive && s.pair.state == .transfer && (s.pair.requested.all fun t => s.timedOut t (secTicks (s.cfg 0x3C0700)) isLinkFrame)
  then s.requestTransfer else s

/-- The link has been down for 0x3C05 in START (R554). -/
def State.startWaited (s : State) : State :=
  if s.pairLive && s.pair.state == .start && s.pair.peer == .free && !s.linkIsUp &&
      s.timedOut s.pair.downAt (secTicks (s.cfg 0x3C0500)) isLinkFrame then s.becomeActive
  else s

/-! ### The commands -/

/-- SEAM_READING_CHANGE (R525): the reading is 0 FAULT, 1 FREE, 2 OWN. -/
def execSeamReadingChange (reading : Fin 3) (s : State) : Host.Outcome State Fault Refusal :=
  .next (s.peerReads (Reading.ofCode reading.val))

/-- SEAM_FAULT (R526): the compliance report changes to 0 good, 1 open, 2 shorted. -/
def execSeamFault (compliance : Fin 3) (s : State) : Host.Outcome State Fault Refusal :=
  .next (if s.inPair && s.pair.compliance != compliance.val then
    ({ s with pair.compliance := compliance.val }).seamFaulty else s)

/-- HEALTH_TIMER_EXPIRED (R531). -/
def execHealthTimerExpired (s : State) : Host.Outcome State Fault Refusal := .next { s with pair.hbOut := false }

/-- HB_B_LOST (R532). -/
def execHbBLost (s : State) : Host.Outcome State Fault Refusal := .next (if s.inPair then s.heartbeatLost true else s)

/-- HB_B_RESTORED (R532). -/
def execHbBRestored (s : State) : Host.Outcome State Fault Refusal := .next (if s.inPair then s.heartbeatBack true else s)

/-- HEARTBEAT_A_SEND (R539). -/
def execHeartbeatASend (s : State) : Host.Outcome State Fault Refusal := .next s.sendHeartbeat

/-- HEARTBEAT_A (R540). -/
def execHeartbeatA (f : List Byte) (s : State) : Host.Outcome State Fault Refusal :=
  .next (s.linkReceive 2 f State.heartbeatDelivered)

/-- HB_A_LOST (R532). -/
def execHbALost (s : State) : Host.Outcome State Fault Refusal := .next s.beatLate

/-- The lanes with block lock change (R534, R535): with the first lane the frame numbers of both directions begin at 0. -/
def State.lanesChange (lanes : Nat) (s : State) : State :=
  let pair := if s.pair.lanes = 0 ∧ lanes ≠ 0 then { s.pair with lanes := lanes, txSeq := 0, rxSeq := 0, unacked := [] }
    else { s.pair with lanes := lanes }
  (State.noteDown s { s with pair := pair }).pairEval

/-- AKRIS_LANE_LOCK_CHANGE (R534, R535). -/
def execAkrisLaneLockChange (lane : Fin 2) (locked : Bool) (s : State) : Host.Outcome State Fault Refusal :=
  .next (when s.inPair (State.lanesChange (setBit s.pair.lanes lane.val locked)) s)

/-- HELLO_SEND (R536, R538). -/
def execHelloSend (s : State) : Host.Outcome State Fault Refusal :=
  .next (s.linkSend 1 (helloOctets (s.cfg 0x3C0100) s.pair.pos s.dsVersion Config.serial))

/-- HELLO (R538). -/
def execHello (f : List Byte) (s : State) : Host.Outcome State Fault Refusal := .next (s.linkReceive 1 f State.helloDelivered)

/-- LINK_RETRANSMIT (R537). -/
def execLinkRetransmit (s : State) : Host.Outcome State Fault Refusal := .next s.resend

/-- LOG_SEND (R541). -/
def execLogSend (s : State) : Host.Outcome State Fault Refusal := .next s.sendLog

/-- LOG (R544). -/
def execLog (f : List Byte) (s : State) : Host.Outcome State Fault Refusal := .next (s.linkReceive 3 f State.logDelivered)

/-- BASE_OBS (R546). -/
def execBaseObs (f : List Byte) (s : State) : Host.Outcome State Fault Refusal := .next (s.linkReceive 4 f State.baseDelivered)

/-- CONFIRM_SEND (R542). -/
def execConfirmSend (s : State) : Host.Outcome State Fault Refusal := .next (if s.inPair then s.sendConfirm else s)

/-- CONFIRM (R547, R551). -/
def execConfirm (f : List Byte) (s : State) : Host.Outcome State Fault Refusal := .next (s.linkReceive 5 f State.confirmDelivered)

/-- DIGEST_LATE (R551). -/
def execDigestLate (s : State) : Host.Outcome State Fault Refusal := .next s.digestLate

/-- DIGEST_FORM (R550, R741). -/
def execDigestForm (s : State) : Host.Outcome State Fault Refusal := .next s.formDigest

/-- AXIS (R548). -/
def execAxis (f : List Byte) (s : State) : Host.Outcome State Fault Refusal :=
  .next (s.linkReceive 7 f fun b s => when s.follows (each (readAxes b.length b) State.axisRecord) s)

/-- AXIS_REPORT_SEND (R543). -/
def execAxisReportSend (s : State) : Host.Outcome State Fault Refusal := .next s.sendReports

/-- LOG_LAG_EXCEEDED (R549). -/
def execLogLagExceeded (s : State) : Host.Outcome State Fault Refusal := .next s.logLags

/-- STATE_REQUEST (R552). -/
def execStateRequest (f : List Byte) (s : State) : Host.Outcome State Fault Refusal :=
  .next (s.linkReceive 6 f State.requestDelivered)

/-- STATE (R552, R553). -/
def execState (f : List Byte) (rest : ImageRest) (s : State) : Host.Outcome State Fault Refusal :=
  .next (s.linkReceive 6 f (State.imageDelivered rest))

/-- TRANSFER_TIMEOUT (R552). -/
def execTransferTimeout (s : State) : Host.Outcome State Fault Refusal := .next s.transferLate

/-- START_WAIT_EXPIRED (R554). -/
def execStartWaitExpired (s : State) : Host.Outcome State Fault Refusal := .next s.startWaited

/-- HANDOVER_REQUEST (R557): a write of 1 to 0x3C10. -/
def execHandoverRequest (w : Writer) (v : List Byte) (s : State) : Host.Outcome State Fault Refusal := .next (s.pairRow w v)

/-- YIELD_REQUEST (R561): a write of 2 to 0x3C10. -/
def execYieldRequest (w : Writer) (v : List Byte) (s : State) : Host.Outcome State Fault Refusal := .next (s.pairRow w v)

/-- HANDOVER_GO (R554). -/
def execHandoverGo (f : List Byte) (s : State) : Host.Outcome State Fault Refusal :=
  .next (s.linkReceive 8 f State.handoverFrame)

/-- HANDOVER_ACK (R557). -/
def execHandoverAck (f : List Byte) (s : State) : Host.Outcome State Fault Refusal :=
  .next (s.linkReceive 8 f State.handoverFrame)

/-- HANDOVER_ABORT (R554). -/
def execHandoverAbort (f : List Byte) (s : State) : Host.Outcome State Fault Refusal :=
  .next (s.linkReceive 8 f State.handoverFrame)

/-- HANDOVER_INSTANT (R559, R560). -/
def execHandoverInstant (s : State) : Host.Outcome State Fault Refusal := .next s.handoverDue

/-- HANDOVER_ABANDONED (R554, R557). -/
def execHandoverAbandoned (s : State) : Host.Outcome State Fault Refusal := .next s.handoverAbandoned

end Sys2Proof.Machine
end

