-- ==== Sys2Proof/Machine/Tio.lean ====
section
/-!
DEFINITION. The capture pins (R466 to R468).
-/

namespace Sys2Proof.Machine

/-- Does the capture mode of a pin stamp an edge (R460)? -/
def capturing (mode : Nat) (rising : Bool) : Bool :=
  match mode with
  | 3 => rising
  | 4 => !rising
  | 5 => true
  | _ => false

/-- An edge is stored (R467). -/
def TioPin.store (stamp : FT) (rising : Bool) (p : TioPin) : TioPin :=
  { p with queue := p.queue ++ [⟨stamp, b2n !rising, min 65535 p.lost, (p.seq + 1) % 2 ^ 32⟩], lost := 0,
           seq := (p.seq + 1) % 2 ^ 32 }

/-- An edge of a pin in a capture mode, after its filter (R466, R468). -/
def State.captureEdge (k : Nat) (rising : Bool) (s : State) : State :=
  let mode := s.tioCfg k 1
  if 3 ≤ mode then
    let stamp := FT.addUnits s.now (-nsUnits (s.tioCfg k 6))
    let p := s.tioPin k
    let s := s.modTio k fun p => { p with lastEdge := some stamp }
    if capturing mode rising then
      if p.lastEdge.any fun t => FT.le t stamp && decide (FT.nsSince t stamp < 8) then
        ((s.modTio k fun p => { p with lost := p.lost + 1 }).count 0x206009).noteSince k 0x2015 [1]
      else if 16 ≤ p.queue.length then
        ((s.modTio k fun p => { p with lost := p.lost + 1 }).count 0x206009).recordRows k 0x2015 [.u8 k] [1]
      else (s.modTio k (TioPin.store stamp rising)).count 0x206008
    else s
  else s

/-- The 24 octets of a capture entry (R467). -/
def CapEntry.bytes (e : CapEntry) : List Byte :=
  FT.bytes e.stamp ++ [byte e.edge, byte (if e.lost = 0 then 0 else 1)] ++ leBytes 2 e.lost ++ leBytes 4 e.seq

/-- A read of 0x2090.(k + 1). -/
def State.popCapture (k : Nat) (s : State) : List Byte × State :=
  match (s.tioPin k).queue with
  | [] => (zeros 24, s)
  | e :: _ => (e.bytes, s.modTio k fun p => { p with queue := p.queue.drop 1 })

/-- TIO_CAPTURE_EDGE (R466). -/
def execTioCaptureEdge (k : Fin 16) (rising : Bool) (s : State) : Host.Outcome State Fault Refusal :=
  .next (s.captureEdge k.val rising)

/-- TIO_CAPTURE (R467). -/
def execTioCapture (w : Writer) (k : Fin 16) (s : State) : Host.Outcome State Fault Refusal :=
  .next (State.readRow w (0x209001 + k.val) (s.popCapture k.val))

end Sys2Proof.Machine
end

