-- ==== Sys2Proof/Machine/Read.lean ====
section
/-!
DEFINITION. What a read of each object returns, and what a read changes (R569, R570, and the "Objects" rule of each
chapter).
-/

namespace Sys2Proof.Machine

/-- A number as a value. -/
def vn (n : Nat) : Val := .num n

/-- A time as a value. -/
def vft (t : FT) : Val := .num (FT.toNum t)

/-- Field Time and comparators (R83). -/
def State.readTime (i sub : Nat) (s : State) : Option Val :=
  match i with
  | 0x2000 => some (vft s.now)
  | 0x2001 => some (vn s.time.state.code)
  | 0x2002 => some (.num (s.time.freq + s.time.phase))
  | 0x2003 => some (.num (unitsToPs s.time.remaining))
  | 0x2004 => some (vn s.time.estimate)
  | 0x2020 => some (vn ((s.comparator (sub - 1)).owner + 0x8000 * b2n (s.comparator (sub - 1)).late))
  | 0x2021 => some (vn s.comparatorsFree)
  | _ => none

/-- The trap word (R98). -/
def Trap.word (t : Trap) : Nat :=
  if t.state = 0 then 0
  else t.state * 2 ^ 62 + t.depth % 256 * 2 ^ 48 + t.width % 256 * 2 ^ 40 + t.peak % 256 * 2 ^ 24 + ofSigned 24 t.freq

/-- GNSS baseband and integrity (R113, R149, R178). -/
def State.readGnss (i sub : Nat) (s : State) : Option Val :=
  let k := sub - 1
  if 0x2410 ≤ i ∧ i ≤ 0x2413 then some (vn (((s.chain (i - 0x2410)).traps[k]?.map Trap.word).getD 0))
  else match i with
    | 0x2402 => some (vn (s.antPort k).status)
    | 0x2405 => some (vn (s.chain k).gain)
    | 0x2406 => some (vn (s.chain k).ji)
    | 0x240F => some (vn ((s.chain k).state.code + 8 * b2n (s.chain k).exhausted + 16 * (s.chain k).cause))
    | 0x2441 => some (vn (s.chanWord (s.cfg 0x244000 + k)))
    | 0x2445 =>
      match s.gnss.meas.find? fun e => e.1 == s.cfg 0x244000 + k with
      | some e => some (.oct e.2.bytes)
      | none => some (.oct (zeros 32))
    | 0x2446 => some (vn ((s.gnss.nav.head?.map fun n => n.seq).getD 0xFFFFFFFF))
    | 0x2448 => some (.oct s.navRead)
    | _ => none

/-- The Solve engine's view of the machine that 0x2830 selects (R225). -/
def State.readSolve (i sub : Nat) (s : State) : Option Val :=
  let m := s.machine (s.cfg 0x283000)
  match i, sub with
  | 0x2831, _ => some (.oct ((m.sent.map PosRec.encode).getD (zeros 32)))
  | 0x2832, 1 => some (vn m.rtk.solve.status)
  | 0x2832, 2 => some (vn m.rtk.sats)
  | 0x2832, 3 => some (vn m.rtk.ambFixed)
  | 0x2832, 4 => some (vn m.rtk.ambFloat)
  | 0x2832, 5 => some (vn (if m.rtk.solve = .none then 0 else min 0xFFFFFFFF m.rtk.filter.baseline))
  | 0x2832, 6 => some (vn (m.lastEpoch.getD 0 % 65536))
  | 0x2832, 7 => some (vn m.provOpened)
  | 0x2832, 8 => some (vn m.provConfirmed)
  | 0x2832, 9 => some (vn m.provWithdrawn)
  | _, _ => none

/-- How many reservation entries pass a test. -/
def State.entriesWith (p : Resv → Bool) (s : State) : Nat := SMap.count p s.tracks.res

/-- The task that a machine holds, 0xFFFF none (0x2E13). -/
def State.taskOf (k : Nat) (s : State) : Nat :=
  ((s.tasks.tasks.find? fun e => e.2.heldBy k).map Prod.fst).getD 0xFFFF

/-- A reservation entry as it is read (R262): a SPECULATIVE one reads as FREE. -/
def State.resRead (e : Nat) (s : State) : List Byte :=
  let r := s.tracks.entry e
  if r.state = .speculative then zeros 16 else r.encode

/-- The tag of a reservation entry at the read path (R33): a SPECULATIVE entry is the leg under check that holds it. -/
def State.resTag (e : Nat) (s : State) : Option SpecTag :=
  if (s.tracks.entry e).state = .speculative then some ⟨(s.tracks.entry e).machine, 0, (s.tracks.entry e).leg⟩ else none

/-- Sixteen records of the decision trace (R341). -/
def State.traceWindow (s : State) : List Byte :=
  (List.range 16).flatMap fun i => ((s.sched.recordNo (s.cfg 0x2F3100 + i)).map TraceRec.bytes).getD (zeros 16)

/-- Pipeline, tracks, tasks and scheduler (R254, R296, R319, R344), and the table windows. -/
def State.readFleet (i sub : Nat) (s : State) : Option Val :=
  let k := sub - 1
  if 0x2D20 ≤ i ∧ i ≤ 0x2D27 ∧ sub = 7 then
    some (vn (s.tracks.planned.getD (i - 0x2D20) 0 + 16 * b2n (s.tracks.gateHold.contains (i - 0x2D20))))
  else match i with
    | 0x2C00 => some (vn (FT.cycle s.now))
    | 0x2C08 => some (.num (s.pipe.slack.getD k 0x7FFFFFFF))
    | 0x2D32 => some (vn (s.entriesWith fun r => r.state == .confirmed || r.state == .held))
    | 0x2D33 => some (vn (s.entriesWith fun r => r.state == .held))
    | 0x2E11 => some (vn (s.drainRate sub))
    | 0x2E13 => some (vn (s.taskOf sub))
    | 0x2E22 => some (vn (s.tau (s.cfg 0x2E2100)))
    | 0x2F00 => some (vn (s.sched.ready.filter fun o => o.prio == k).length)
    | 0x2F01 => some (vn s.sched.store.length)
    | 0x2F02 => some (vn s.sched.high)
    | 0x2F04 => some (vn (s.coreAt k).state)
    | 0x2F30 => some (vn s.sched.head)
    | 0x2F32 => some (.oct s.traceWindow)
    | 0x4001 => some (.oct (s.tracks.node (s.cfg 0x400000)).encode)
    | 0x4101 => some (.oct (s.tracks.seg (s.cfg 0x410000)).encode)
    | 0x4201 => some (.oct (s.resRead (s.cfg 0x420000 + k)))
    | 0x4301 => some (.oct (s.task (s.cfg 0x430000)).encode)
    | 0x4401 => some (.oct (s.account (s.cfg 0x440000)).encode)
    | 0x4402 => some (.oct ((s.account (s.cfg 0x440000)).reading s.now.sec))
    | _ => none

/-- Field Air (R382). -/
def State.readAir (i sub : Nat) (s : State) : Option Val :=
  let m := s.machine sub
  let l := s.machine (s.cfg 0x302400)
  match i, sub with
  | 0x300B, _ => some (vn (s.channelPlan.getD (sub - 1) 0))
  | 0x300C, _ => some (.oct ((remapBytes s.air.remap ++ zeros 16).take 16))
  | 0x3022, _ => some (vn m.linkByte)
  | 0x3023, _ => some (vn (m.period % 256 * 256 + m.slot % 32))
  | 0x3025, 1 => some (vft l.contact)
  | 0x3025, 2 => some (vn (s.guardUs (s.cfg 0x302400) s.now))
  | 0x3025, 3 => some (.num l.epsilonNs)
  | 0x3025, 4 => some (vn l.missed)
  | 0x3025, 5 => some (vn l.seq)
  | 0x3025, 6 => some (vn (ofSigned 16 l.rssi))
  | _, _ => none

/-- Stop, Ethernet and CAN (R413, R440). -/
def State.readNet (i sub : Nat) (s : State) : Option Val :=
  let k := sub - 1
  match i with
  | 0x3400 => some (vn s.stopStatus)
  | 0x3403 => some (vn s.stop.lastResult)
  | 0x3404 => some (vft s.stop.since)
  | 0x3421 => some (vn (s.stop.counters.getD k 0))
  | 0x3601 => some (vn (s.ethPort k).link)
  | 0x3603 => some (.oct (Config.unitMac k))
  | 0x3665 => some (vn (s.canPort k).state)
  | 0x3666 => some (vn (s.canPort k).errors)
  | _ => none

/-- DOMAIN_STATUS (0x2042.01, 0x2043.01). -/
def State.domainStatus (b : Bool) (s : State) : Nat :=
  let x : Src := if b then .ptpB else .ptpA
  b2n (s.validSince x).isSome + 2 * b2n ((s.domain b).cause != 0) + 4 * (s.domain b).cause + 32 * b2n (s.qualified x)

/-- Network time and timed I/O (R469). -/
def State.readPtp (i sub : Nat) (s : State) : Option Val :=
  let b := i == 0x2043
  let d := s.domain b
  if 0x2080 ≤ i ∧ i ≤ 0x208F ∧ sub = 8 then
    let p := s.tioPin (i - 0x2080)
    some (vn (b2n p.running + 2 * b2n p.late + 4 * b2n p.held))
  else if i = 0x2042 ∨ i = 0x2043 then
    match sub with
    | 1 => some (vn (s.domainStatus b))
    | 2 => some (.num (unitsToPs d.offset))
    | 3 => some (.num (unitsToPs (s.pathDelay b)))
    | 4 => some (vn ((d.gm.map fun g => g.identity).getD 0))
    | 5 => some (vn ((d.gm.map fun g => g.cls).getD 255))
    | _ => some (vn (((List.range 4).find? fun p => s.isSlave b p).getD 0xFF))
  else match i with
    | 0x2044 => some (vn (s.portState false (sub - 1)))
    | 0x2045 => some (vn (s.portState true (sub - 1)))
    | 0x2057 => some (vn (s.tsQueue (sub - 1)).length)
    | 0x2058 => some (.oct (s.popStamp (sub - 1)).1)
    | 0x2090 => some (.oct (s.popCapture (sub - 1)).1)
    | _ => none

/-- Gate axes (R496). -/
def State.readAxis (n sub : Nat) (s : State) : Option Val :=
  let a := s.axis n
  match sub with
  | 1 => some (vn a.state.code)
  | 2 => some (.num (s.axisPos n))
  | 3 => some (.num (a.velocity s.now s.ticks))
  | 4 => some (vn (s.irefNow n))
  | 5 => some (vn a.load)
  | 6 => some (vn a.inputs)
  | 7 => some (vn a.cause)
  | 8 => some (.num a.target)
  | _ => none

/-- Metering (R517). -/
def State.readMeter (i sub : Nat) (s : State) : Option Val :=
  if 0x3A10 ≤ i ∧ i ≤ 0x3A2F ∧ sub = 0x0C then some (vn (s.tally (i - 0x3A10)).waiting.length)
  else match i with
    | 0x3A06 => some (vn (s.tariff s.now))
    | 0x3A40 => some (vn (s.mainsState (sub - 1)))
    | 0x3A41 => some (vn (s.mainsIn (sub - 1)).period)
    | _ => none

/-- The pair (R562, R563). -/
def State.readPair (i : Nat) (s : State) : Option Val :=
  match i with
  | 0x3C02 => some (vn s.pair.pos)
  | 0x3C03 => some (vn (s.pair.state.code + 16 * b2n s.pair.apart))
  | 0x3C09 => some (vn s.seamStatus)
  | 0x3C0A => some (.num s.pair.offset)
  | 0x3C11 => some (vn (((s.pair.handover.bind fun h => h.at_).map FT.toNum).getD 0))
  | _ => none

/-- The 32 octets of a change record entry (R582). -/
def ChangeEntry.bytes (n : Nat) (e : ChangeEntry) : List Byte :=
  leBytes 2 n ++ [byte e.param, byte e.role, byte e.port, byte e.sess] ++ zeros 2 ++ FT.bytes e.time ++ e.digest

/-- Identity, sessions, budgets, change record, pins (R597). -/
def State.readDict (role i sub : Nat) (s : State) : Option Val :=
  match i with
  | 0x1001 => some (vn Config.serial)
  | 0x1002 => some (vn Config.revision)
  | 0x1008 => some (vn s.dict.sessions.length)
  | 0x1009 => some (vn role)
  | 0x1010 => some (vn (budget sub - s.spent sub))
  | 0x1011 => some (vn s.dict.changes.length)
  | 0x1013 =>
    let n := s.cfg 0x101200
    some (.oct ((s.dict.changes[n]?.map fun e => e.bytes n).getD (zeros 32)))
  | 0x1F01 => some (vn (s.claimWord (s.cfg 0x1F0000)))
  | 0x1F02 => some (vn s.dict.refusedBall)
  | 0x1F03 => some (vn s.dict.refusedHolder)
  | _ => none

/-- The event recorder (R616). -/
def State.readRecorder (i sub : Nat) (s : State) : Option Val :=
  let l := s.rcd.held
  match i, sub with
  | 0x3E00, 1 => some (vn (((l.filter fun r => !s.rcd.staged.contains r).head?.map fun r => r.seq).getD 0))
  | 0x3E00, 2 => some (vn (s.rcd.nextSeq - 1))
  | 0x3E00, 3 => some (vn ((s.rcd.safety.head?.map fun r => r.seq).getD 0))
  | 0x3E00, 4 => some (vn s.rcd.sectors)
  | 0x3E00, 5 => some (vn (recsLength s.rcd.staged))
  | 0x3E03, _ => some (vn s.rcd.era)
  | 0x3E11, _ => some (.oct s.readWindow)
  | _, _ => none

/-- Field update and background work (R642, R660). -/
def State.readUpdate (i sub : Nat) (s : State) : Option Val :=
  let k := sub - 1
  match i with
  | 0x3F08 => some (vn s.upd.state.code)
  | 0x3F09 => some (vn ((s.upd.holder.map fun h => h.1 * 256 + h.2).getD 0xFFFF))
  | 0x3F0A => some (vn s.upd.hamper.length)
  | 0x3F0B => some (vn s.upd.cause)
  | 0x3F0F => some (vn s.healthLeft)
  | 0x3F18 => some (vn (versionOf (s.upd.banks.getD k none)))
  | 0x3F19 => some (vn s.upd.active)
  | 0x3F1A => some (vn (versionOf (s.upd.boot.getD s.upd.bootUse none)))
  | 0x3F1B => some (vn (versionOf (s.upd.trim.getD s.upd.trimUse none)))
  | 0x3F1C => some (vn s.dsVersion)
  | 0x3F1D => some (vn (s.upd.area * 2 ^ 30 + (s.areaAt s.upd.area).gen % 2 ^ 30))
  | 0x3F43 => some (vn s.bg.calStale)
  | 0x3F46 => some (.num (s.bg.chainDelay.getD k 0))
  | 0x3F47 => some (.num ([s.bg.oscC1, s.bg.oscC2, s.bg.oscTref].getD k 0))
  | 0x3F48 => some (.num ([s.bg.tempLogic, s.bg.tempAnalog].getD k 0))
  | 0x3F49 => some (vn s.bg.spares)
  | 0x3F4B => some (vn ((s.bg.erases.map Prod.snd).foldl max 0))
  | 0x3F61 => some (.oct s.bg.telLatest)
  | _ => none

/-- Modes, supplies and security (R682, R700). -/
def State.readPower (i sub : Nat) (s : State) : Option Val :=
  match i with
  | 0x1100 => some (vn s.power.mode.code)
  | 0x1102 => some (vn s.power.cause)
  | 0x1105 => some (vn s.power.domains)
  | 0x1106 => some (vn s.power.bootTime)
  | 0x1110 => some (vn (s.power.levels.getD (sub - 1) 0))
  | 0x1200 => some (.oct Config.deviceCert)
  | 0x1201 => some (vn s.sec.revoked)
  | 0x1202 => some (vn (s.sec.floors.getD (sub - 1) 0))
  | 0x1210 => some (.oct (if s.sec.owner = [] then zeros 1024 else s.sec.owner))
  | 0x1221 => some (vn (b2n s.sec.tamper + s.sec.tamperStatus))
  | 0x1230 => some (.oct (Config.nonce s.sec.nonces ++ leBytes 8 Config.serial ++ zeros 8))
  | 0x1232 => some (vn (b2n s.sec.debug))
  | _ => none

/-- A value that no rule computes: one a rule has written, a counter, a setting, or the default. -/
def State.readStored (r : Row) (o : Nat) (s : State) : Val :=
  if r.acc == .ro then
    match s.shown.find? fun e => e.1 == o with
    | some e => e.2
    | none =>
      match s.counters.find? fun e => e.1 == o with
      | some e => vn e.2.toNat
      | none => Catalog.dflt o
  else s.setting o

/-- The value of an object for a reader of a role. -/
def State.readVal (role : Nat) (r : Row) (o : Nat) (s : State) : Val :=
  let i := o / 256
  let sub := o % 256
  let computed : Option Val :=
    if sub = 0 ∧ r.s1 = 0 ∧ (Catalog.row? (o + 1)).isSome then none
    else if i < 0x1100 ∨ i / 256 = 0x1F then s.readDict role i sub
    else if i < 0x2000 then s.readPower i sub
    else if i < 0x2040 then s.readTime i sub
    else if i < 0x2400 then s.readPtp i sub
    else if i < 0x2800 then s.readGnss i sub
    else if i < 0x2C00 then s.readSolve i sub
    else if i < 0x3000 then s.readFleet i sub
    else if i < 0x3400 then s.readAir i sub
    else if i < 0x3800 then s.readNet i sub
    else if 0x3810 ≤ i ∧ i ≤ 0x3817 then s.readAxis (i - 0x3810) sub
    else if i < 0x3C00 then s.readMeter i sub
    else if i < 0x3E00 then s.readPair i
    else if i < 0x3F00 then s.readRecorder i sub
    else if i < 0x4000 then s.readUpdate i sub
    else s.readFleet i sub
  computed.getD (s.readStored r o)

/-- What a read changes: flags that it clears (0x2020, 0x2080, 0x1221), entries that it removes (R459, R467), the nonce
that it draws (R698), and the withholding of a SPECULATIVE entry, which reads as FREE (R34, R38). -/
def State.readActs (o : Nat) (s : State) : State :=
  let i := o / 256
  let k := o % 256 - 1
  if o % 256 = 0 then
    match i with
    | 0x1221 => { s with sec.tamperStatus := 0 }
    | 0x1230 => { s with sec.nonce := some s.sec.nonces, sec.nonces := s.sec.nonces + 1 }
    | _ => s
  else if i = 0x4201 then s.atBoundary 1 (s.resTag (s.cfg 0x420000 + k)) id
  else if i = 0x2020 then s.modComparator k fun c => { c with late := false }
  else if i = 0x2058 then (s.popStamp k).2
  else if i = 0x2090 then (s.popCapture k).2
  else if 0x2080 ≤ i ∧ i ≤ 0x208F ∧ o % 256 = 8 then s.modTio (i - 0x2080) fun p => { p with late := false }
  else s

/-- A read of an object (R569, R570): result code, octets, and the state after it. -/
def State.readObject (role o : Nat) (s : State) : Nat × List Byte × State :=
  match Catalog.row? o with
  | none => (0x22, [], s)
  | some r =>
    let c := firstCase [(r.acc == .wo || r.acc == .cmd, 0x30), (!s.powered o, 0x11)]
    if c ≠ 0 then (c, [], s) else (0, Ty.encode (s.readVal role r o) r.ty, s.readActs o)

/-- A read item that is answered (0x1040.01). -/
def State.readItem (role o : Nat) (s : State) : Nat × List Byte × State := (s.count 0x104001).readObject role o

end Sys2Proof.Machine
end

