-- ==== Sys2Proof/Machine/Dict.lean ====
section
/-!
DEFINITION. The dictionary service over UDP (R572 to R589), its sessions (R583, R584, R692, R694), and the CAN FD transfers
(R590 to R592).
-/

namespace Sys2Proof.Machine

/-! ### Groups (R573, R577) -/

/-- Has a group room for another value of `n` octets? -/
def Group.room (n : Nat) (g : Group) : Bool :=
  decide (g.writes.length < 64) && decide ((g.writes.map fun x => x.value.length).sum + n ≤ 8192)

/-- One write is staged: its result and the group after it (R570, R577, R586). -/
def State.stageWrite (role o : Nat) (v : List Byte) (g : Group) (s : State) : Nat × Group :=
  let k := if o = 0x341000 then 0 else s.writeCheck role o v
  if k ≠ 0 then (k, g)
  else if g.room v.length then (0, { g with writes := g.writes ++ [s.bound g.writes o v] })
  else (0x10, g)

/-- Writes staged in order: their results and the group after them. -/
def State.stageAll (role : Nat) (s : State) : List (Nat × List Byte) → Group → List Nat × Group
  | [], g => ([], g)
  | e :: l, g =>
    let d := s.stageWrite role e.1 e.2 g
    let r := s.stageAll role l d.2
    (d.1 :: r.1, r.2)

/-- The number after a group's. -/
def nextIdent (n : Nat) : Nat := if n = 255 then 1 else n + 1

/-! ### Messages (R585 to R588) -/

/-- What a request asks. -/
inductive Ask where
  | read (objs : List Nat)
  | write (items : List (Nat × List Byte))
  | groupOpen
  | groupCommit
  | groupAbort
  | malformed
  deriving DecidableEq, Repr

/-- The read items of a message body that they fill exactly. -/
def readItems : Nat → List Byte → Option (List Nat)
  | 0, [] => some []
  | 0, _ => none
  | n + 1, b =>
    if b.length < 4 ∨ field b 3 1 ≠ 0 then none
    else (readItems n (b.drop 4)).map (objOf (field b 0 2) (field b 2 1) :: ·)

/-- The write items of a message body that they fill exactly. -/
def writeItems : Nat → List Byte → Option (List (Nat × List Byte))
  | 0, [] => some []
  | 0, _ => none
  | n + 1, b =>
    let len := field b 4 2
    if b.length < 6 + len ∨ field b 3 1 ≠ 0 then none
    else (writeItems n (b.drop (6 + len))).map ((objOf (field b 0 2) (field b 2 1), (b.drop 6).take len) :: ·)

/-- The request that a message spells. -/
def askOf (m : List Byte) : Ask :=
  let n := field m 5 1
  let body := m.drop 8
  if m.length < 8 ∨ field m 0 1 ≠ 1 ∨ field m 7 1 ≠ 0 ∨ 32 < n then .malformed
  else match field m 1 1 with
    | 1 => ((readItems n body).map Ask.read).getD .malformed
    | 2 => ((writeItems n body).map Ask.write).getD .malformed
    | 3 => if n = 0 ∧ body = [] then .groupOpen else .malformed
    | 4 => if n = 0 ∧ body = [] then .groupCommit else .malformed
    | 5 => if n = 0 ∧ body = [] then .groupAbort else .malformed
    | _ => .malformed

/-- A response item (R586). -/
def responseItem (e : Nat × Nat × List Byte) : List Byte :=
  leBytes 2 (e.1 / 256) ++ [byte e.1, byte e.2.1] ++ leBytes 2 e.2.2.length ++ e.2.2

/-- The response to a request `m`: group, result and items. -/
def response (m : List Byte) (group result : Nat) (items : List (Nat × Nat × List Byte)) : List Byte :=
  [1#8, byte (field m 1 1 + 0x80)] ++ leBytes 2 (field m 2 2) ++
    [byte group, byte items.length, byte result, 0#8] ++ items.flatMap responseItem

/-- Response items with LEN 0. -/
def codeItems (objs codes : List Nat) : List (Nat × Nat × List Byte) := List.zipWith (fun o k => (o, k, [])) objs codes

/-- The first code of a list that is not DONE; 0 if there is none. -/
def firstNotDone (codes : List Nat) : Nat := (codes.find? fun k => k != 0).getD 0

/-! ### Requests of a session (R572, R577, R586 to R589) -/

/-- Change the session of a number. -/
def State.modSession (n : Nat) (f : Session → Session) (s : State) : State :=
  { s with dict.sessions := s.dict.sessions.map fun x => if x.num = n then f x else x }

/-- A message of a session leaves from the address its requests came to (R430, R432). -/
def State.sendDtls (w : Writer) (r : List Byte) (s : State) : State :=
  let p := w.port.val - 2
  let role := (s.sessionOf w.sess.val).any fun x => x.onRole
  s.offer p 1 ⟨.dtls w.port.val w.sess.val (s.sourceIp role p) r, Config.dtlsOverhead + r.length⟩

/-- The response of a session leaves and is kept (R589). -/
def State.sendBack (w : Writer) (m r : List Byte) (s : State) : State :=
  (s.modSession w.sess.val fun x => { x with last := some (field m 2 2, r) }).sendDtls w r

/-- The items of a READ, each at its own tick (R587): from the first that does not fit, with six octets kept for each item
after it, all are answered BUSY. -/
def State.readAll (role : Nat) : List Nat → Nat → Bool → State → List (Nat × Nat × List Byte) × State
  | [], _, _, s => ([], s)
  | o :: l, used, full, s =>
    let d := s.readItem role o
    let fit := !full && decide (used + 6 + d.2.1.length + 6 * l.length ≤ 1200)
    if fit then
      let r := d.2.2.readAll role l (used + 6 + d.2.1.length) false
      ((o, d.1, d.2.1) :: r.1, r.2)
    else
      let r := (s.count 0x104001).readAll role l (used + 6) true
      ((o, 0x10, []) :: r.1, r.2)

/-- A READ is executed. -/
def State.dictReads (w : Writer) (m : List Byte) (objs : List Nat) (s : State) : State :=
  let d := s.readAll (s.roleOf w) objs 8 false
  d.2.sendBack w m (response m (field m 4 1) (firstNotDone (d.1.map fun e => e.2.1)) d.1)

/-- A WRITE with GROUP 0: one commit of all its items (R572, R576). -/
def State.dictCommit (w : Writer) (c : CommitIn) (m : List Byte) (l : List StagedWrite) (s : State) : State :=
  let v := s.commitCheck w (s.roleOf w) c l
  (s.sendBack w m (response m (field m 4 1) (commitResult v.codes) (codeItems (l.map fun x => x.obj) v.codes))).commitEnd w c l v

/-- A WRITE in a group (R573, R577). -/
def State.dictStages (w : Writer) (m : List Byte) (items : List (Nat × List Byte)) (g : Option Group) (s : State) : State :=
  let objs := items.map Prod.fst
  let group := field m 4 1
  match g.filter fun x => x.ident == group with
  | none => s.sendBack w m (response m group 0x22 (codeItems objs (objs.map fun _ => 0x22)))
  | some x =>
    let d := s.stageAll (s.roleOf w) items x
    (s.modSession w.sess.val fun y => { y with group := some d.2 }).sendBack w m
      (response m group (firstNotDone d.1) (codeItems objs d.1))

/-- GROUP_OPEN (R577). -/
def State.groupOpens (w : Writer) (m : List Byte) (x : Session) (s : State) : State :=
  match x.group with
  | some _ => s.sendBack w m (response m (field m 4 1) 0x10 [])
  | none =>
    (s.modSession x.num fun y =>
      { y with group := some ⟨x.nextGroup, [], s.ticks⟩, nextGroup := nextIdent x.nextGroup }).sendBack w m
        (response m x.nextGroup 0 [])

/-- GROUP_COMMIT (R574, R577). -/
def State.groupCommits (w : Writer) (c : CommitIn) (m : List Byte) (x : Session) (s : State) : State :=
  match x.group.filter fun g => g.ident == field m 4 1 with
  | none => s.sendBack w m (response m (field m 4 1) 0x22 [])
  | some g => (s.modSession x.num fun y => { y with group := none }).dictCommit w c m g.writes

/-- GROUP_ABORT (R577). -/
def State.groupAborts (w : Writer) (m : List Byte) (x : Session) (s : State) : State :=
  match x.group.filter fun g => g.ident == field m 4 1 with
  | none => s.sendBack w m (response m (field m 4 1) 0x22 [])
  | some g =>
    ((s.modSession x.num fun y => { y with group := none }).groupDropped x.port x.num 2 g).sendBack w m
      (response m (field m 4 1) 0 [])

/-- A malformed request (R588). -/
def State.dictMalformed (w : Writer) (m : List Byte) (s : State) : State :=
  ((s.count 0x104005).recordSince (w.port.val * 16 + w.sess.val) 0x1063 1 [.u8 w.port.val, .u8 w.sess.val]).sendBack w m
    (response m 0 0x21 [])

/-- A request that is no repetition. -/
def State.request (w : Writer) (c : CommitIn) (m : List Byte) (x : Session) (s : State) : State :=
  match askOf m with
  | .read objs => s.dictReads w m objs
  | .write items =>
    if field m 4 1 = 0 then s.dictCommit w c m (s.boundAll [] items) else s.dictStages w m items x.group
  | .groupOpen => s.groupOpens w m x
  | .groupCommit => s.groupCommits w c m x
  | .groupAbort => s.groupAborts w m x
  | .malformed => s.dictMalformed w m

/-- A message arrives in a session (R585, R589). -/
def State.dictMessage (w : Writer) (c : CommitIn) (m : List Byte) (s : State) : State :=
  match (s.sessionOf w.sess.val).filter fun x => x.port == w.port.val with
  | none => s
  | some x =>
    let t := s.modSession x.num fun y => { y with since := s.ticks }
    match x.last.filter fun e => e.1 == field m 2 2 && decide (4 ≤ m.length) with
    | some e => (t.sendDtls w e.2).count 0x104006
    | none => t.request w c m x

/-! ### Handshakes (R583, R584, R692, R694) -/

/-- The role of an organizationalUnitName (R692). -/
def unitRole (name : List Byte) : Option Nat :=
  if name = strBytes "INTEGRATOR" then some 2
  else if name = strBytes "OPERATOR" then some 1
  else if name = strBytes "OBSERVER" then some 0
  else none

/-- The outcome of a handshake: the role, or the cause of its failure (0 the certificate, 1 its name, 2 denied, 3 its
validity). -/
def State.handshake (x : HandshakeIn) (s : State) : Nat ⊕ Nat :=
  if s.sec.owner = [] then
    if x.wellFormed then .inl (if (s.power.mode == .boot || s.power.mode == .maintain) && s.sec.tamper then 3 else 0)
    else .inr 0
  else
    let owner := certOctets x.cert == certOctets s.sec.owner
    if x.wellFormed = false ∨ (owner || x.signed) = false then .inr 0
    else match if owner then some 3 else unitRole x.unit with
      | none => .inr 1
      | some role =>
        if s.denied x.cert then .inr 2
        else if s.time.state ≠ .free ∧ (FT.lt s.now x.notBefore || FT.lt x.notAfter s.now) = true then .inr 3
        else .inl role

/-- A handshake ends. -/
def State.handshakeEnds (port : Nat) (x : HandshakeIn) (s : State) : State :=
  match s.handshake x with
  | .inr cause =>
    ((s.count 0x125001).recordSince port 0xE002 1 [.u8 port, .u8 cause]).sendAlert port 0
  | .inl role =>
    match ((List.range 8).map (· + 1)).find? fun n => (s.sessionOf n).isNone with
    | none => (s.sendAlert port 0).count 0x104009
    | some n =>
      { s with dict.sessions := s.dict.sessions ++ [⟨n, port, role, x.onRole, none, none, 1, s.ticks⟩] }

/-! ### CAN FD transfers (R590 to R592) -/

/-- The writer on a CAN port. -/
def canWriter (c : Nat) : Writer := if c = 0 then ⟨0, 9⟩ else ⟨1, 10⟩

/-- The smallest length of a CAN FD frame that covers so many octets (R590). -/
def canLength (n : Nat) : Nat := ([0, 1, 2, 3, 4, 5, 6, 7, 8, 12, 16, 20, 24, 32, 48, 64].find? fun x => decide (n ≤ x)).getD 64

/-- Octets filled up with zeros to the length of a CAN FD frame (R13, R590). -/
def canPadded (m : List Byte) : List Byte := m ++ zeros (canLength m.length - m.length)

/-- A response on 0x580 + n (R590). -/
def State.canReply (c : Nat) (m : List Byte) (s : State) : State := s.canSend c (0x580 + (s.canPort c).node) (canPadded m)

/-- A response that a repeated toggle asks for again. -/
def State.canAnswer (c : Nat) (m : List Byte) (x : CanXfer) (s : State) : State :=
  (s.modCanDict c fun d => { d with xfer := some { x with answer := m, since := s.ticks } }).canReply c m

/-- Is a transfer still open? -/
def CanXfer.isOpen (x : CanXfer) : Bool := if x.write then decide (x.data.length < x.size) else !x.data.isEmpty

/-- The open transfer ends without effect (R592). -/
def State.xferEnds (c : Nat) (s : State) : State :=
  let t := s.modCanDict c fun d => { d with xfer := none }
  if (s.canDict c).xfer.any CanXfer.isOpen then t.count 0x104008 else t

/-- INDEX and SUBINDEX as octets. -/
def objOctets (o : Nat) : List Byte := leBytes 2 (o / 256) ++ [byte o]

/-- The object that octets 1–3 of a frame name. -/
def canObj (m : List Byte) : Nat := objOf (field m 1 2) (field m 3 1)

/-- READ (R590, R591). -/
def State.canReads (c : Nat) (m : List Byte) (s : State) : State :=
  let s := s.xferEnds c
  let o := canObj m
  if m.length < 4 then s.canReply c ([0x81#8] ++ objOctets o ++ [0x21#8, 0#8] ++ leBytes 2 0)
  else
    let d := s.readItem (s.roleOf (canWriter c)) o
    let r := [0x81#8] ++ objOctets o ++ [byte d.1, 0#8] ++ leBytes 2 d.2.1.length ++ d.2.1.take 56
    if d.2.1.length ≤ 56 then d.2.2.canReply c r
    else d.2.2.canAnswer c r ⟨false, o, 0, d.2.1.length, d.2.1.drop 56, 0, [], s.ticks⟩

/-- A WRITE whose last octet has arrived (R591, R592): a commit, or a write staged in the port's group. -/
def State.canWritten (c : Nat) (i : CommitIn) (x : CanXfer) (s : State) : State :=
  let w := canWriter c
  let s := s.modCanDict c fun d => { d with wrote := s.ticks }
  let reply := fun (code : Nat) (s : State) => s.canAnswer c ([0x82#8] ++ objOctets x.obj ++ [byte code]) x
  if x.group = 0 then
    let l := [s.bound [] x.obj x.data]
    let v := s.commitCheck w (s.roleOf w) i l
    (reply (commitResult v.codes) s).commitEnd w i l v
  else
    match (s.canDict c).group.filter fun g => g.ident == x.group with
    | none => reply 0x22 s
    | some g =>
      let d := s.stageWrite (s.roleOf w) x.obj x.data g
      reply d.1 (s.modCanDict c fun y => { y with group := some d.2 })

/-- WRITE (R590, R591). -/
def State.canWrites (c : Nat) (i : CommitIn) (m : List Byte) (s : State) : State :=
  let s := (s.xferEnds c).modCanDict c fun d => { d with wrote := s.ticks }
  let o := canObj m
  let size := field m 6 2
  if m.length < 8 + min size 56 ∨ 1024 < size then s.canReply c ([0x82#8] ++ objOctets o ++ [0x21#8])
  else
    let x : CanXfer := ⟨true, o, field m 4 1, size, (m.drop 8).take (min size 56), 0, [], s.ticks⟩
    if size ≤ 56 then s.canWritten c i x else s.canAnswer c [0x83#8, 0#8] x

/-- A frame that belongs to no transfer, or breaks its own, is answered with ABORT. -/
def State.canAborted (c o : Nat) (s : State) : State :=
  (s.xferEnds c).canReply c ([0xFF#8] ++ objOctets o ++ [0x21#8])

/-- SEGMENT_DOWN (R591). -/
def State.segmentDowns (c : Nat) (i : CommitIn) (m : List Byte) (s : State) : State :=
  match (s.canDict c).xfer.filter fun x => x.write with
  | none => s.canAborted c 0
  | some x =>
    let len := field m 2 2
    if field m 1 1 % 2 ≠ x.toggle then s.canAnswer c x.answer x
    else if len < 1 ∨ 60 < len ∨ m.length < 4 + len ∨ x.size < x.data.length + len then s.canAborted c x.obj
    else
      let y : CanXfer := { x with data := x.data ++ (m.drop 4).take len, toggle := 1 - x.toggle }
      if y.data.length = y.size then s.canWritten c i y else s.canAnswer c [0x83#8, byte y.toggle] y

/-- SEGMENT_UP_REQ (R591). -/
def State.segmentUps (c : Nat) (m : List Byte) (s : State) : State :=
  match (s.canDict c).xfer.filter fun x => !x.write with
  | none => s.canAborted c 0
  | some x =>
    if field m 1 1 % 2 ≠ x.toggle then s.canAnswer c x.answer x
    else if x.data = [] then s.canAborted c x.obj
    else
      let chunk := x.data.take 60
      let last := b2n (decide (x.data.length ≤ 60))
      s.canAnswer c ([0x84#8, byte (x.toggle + 2 * last)] ++ leBytes 2 chunk.length ++ chunk)
        { x with data := x.data.drop 60, toggle := 1 - x.toggle }

/-- GROUP_RESP (R590). -/
def State.groupReply (c op group result place : Nat) (s : State) : State :=
  s.canReply c [0x85#8, byte op, byte group, byte result, byte place]

/-- The place in staged order, from 1, of the first refused write; 0 if none is. -/
def refusedPlace (codes : List Nat) : Nat := ((codes.findIdx? fun k => decide (1 < k)).map (· + 1)).getD 0

/-- GROUP (R577, R590). -/
def State.canGroups (c : Nat) (i : CommitIn) (m : List Byte) (s : State) : State :=
  let w := canWriter c
  let op := field m 1 1
  let d := s.canDict c
  let held := d.group.filter fun g => g.ident == field m 2 1
  let reply := fun (result : Nat) => s.groupReply c op (field m 2 1) result 0
  if m.length < 3 then reply 0x21
  else match op with
    | 1 =>
      if d.group.isSome then reply 0x10
      else (s.modCanDict c fun d =>
        { d with group := some ⟨d.nextGroup, [], s.ticks⟩, nextGroup := nextIdent d.nextGroup }).groupReply c 1 d.nextGroup 0 0
    | 2 =>
      match held with
      | none => reply 0x22
      | some g =>
        let t := s.modCanDict c fun d => { d with group := none }
        let v := t.commitCheck w (t.roleOf w) i g.writes
        (t.groupReply c 2 g.ident (commitResult v.codes) (refusedPlace v.codes)).commitEnd w i g.writes v
    | 3 =>
      match held with
      | none => reply 0x22
      | some g =>
        ((s.modCanDict c fun d => { d with group := none }).groupDropped c (9 + c) 2 g).groupReply c 3 g.ident 0 0
    | _ => reply 0x20

/-- Is CAN port `c` on its bus? -/
def State.canOn (c : Nat) (s : State) : Bool := (s.canPort c).state == 1 || (s.canPort c).state == 2

/-- A request frame on 0x600 + n (R590). -/
def State.canRequest (c : Nat) (i : CommitIn) (m : List Byte) (s : State) : State :=
  if s.canOn c then
    match field m 0 1 with
    | 0x01 => s.canReads c m
    | 0x02 => s.canWrites c i m
    | 0x03 => s.segmentDowns c i m
    | 0x04 => s.segmentUps c m
    | 0x05 => s.canGroups c i m
    | 0x7F => s.xferEnds c
    | _ => s.canReply c ([0xFF#8] ++ objOctets 0 ++ [0x21#8])
  else s

/-- A frame meets the receive buffer (R436): taken with what it asks, or dropped. -/
def State.canBuffered (c taken : Nat) (f : State → State) (s : State) : State :=
  let held := (s.canPort c).rx - taken
  if held < 32 then f ((s.modCan c fun x => { x with rx := held + 1 }).countCan c 1)
  else (s.modCan c fun x => { x with rx := held }).countCan c 7

/-- A frame as a classical one; one of more than 8 octets stays an FD frame (DESIGN CHOICE, assumption 11: no classical frame
holds it). -/
def Out.classically (x : Out) : Out :=
  match x with
  | .can p i m => if m.length ≤ 8 then .canClassical p i m else x
  | _ => x

/-- A classical request is answered with classical frames (R434). -/
def State.answeredAs (classical : Bool) (f : State → State) (s : State) : State :=
  let t := f s
  if classical then { t with out := (t.out.take (t.out.length - s.out.length)).map Out.classically ++ s.out } else t

/-- A frame arrives (R434 to R436). -/
def State.canArrives (c ident : Nat) (m : List Byte) (f : CanIn) (i : CommitIn) (s : State) : State :=
  let n := (s.canPort c).node
  if !s.canOn c || f.remote then s
  else if f.extended then s.countCan c 3
  else if ident = 1 then (s.countCan c 1).stopCommand 1 none m
  else if ident = 0x600 + n then (s.canBuffered c f.taken (State.answeredAs f.classical (State.canRequest c i m)))
  else if ident = 0x580 + n then s.canBuffered c f.taken id
  else s.countCan c 3

/-! ### The commands -/

/-- DICT_READ (R587). -/
def execDictRead (w : Writer) (msg : List Byte) (x : CommitIn) (s : State) : Host.Outcome State Fault Refusal :=
  .next (s.dictMessage w x msg)

/-- DICT_WRITE (R572). -/
def execDictWrite (w : Writer) (msg : List Byte) (x : CommitIn) (s : State) : Host.Outcome State Fault Refusal :=
  .next (s.dictMessage w x msg)

/-- GROUP_OPEN (R577). -/
def execGroupOpen (w : Writer) (msg : List Byte) (x : CommitIn) (s : State) : Host.Outcome State Fault Refusal :=
  .next (s.dictMessage w x msg)

/-- GROUP_COMMIT (R574). -/
def execGroupCommit (w : Writer) (msg : List Byte) (x : CommitIn) (s : State) : Host.Outcome State Fault Refusal :=
  .next (s.dictMessage w x msg)

/-- GROUP_ABORT (R577). -/
def execGroupAbort (w : Writer) (msg : List Byte) (x : CommitIn) (s : State) : Host.Outcome State Fault Refusal :=
  .next (s.dictMessage w x msg)

/-- Does a command end or commit the group of a writer (R577)? -/
def closesGroup (w : Writer) (i : Instr) : Bool :=
  match i with
  | .groupCommit x _ _ => x == w
  | .groupAbort x _ _ => x == w
  | .canGroup c _ _ => canWriter c.val == w
  | _ => false

/-- A group's 60 s have passed (R577, R79, R80): of a session, or of a CAN port. -/
def State.groupExpires (w : Writer) (s : State) : State :=
  let late := fun (g : Group) => s.timedOut g.opened (secTicks 60) (closesGroup w)
  if w.port.val < 2 then
    match (s.canDict w.port.val).group.filter late with
    | none => s
    | some g => (s.modCanDict w.port.val fun d => { d with group := none }).groupDropped w.port.val w.session 0 g
  else
    match ((s.sessionOf w.sess.val).bind fun x => x.group).filter late with
    | none => s
    | some g => (s.modSession w.sess.val fun y => { y with group := none }).groupDropped w.port.val w.sess.val 0 g

/-- Does a command carry a message of session `n` (R584)? -/
def ofSession (n : Nat) (i : Instr) : Bool :=
  let own := fun (w : Writer) => decide (2 ≤ w.port.val) && w.sess.val == n
  match i with
  | .dictRead w _ _ => own w
  | .dictWrite w _ _ => own w
  | .groupOpen w _ _ => own w
  | .groupCommit w _ _ => own w
  | .groupAbort w _ _ => own w
  | _ => false

/-- A session that has carried no message for 0x1021 ends (R584, R79, R80). -/
def State.sessionIdle (n : Nat) (s : State) : State :=
  match s.sessionOf n with
  | some x => if s.timedOut x.since (secTicks (s.cfg 0x102100)) (ofSession n) then s.endSession true n else s
  | none => s

/-- Does a command carry a frame of the transfer of CAN port `c` (R592)? -/
def ofTransfer (c : Nat) (i : Instr) : Bool :=
  match i with
  | .canRead x _ _ => x.val == c
  | .canWrite x _ _ => x.val == c
  | .segmentDown x _ _ => x.val == c
  | .segmentUpReq x _ _ => x.val == c
  | .canAbort x _ _ => x.val == c
  | .canFrameReceived x ident _ _ _ => x.val == c && ident / 128 == 12
  | _ => false

/-- A transfer without a frame for 1 s ends (R592, R79, R80). -/
def State.xferIdle (c : Nat) (s : State) : State :=
  match (s.canDict c).xfer with
  | some x => if s.timedOut x.since (secTicks 1) (ofTransfer c) then s.xferEnds c else s
  | none => s

/-- GROUP_TIMEOUT (R577). -/
def execGroupTimeout (w : Writer) (s : State) : Host.Outcome State Fault Refusal := .next (s.groupExpires w)

/-- DTLS_HANDSHAKE (R692, R694): on ETH `port`. -/
def execDtlsHandshake (port : Fin 4) (x : HandshakeIn) (s : State) : Host.Outcome State Fault Refusal :=
  .next (s.handshakeEnds (port.val + 2) x)

/-- SESSION_IDLE_EXPIRED (R584): session `sess + 1`; the unit closes it. -/
def execSessionIdleExpired (sess : Fin 8) (s : State) : Host.Outcome State Fault Refusal :=
  .next (s.sessionIdle (sess.val + 1))

/-- SESSION_CLOSED (R584): the host closes session `sess + 1`. -/
def execSessionClosed (sess : Fin 8) (s : State) : Host.Outcome State Fault Refusal :=
  .next (s.endSession false (sess.val + 1))

/-- CAN_READ (R590). -/
def execCanRead (c : Fin 2) (msg : List Byte) (x : CommitIn) (s : State) : Host.Outcome State Fault Refusal :=
  .next (s.canRequest c.val x msg)

/-- CAN_WRITE (R591). -/
def execCanWrite (c : Fin 2) (msg : List Byte) (x : CommitIn) (s : State) : Host.Outcome State Fault Refusal :=
  .next (s.canRequest c.val x msg)

/-- SEGMENT_DOWN (R591). -/
def execSegmentDown (c : Fin 2) (msg : List Byte) (x : CommitIn) (s : State) : Host.Outcome State Fault Refusal :=
  .next (s.canRequest c.val x msg)

/-- SEGMENT_UP_REQ (R591). -/
def execSegmentUpReq (c : Fin 2) (msg : List Byte) (x : CommitIn) (s : State) : Host.Outcome State Fault Refusal :=
  .next (s.canRequest c.val x msg)

/-- CAN_GROUP (R590). -/
def execCanGroup (c : Fin 2) (msg : List Byte) (x : CommitIn) (s : State) : Host.Outcome State Fault Refusal :=
  .next (s.canRequest c.val x msg)

/-- CAN_ABORT (R592). -/
def execCanAbort (c : Fin 2) (msg : List Byte) (x : CommitIn) (s : State) : Host.Outcome State Fault Refusal :=
  .next (s.canRequest c.val x msg)

/-- CAN_TRANSFER_TIMEOUT (R592). -/
def execCanTransferTimeout (c : Fin 2) (s : State) : Host.Outcome State Fault Refusal := .next (s.xferIdle c.val)

/-- CAN_FRAME_RECEIVED (R434, R435). -/
def execCanFrameReceived (c : Fin 2) (ident : Nat) (msg : List Byte) (f : CanIn) (x : CommitIn) (s : State) :
    Host.Outcome State Fault Refusal :=
  .next (s.canArrives c.val ident msg f x)

end Sys2Proof.Machine
end

