-- ==== Sys2Proof/Machine/Meter.lean ====
section
/-!
DEFINITION. The commands of metering (chapter 16).
-/

namespace Sys2Proof.Machine

/-- TALLY_PULSE (R500): a pulse qualifies on TALk now. -/
def execTallyPulse (k : Fin 32) (s : State) : Host.Outcome State Fault Refusal := .next (s.pulse k.val)

/-- PENDING_PULSE_EXPIRED (R502). -/
def execPendingPulseExpired (k : Fin 32) (s : State) : Host.Outcome State Fault Refusal := .next (s.expirePulses k.val)

/-- ACCOUNT_ENTRY_WRITE (R507): a commit of its own to 0x4401, for the account 0x4400 selects. A refusal by a row of R507
counts. -/
def execAccountEntryWrite (w : Writer) (v : List Byte) (s : State) : Host.Outcome State Fault Refusal :=
  let a := s.cfg 0x440000
  let code := s.accountCode a (s.roleOf w) v
  .next ((when (decide (1 < code) && code != 0x21) (State.count 0x3A5006) s).commandWrite w 0x440100 code
    (State.accountApply a v))

/-- METERING_SAVE_PERIODIC (R510). -/
def execMeteringSavePeriodic (s : State) : Host.Outcome State Fault Refusal := .next (s.meterSave 1)

/-- METERING_SAVE_COMPLETE (R511, R512): `ok` is the verdict of the copy's verification. -/
def execMeteringSaveComplete (ok : Bool) (s : State) : Host.Outcome State Fault Refusal := .next (s.meterSaved ok)

/-- MAINS_ZERO_CROSSING (R514). -/
def execMainsZeroCrossing (i : Fin 2) (s : State) : Host.Outcome State Fault Refusal := .next (s.crossing i.val)

/-- MAINS_LOST (R514). -/
def execMainsLost (i : Fin 2) (s : State) : Host.Outcome State Fault Refusal := .next (s.mainsGone i.val)

end Sys2Proof.Machine
end

