-- ==== Sys2Proof/Machine/Power.lean ====
section
/-!
DEFINITION. The commands of power domains, reset and modes (chapter 22) and of the die temperature (R736).
-/

namespace Sys2Proof.Machine

/-- A supply falls below its reset threshold (R666, R668): the number of 0x1110 less one. VDD_AON takes the staging buffer
with it, and its return is a power-on (R738). -/
def State.supplyFalls (i level : Nat) (s : State) : State :=
  let s : State := { s with power := { s.power with below := s.power.below ||| 2 ^ i, levels := setAt s.power.levels i level } }
  if s.power.mode = .backup then s else s.enterReset (if i = 1 then 1 else 4)

/-- SYS_RESET_L is low (R667). A unit without its main supplies has no reset to enter. -/
def State.resetPinLow (s : State) : State :=
  let s : State := { s with power.resetPin := true }
  if s.power.mode = .backup then s else s.enterReset 2

/-- The main supplies are gone (R663, R674): BACKUP. -/
def State.backupEntered (s : State) : State :=
  let t := s.enterReset 1
  let left := t.power.left.map fun x => (Mode.backup, x.2)
  { t with power := { t.power with mode := .backup, domains := 2, below := 0xFF, left := left }, pair.drive := .off }

/-- VBAT is measured (R678). -/
def State.vbatMeasured (mv : Nat) (s : State) : State :=
  let s : State := { s with power.levels := setAt s.power.levels 8 mv }
  when (decide (mv < 2500)) (fun s => (s.count 0x112005).record 0x1005 [.u16 (min mv 65535)]) s

/-- The die temperatures are read (R736), in 0.1 °C. -/
def State.dieTemps (logic analog : Int) (s : State) : State :=
  let s : State := { s with bg.tempLogic := logic, bg.tempAnalog := analog }
  when (decide (1500 < logic) || decide (1500 < analog)) (State.record 0x1006 [.i32 logic, .i32 analog]) s

/-- SUPPLY_BELOW_THRESHOLD (R666). -/
def execSupplyBelowThreshold (supply : Fin 8) (level : Nat) (s : State) : Host.Outcome State Fault Refusal :=
  .next (s.supplyFalls supply.val level)

/-- SYS_RESET (R667). -/
def execSysReset (s : State) : Host.Outcome State Fault Refusal := .next s.resetPinLow

/-- PAIR_FAULT_RESET (R669): 100 ms after the fault. -/
def execPairFaultReset (s : State) : Host.Outcome State Fault Refusal :=
  .next (if s.power.faultTick.any (fun t => s.passed t 50000000) then s.enterReset 0x20 else s)

/-- RESET_RELEASE (R670). -/
def execResetRelease (x : StartIn) (s : State) : Host.Outcome State Fault Refusal := .next (s.released_ x)

/-- BOOT_REF10_APPEARS (R672). -/
def execBootRef10Appears (x : StartIn) (s : State) : Host.Outcome State Fault Refusal :=
  .next (if s.power.mode = .boot ∧ s.power.bootStep = 2 then s.bootTime x else s)

/-- BOOT_VERIFY_RETRY (R685): 10 s after the latest verification. -/
def execBootVerifyRetry (x : StartIn) (s : State) : Host.Outcome State Fault Refusal :=
  .next (if s.power.mode = .boot ∧ s.power.bootStep = 3 ∧ s.passed s.power.bootTried (secTicks 10) = true then
    s.bootImages x else s)

/-- UNIT_STARTED (R671). -/
def execUnitStarted (s : State) : Host.Outcome State Fault Refusal := .next s.unitStarts

/-- MODE_REQUEST (R675). -/
def execModeRequest (w : Writer) (v : List Byte) (s : State) : Host.Outcome State Fault Refusal :=
  let code := s.modeCheck (s.roleOf w) v
  .next ((s.requestCounted code).commandWrite w 0x110100 code (State.modeAsked v))

/-- MODE_CHANGED (R676). -/
def execModeChanged (s : State) : Host.Outcome State Fault Refusal := .next s.modeNow

/-- RESET_COMMAND (R677). The answer leaves before the reset. -/
def execResetCommand (w : Writer) (saved : Bool) (s : State) : Host.Outcome State Fault Refusal :=
  let code := s.resetCheck (s.roleOf w) [1#8]
  let t := (s.requestCounted code).answer w 0x110300 code
  .next (if code = 1 then t.resetAct [1#8] saved else t)

/-- SHUTDOWN_COMMAND (R677). -/
def execShutdownCommand (w : Writer) (saved : Bool) (s : State) : Host.Outcome State Fault Refusal :=
  let code := s.resetCheck (s.roleOf w) [2#8]
  let t := (s.requestCounted code).answer w 0x110300 code
  .next (if code = 1 then t.resetAct [2#8] saved else t)

/-- BACKUP_ENTRY (R663). -/
def execBackupEntry (s : State) : Host.Outcome State Fault Refusal := .next s.backupEntered

/-- VBAT_LOW (R678). -/
def execVbatLow (mv : Nat) (s : State) : Host.Outcome State Fault Refusal := .next (s.vbatMeasured mv)

/-- DIE_TEMP_HIGH (R736). -/
def execDieTempHigh (logic analog : Int) (s : State) : Host.Outcome State Fault Refusal := .next (s.dieTemps logic analog)

end Sys2Proof.Machine
end

