-- ==== Sys2Proof/Machine/Pps.lean ====
section
/-!
DEFINITION. The time-pulse message and PPS_OUT (R167 to R177).
-/

namespace Sys2Proof.Machine

/-- Is there no pulse at D (R170, R171)? -/
def State.pulseSuppressed (s : State) : Bool :=
  s.cfg 0x247000 == 0 || (s.cfg 0x247000 == 2 && s.time.state == .free) || s.ppsHeld

/-- The tick at which comparator 1 will fire (R173: the increment does not change): the first at or after D − 2 ns. -/
def State.predictedTick (d : FT) (s : State) : FT :=
  let terms := s.time.nextTerms.getD (s.time.freq, s.time.phase)
  let inc := terms.1 + terms.2
  let gap := FT.minus d s.now - nsUnits 2
  if gap ≤ 0 ∨ inc ≤ 0 then s.now else FT.addUnits s.now (-((-gap) / inc) * inc)

/-- Units of 2^-32 ns as femtoseconds, rounded toward zero. -/
def unitsToFs (u : Int) : Int := Int.tdiv (u * 1000000) 4294967296

/-- Does a step or set apply at S (R176)? -/
def State.stepAtPulse (s : State) : Bool :=
  s.time.pendingSet.isSome || s.time.pending.any fun p => p.sec == s.pulseSecond

/-- FLAGS (R176). -/
def State.pulseFlags (suppressed : Bool) (s : State) : Nat :=
  b2n suppressed + 2 * b2n (s.time.state == .holdover) + 4 * b2n (s.time.remaining != 0) + 8 * b2n s.stepAtPulse +
    16 * b2n s.gnss.pps.surprise + 32 * b2n s.time.validGnss.isSome + 64 * b2n s.time.selected.isSome

/-- SOURCE_OFFSET (R175). -/
def State.sourceOffset (s : State) : Int :=
  match s.time.selected with
  | some x => -unitsToPs (s.delta x)
  | none => 0

/-- TIME_UNC (R175). -/
def State.timeUnc (unc : Nat) (s : State) : Nat :=
  if s.time.state = .holdover ∨ s.time.state = .free then 0xFFFF else min 0xFFFF unc

/-- The 48 octets of the message (R175). -/
def State.pulseMessage (unc : Nat) (suppressed : Bool) (d : FT) (r : Int) (s : State) : List Byte :=
  leBytes 4 s.gnss.pps.seq ++ [0x01#8, byte s.time.state.code, byte (s.pulseFlags suppressed), byte (fineCode r).toNat] ++
    FT.bytes d ++ leBytes 4 (ofSigned 32 (unitsToFs (quantError r))) ++ leBytes 4 (ofSigned 32 (unitsToFs s.gnss.pps.prevQ)) ++
    leBytes 8 (ofSigned 64 s.sourceOffset) ++ leBytes 4 s.time.estimate ++ leBytes 2 (s.timeUnc unc) ++
    [byte s.gnss.used, 0#8]

/-- D − 4 ms (R168, R174): the message is stored and sent, comparator 1 armed unless the pulse is suppressed. -/
def State.composePulse (unc : Nat) (s : State) : State :=
  let d := s.pulseTime
  let off := s.pulseSuppressed
  let r := pulseRemainder d (s.predictedTick d)
  let msg := s.pulseMessage unc off d r
  let t := ((s.setShown 0x247400 (.oct msg)).sendSinks 4351 0x247500 4 msg).countN 0x24800F (s.sinksInUse 0x247500 4)
  let t : State := { t with gnss.pps := { t.gnss.pps with
    due := if off then none else some d, predicted := quantError r, prevQ := 0, width := s.cfg 0x247200,
    falling := s.cfg 0x247300 == 1, seq := (t.gnss.pps.seq + 1) % 2 ^ 32, announced := s.stepAtPulse, surprise := false } }
  if off then t.count 0x24800E else t.armOwner 2 (FT.addUnits d (-nsUnits 2)) 0

/-- TIME_PULSE_MESSAGE (R174); `unc` is the 1-sigma uncertainty in 0.1 ns. -/
def execTimePulseMessage (unc : Nat) (s : State) : Host.Outcome State Fault Refusal := .next (s.composePulse unc)

/-- PPS_PULSE (R168): comparator 1 fires. -/
def execPpsPulse (s : State) : Host.Outcome State Fault Refusal := .next (s.comparatorFires 1)

end Sys2Proof.Machine
end

