-- ==== Sys2Proof/Machine/Security.lean ====
section
/-!
DEFINITION. The commands of security and physical access (chapter 23).
-/

namespace Sys2Proof.Machine

/-- What a commit of chapter 23 needs of the world outside: the verdict on its change record entry. -/
def CommitIn.of (verified : Bool) : CommitIn := ⟨verified, false, true, true⟩

/-- OWNER_CREDENTIAL (R693). -/
def execOwnerCredential (w : Writer) (v : List Byte) (verified : Bool) (s : State) : Host.Outcome State Fault Refusal :=
  .next (s.writeRow w 0x121000 v (CommitIn.of verified))

/-- OWNER_RECOVERY (R695). -/
def execOwnerRecovery (w : Writer) (v : List Byte) (s : State) : Host.Outcome State Fault Refusal :=
  .next (s.writeRow w 0x123800 v (CommitIn.of true))

/-- TAMPER (R697). -/
def execTamper (asserted inBackup : Bool) (s : State) : Host.Outcome State Fault Refusal :=
  .next (s.tamperMoves asserted inBackup)

/-- A read that is a row of its own. -/
def State.answerRead (w : Writer) (o : Nat) (s : State) : State :=
  let d := s.readItem (s.roleOf w) o
  d.2.2.emit (.value w.port.val w.sess.val o d.1 d.2.1)

/-- DEBUG_CHALLENGE (R698). -/
def execDebugChallenge (w : Writer) (s : State) : Host.Outcome State Fault Refusal := .next (s.answerRead w 0x123000)

/-- DEBUG_RESPONSE (R698). -/
def execDebugResponse (w : Writer) (v : List Byte) (s : State) : Host.Outcome State Fault Refusal :=
  .next (s.writeRow w 0x123100 v (CommitIn.of true))

end Sys2Proof.Machine
end

