-- ==== Sys2Proof/Machine/Update.lean ====
section
/-!
DEFINITION. The commands of field update (chapter 20).
-/

namespace Sys2Proof.Machine

/-- UPDATE_OPEN (R624). -/
def execUpdateOpen (w : Writer) (v : List Byte) (s : State) : Host.Outcome State Fault Refusal :=
  let code := s.openCheck (s.roleOf w) v
  .next ((s.openRefused w.port.val w.session code).commandWrite w 0x3F0000 code (State.openSession w.port.val w.session v))

/-- UPDATE_DATA (R625). -/
def execUpdateData (w : Writer) (v : List Byte) (s : State) : Host.Outcome State Fault Refusal :=
  .next (s.commandWrite w 0x3F0100 (s.pieceCheck (s.roleOf w) w.port.val w.session v) (State.storePiece v))

/-- UPDATE_FINISH (R627). -/
def execUpdateFinish (w : Writer) (v : List Byte) (s : State) : Host.Outcome State Fault Refusal :=
  .next (s.commandWrite w 0x3F0200 (s.finishCheck (s.roleOf w) w.port.val w.session v)
    fun s => { s with upd.state := .verifying })

/-- UPDATE_ABORT (R629). -/
def execUpdateAbort (w : Writer) (v : List Byte) (s : State) : Host.Outcome State Fault Refusal :=
  .next (s.commandWrite w 0x3F0300 (s.abortCheck (s.roleOf w) w.port.val w.session v) State.abortUpdate)

/-- UPDATE_SESSION_LOST (R626): no piece for 0x3F10. -/
def execUpdateSessionLost (s : State) : Host.Outcome State Fault Refusal := .next s.sessionIdles

/-- IMAGE_VERIFIED (R627). -/
def execImageVerified (s : State) : Host.Outcome State Fault Refusal := .next s.verified

/-- DARN_APPLY_COMPLETE (R628). -/
def execDarnApplyComplete (s : State) : Host.Outcome State Fault Refusal := .next s.applied

/-- UPDATE_ACTIVATE (R631): a write of 1. The answer leaves before a restart. -/
def execUpdateActivate (w : Writer) (migrated saved : Bool) (s : State) : Host.Outcome State Fault Refusal :=
  let code := s.activateCheck (s.roleOf w) [1#8]
  let t := s.answer w 0x3F0400 code
  .next (if code = 1 then t.activateAct [1#8] migrated saved else t)

/-- UPDATE_ACTIVATE_STAGED (R631): a write of 2. -/
def execUpdateActivateStaged (w : Writer) (saved : Bool) (s : State) : Host.Outcome State Fault Refusal :=
  let code := s.activateCheck (s.roleOf w) [2#8]
  let t := s.answer w 0x3F0400 code
  .next (if code = 1 then t.activateAct [2#8] true saved else t)

/-- CLUSTER_HANDOVER (R632). -/
def execClusterHandover (s : State) : Host.Outcome State Fault Refusal := .next s.clusterStep

/-- UPDATE_CONFIRM (R635). -/
def execUpdateConfirm (w : Writer) (v : List Byte) (s : State) : Host.Outcome State Fault Refusal :=
  .next (s.commandWrite w 0x3F0500 (s.trialCheck (s.roleOf w) 0x3F0500 v) fun s => { s with upd.confirmed := true })

/-- UPDATE_FALLBACK (R636). -/
def execUpdateFallback (w : Writer) (v : List Byte) (saved : Bool) (s : State) : Host.Outcome State Fault Refusal :=
  let code := s.trialCheck (s.roleOf w) 0x3F0600 v
  let t := s.answer w 0x3F0600 code
  .next (if code = 0 then t.fallBack 1 saved else t)

/-- HEALTH_CONFIRMATION (R634). -/
def execHealthConfirmation (s : State) : Host.Outcome State Fault Refusal := .next (when s.healthy State.confirm s)

/-- Is a command the confirmation that the health timer meets (R635)? -/
def confirmsHealth (i : Instr) : Bool :=
  match i with
  | .healthConfirmation => true
  | _ => false

/-- HEALTH_TIMEOUT (R635, R636). -/
def execHealthTimeout (saved : Bool) (s : State) : Host.Outcome State Fault Refusal :=
  .next (if s.upd.state = .trial ∧ s.timedOut s.upd.trialStart (secTicks (s.cfg 0x3F0C00)) confirmsHealth = true then
    s.fallBack 0 saved else s)

end Sys2Proof.Machine
end

