-- ==== Sys2Proof/Machine/Dispatch.lean ====
section
/-!
DEFINITION. The dispatch: one arm per command, one direct call of its meaning.
-/

namespace Sys2Proof.Machine

/-- The effect of a command on everything but the queue. -/
def exec (i : Instr) (s : State) : Host.Outcome State Fault Refusal :=
  match i with
  | .comparatorFire k => Sys2Proof.Machine.execComparatorFire k s
  | .tickIncrementUpdate freq phase => Sys2Proof.Machine.execTickIncrementUpdate freq phase s
  | .timeStateEvaluation => Sys2Proof.Machine.execTimeStateEvaluation s
  | .holdoverEstimateUpdate => Sys2Proof.Machine.execHoldoverEstimateUpdate s
  | .timeStepped => Sys2Proof.Machine.execTimeStepped s
  | .timeSet w v => Sys2Proof.Machine.execTimeSet w v s
  | .timeSetApply => Sys2Proof.Machine.execTimeSetApply s
  | .initialAlignment => Sys2Proof.Machine.execInitialAlignment s
  | .discontinuityPrepare => Sys2Proof.Machine.execDiscontinuityPrepare s
  | .ref10Lost clock => Sys2Proof.Machine.execRef10Lost clock s
  | .bridgeBlockReceived c b => Sys2Proof.Machine.execBridgeBlockReceived c b s
  | .antClassify port current => Sys2Proof.Machine.execAntClassify port current s
  | .antSwitchRetry port => Sys2Proof.Machine.execAntSwitchRetry port s
  | .trapPlacement c bins => Sys2Proof.Machine.execTrapPlacement c bins s
  | .trapReleased c t => Sys2Proof.Machine.execTrapReleased c t s
  | .adaptEnd c => Sys2Proof.Machine.execAdaptEnd c s
  | .jamIndicatorEval peaks => Sys2Proof.Machine.execJamIndicatorEval peaks s
  | .settleElapsed c => Sys2Proof.Machine.execSettleElapsed c s
  | .episodeLimitExpired c => Sys2Proof.Machine.execEpisodeLimitExpired c s
  | .episodeRetryExpired c => Sys2Proof.Machine.execEpisodeRetryExpired c s
  | .recoveryStart w v => Sys2Proof.Machine.execRecoveryStart w v s
  | .bankMapChanged sky => Sys2Proof.Machine.execBankMapChanged sky s
  | .correlatorDump ch taps template hi => Sys2Proof.Machine.execCorrelatorDump ch taps template hi s
  | .ncoUpdate ch carrier code shift late => Sys2Proof.Machine.execNcoUpdate ch carrier code shift late s
  | .acqRequest ch again => Sys2Proof.Machine.execAcqRequest ch again s
  | .acqSearchComplete engine ratio bin phase => Sys2Proof.Machine.execAcqSearchComplete engine ratio bin phase s
  | .trackLoopUpdate ch code sync late offM => Sys2Proof.Machine.execTrackLoopUpdate ch code sync late offM s
  | .pullInTimeout ch => Sys2Proof.Machine.execPullInTimeout ch s
  | .reacquireTimeout ch => Sys2Proof.Machine.execReacquireTimeout ch s
  | .channelAllocation sky => Sys2Proof.Machine.execChannelAllocation sky s
  | .measurementEpoch past since => Sys2Proof.Machine.execMeasurementEpoch past since s
  | .navUnitDecoded ch u => Sys2Proof.Machine.execNavUnitDecoded ch u s
  | .integrityChecks => Sys2Proof.Machine.execIntegrityChecks s
  | .checksLate => Sys2Proof.Machine.execChecksLate s
  | .multipathEval => Sys2Proof.Machine.execMultipathEval s
  | .timePulseMessage unc => Sys2Proof.Machine.execTimePulseMessage unc s
  | .ppsPulse => Sys2Proof.Machine.execPpsPulse s
  | .surveyUpdate => Sys2Proof.Machine.execSurveyUpdate s
  | .posCommit w v peerSpent => Sys2Proof.Machine.execPosCommit w v peerSpent s
  | .refPositionCommitted verified => Sys2Proof.Machine.execRefPositionCommitted verified s
  | .rtcmCompose => Sys2Proof.Machine.execRtcmCompose s
  | .solveEpoch k => Sys2Proof.Machine.execSolveEpoch k s
  | .missingEpoch k => Sys2Proof.Machine.execMissingEpoch k s
  | .filterTimeout k => Sys2Proof.Machine.execFilterTimeout k s
  | .ingestInput => Sys2Proof.Machine.execIngestInput s
  | .sortInput => Sys2Proof.Machine.execSortInput s
  | .solveDeadline k => Sys2Proof.Machine.execSolveDeadline k s
  | .snapshot => Sys2Proof.Machine.execSnapshot s
  | .reserveCheckComplete => Sys2Proof.Machine.execReserveCheckComplete s
  | .reserveDeadline => Sys2Proof.Machine.execReserveDeadline s
  | .allotRun => Sys2Proof.Machine.execAllotRun s
  | .allotDeadline => Sys2Proof.Machine.execAllotDeadline s
  | .composeDeadline late lateMoves => Sys2Proof.Machine.execComposeDeadline late lateMoves s
  | .launchRelease => Sys2Proof.Machine.execLaunchRelease s
  | .slotLoad busy => Sys2Proof.Machine.execSlotLoad busy s
  | .nodeEntryWrite w v => Sys2Proof.Machine.execNodeEntryWrite w v s
  | .segEntryWrite w v => Sys2Proof.Machine.execSegEntryWrite w v s
  | .hostReservationCreate w rest => Sys2Proof.Machine.execHostReservationCreate w rest s
  | .hostReservationCancel w rest => Sys2Proof.Machine.execHostReservationCancel w rest s
  | .releaseMachineHolds w rest => Sys2Proof.Machine.execReleaseMachineHolds w rest s
  | .releaseEntryHold w rest => Sys2Proof.Machine.execReleaseEntryHold w rest s
  | .taskEntryWrite w v => Sys2Proof.Machine.execTaskEntryWrite w v s
  | .taskCancel w rest => Sys2Proof.Machine.execTaskCancel w rest s
  | .taskRequeue w rest => Sys2Proof.Machine.execTaskRequeue w rest s
  | .taskClear w rest => Sys2Proof.Machine.execTaskClear w rest s
  | .slackClear w v => Sys2Proof.Machine.execSlackClear w v s
  | .operandPost template key cls last index spec => Sys2Proof.Machine.execOperandPost template key cls last index spec s
  | .take core => Sys2Proof.Machine.execTake core s
  | .instanceExpired template key => Sys2Proof.Machine.execInstanceExpired template key s
  | .operationPromoted template key => Sys2Proof.Machine.execOperationPromoted template key s
  | .coreWatchdogExpired core => Sys2Proof.Machine.execCoreWatchdogExpired core s
  | .traceDatagram => Sys2Proof.Machine.execTraceDatagram s
  | .storeHighClear w v => Sys2Proof.Machine.execStoreHighClear w v s
  | .upFrameReceived port psdu age rssi => Sys2Proof.Machine.execUpFrameReceived port psdu age rssi s
  | .joinReq port psdu age rssi => Sys2Proof.Machine.execJoinReq port psdu age rssi s
  | .receiveDeadline port => Sys2Proof.Machine.execReceiveDeadline port s
  | .joinAbandoned k => Sys2Proof.Machine.execJoinAbandoned k s
  | .channelExclusionEval => Sys2Proof.Machine.execChannelExclusionEval s
  | .exclusionExpired => Sys2Proof.Machine.execExclusionExpired s
  | .remapApply => Sys2Proof.Machine.execRemapApply s
  | .periodEffective k => Sys2Proof.Machine.execPeriodEffective k s
  | .radioConfigApply => Sys2Proof.Machine.execRadioConfigApply s
  | .radioRegionWrite w v peerSpent verified => Sys2Proof.Machine.execRadioRegionWrite w v peerSpent verified s
  | .stopInputQualified input => Sys2Proof.Machine.execStopInputQualified input s
  | .stopDiscrepancy => Sys2Proof.Machine.execStopDiscrepancy s
  | .stopCommandStop route w msg => Sys2Proof.Machine.execStopCommandStop route w msg s
  | .stopCommandRelease route w msg => Sys2Proof.Machine.execStopCommandRelease route w msg s
  | .stopReleased => Sys2Proof.Machine.execStopReleased s
  | .stopoutFault out read => Sys2Proof.Machine.execStopoutFault out read s
  | .stopoutFaultClear => Sys2Proof.Machine.execStopoutFaultClear s
  | .safeStrobe => Sys2Proof.Machine.execSafeStrobe s
  | .safeAxisDrop n => Sys2Proof.Machine.execSafeAxisDrop n s
  | .ethFrameReceived p f intact taken => Sys2Proof.Machine.execEthFrameReceived p f intact taken s
  | .fragmentTimeout p => Sys2Proof.Machine.execFragmentTimeout p s
  | .linkChanged p rate full cut => Sys2Proof.Machine.execLinkChanged p rate full cut s
  | .gratuitousArp => Sys2Proof.Machine.execGratuitousArp s
  | .arpRetry p hop => Sys2Proof.Machine.execArpRetry p hop s
  | .arpEntryExpired p ip => Sys2Proof.Machine.execArpEntryExpired p ip s
  | .canFrameReceived c ident msg f x => Sys2Proof.Machine.execCanFrameReceived c ident msg f x s
  | .canBusOff c errors detected => Sys2Proof.Machine.execCanBusOff c errors detected s
  | .canBusRecovered c => Sys2Proof.Machine.execCanBusRecovered c s
  | .canStatusFrame c => Sys2Proof.Machine.execCanStatusFrame c s
  | .canReconfigure c => Sys2Proof.Machine.execCanReconfigure c s
  | .ptpSync m => Sys2Proof.Machine.execPtpSync m s
  | .ptpFollowUp m => Sys2Proof.Machine.execPtpFollowUp m s
  | .ptpDelayReq m => Sys2Proof.Machine.execPtpDelayReq m s
  | .ptpDelayResp m => Sys2Proof.Machine.execPtpDelayResp m s
  | .ptpPdelayReq m sent => Sys2Proof.Machine.execPtpPdelayReq m sent s
  | .ptpPdelayResp m => Sys2Proof.Machine.execPtpPdelayResp m s
  | .ptpPdelayRespFollowUp m => Sys2Proof.Machine.execPtpPdelayRespFollowUp m s
  | .ptpAnnounce m => Sys2Proof.Machine.execPtpAnnounce m s
  | .ptpSyncTransmit dom port raw taken => Sys2Proof.Machine.execPtpSyncTransmit dom port raw taken s
  | .announceReceiptTimeout dom port => Sys2Proof.Machine.execAnnounceReceiptTimeout dom port s
  | .ptpDomainEval => Sys2Proof.Machine.execPtpDomainEval s
  | .tsPop w port => Sys2Proof.Machine.execTsPop w port s
  | .tioCaptureEdge k rising => Sys2Proof.Machine.execTioCaptureEdge k rising s
  | .tioCapture w k => Sys2Proof.Machine.execTioCapture w k s
  | .axisTarget w n v => Sys2Proof.Machine.execAxisTarget w n v s
  | .moveStart n => Sys2Proof.Machine.execMoveStart n s
  | .moveEnd n inputs => Sys2Proof.Machine.execMoveEnd n inputs s
  | .gateMoveStart n => Sys2Proof.Machine.execGateMoveStart n s
  | .profileReplan n => Sys2Proof.Machine.execProfileReplan n s
  | .axisStop w n => Sys2Proof.Machine.execAxisStop w n s
  | .axisHome w n => Sys2Proof.Machine.execAxisHome w n s
  | .axisClear w n => Sys2Proof.Machine.execAxisClear w n s
  | .axisHomed n after inputs => Sys2Proof.Machine.execAxisHomed n after inputs s
  | .homingFailed n inputs => Sys2Proof.Machine.execHomingFailed n inputs s
  | .limitReached n positive inputs => Sys2Proof.Machine.execLimitReached n positive inputs s
  | .currentBoosted n load => Sys2Proof.Machine.execCurrentBoosted n load s
  | .stallDetected n => Sys2Proof.Machine.execStallDetected n s
  | .axisStandstill n inputs => Sys2Proof.Machine.execAxisStandstill n inputs s
  | .holdCurrent n => Sys2Proof.Machine.execHoldCurrent n s
  | .runCurrentRestore n => Sys2Proof.Machine.execRunCurrentRestore n s
  | .tallyPulse k => Sys2Proof.Machine.execTallyPulse k s
  | .pendingPulseExpired k => Sys2Proof.Machine.execPendingPulseExpired k s
  | .accountEntryWrite w v => Sys2Proof.Machine.execAccountEntryWrite w v s
  | .meteringSavePeriodic => Sys2Proof.Machine.execMeteringSavePeriodic s
  | .meteringSaveComplete ok => Sys2Proof.Machine.execMeteringSaveComplete ok s
  | .mainsZeroCrossing k => Sys2Proof.Machine.execMainsZeroCrossing k s
  | .mainsLost k => Sys2Proof.Machine.execMainsLost k s
  | .seamReadingChange reading => Sys2Proof.Machine.execSeamReadingChange reading s
  | .seamFault compliance => Sys2Proof.Machine.execSeamFault compliance s
  | .healthTimerExpired => Sys2Proof.Machine.execHealthTimerExpired s
  | .hbBLost => Sys2Proof.Machine.execHbBLost s
  | .hbBRestored => Sys2Proof.Machine.execHbBRestored s
  | .heartbeatASend => Sys2Proof.Machine.execHeartbeatASend s
  | .heartbeatA f => Sys2Proof.Machine.execHeartbeatA f s
  | .hbALost => Sys2Proof.Machine.execHbALost s
  | .akrisLaneLockChange lane locked => Sys2Proof.Machine.execAkrisLaneLockChange lane locked s
  | .helloSend => Sys2Proof.Machine.execHelloSend s
  | .hello f => Sys2Proof.Machine.execHello f s
  | .linkRetransmit => Sys2Proof.Machine.execLinkRetransmit s
  | .logSend => Sys2Proof.Machine.execLogSend s
  | .log f => Sys2Proof.Machine.execLog f s
  | .baseObs f => Sys2Proof.Machine.execBaseObs f s
  | .confirmSend => Sys2Proof.Machine.execConfirmSend s
  | .confirm f => Sys2Proof.Machine.execConfirm f s
  | .digestLate => Sys2Proof.Machine.execDigestLate s
  | .digestForm => Sys2Proof.Machine.execDigestForm s
  | .axis f => Sys2Proof.Machine.execAxis f s
  | .axisReportSend => Sys2Proof.Machine.execAxisReportSend s
  | .logLagExceeded => Sys2Proof.Machine.execLogLagExceeded s
  | .stateRequest f => Sys2Proof.Machine.execStateRequest f s
  | .state f rest => Sys2Proof.Machine.execState f rest s
  | .transferTimeout => Sys2Proof.Machine.execTransferTimeout s
  | .startWaitExpired => Sys2Proof.Machine.execStartWaitExpired s
  | .handoverRequest w v => Sys2Proof.Machine.execHandoverRequest w v s
  | .yieldRequest w v => Sys2Proof.Machine.execYieldRequest w v s
  | .handoverGo f => Sys2Proof.Machine.execHandoverGo f s
  | .handoverAck f => Sys2Proof.Machine.execHandoverAck f s
  | .handoverAbort f => Sys2Proof.Machine.execHandoverAbort f s
  | .handoverInstant => Sys2Proof.Machine.execHandoverInstant s
  | .handoverAbandoned => Sys2Proof.Machine.execHandoverAbandoned s
  | .pairFaultReset => Sys2Proof.Machine.execPairFaultReset s
  | .uncorrectableDataError kind item => Sys2Proof.Machine.execUncorrectableDataError kind item s
  | .unitFault cause part addr => Sys2Proof.Machine.execUnitFault cause part addr s
  | .eccCorrected ddr => Sys2Proof.Machine.execEccCorrected ddr s
  | .dictRead w msg x => Sys2Proof.Machine.execDictRead w msg x s
  | .dictWrite w msg x => Sys2Proof.Machine.execDictWrite w msg x s
  | .groupOpen w msg x => Sys2Proof.Machine.execGroupOpen w msg x s
  | .groupCommit w msg x => Sys2Proof.Machine.execGroupCommit w msg x s
  | .groupAbort w msg x => Sys2Proof.Machine.execGroupAbort w msg x s
  | .groupTimeout w => Sys2Proof.Machine.execGroupTimeout w s
  | .dtlsHandshake port x => Sys2Proof.Machine.execDtlsHandshake port x s
  | .sessionIdleExpired sess => Sys2Proof.Machine.execSessionIdleExpired sess s
  | .canRead c msg x => Sys2Proof.Machine.execCanRead c msg x s
  | .canWrite c msg x => Sys2Proof.Machine.execCanWrite c msg x s
  | .segmentDown c msg x => Sys2Proof.Machine.execSegmentDown c msg x s
  | .segmentUpReq c msg x => Sys2Proof.Machine.execSegmentUpReq c msg x s
  | .canGroup c msg x => Sys2Proof.Machine.execCanGroup c msg x s
  | .canAbort c msg x => Sys2Proof.Machine.execCanAbort c msg x s
  | .canTransferTimeout c => Sys2Proof.Machine.execCanTransferTimeout c s
  | .recorderFlush bad => Sys2Proof.Machine.execRecorderFlush bad s
  | .recordsDropped => Sys2Proof.Machine.execRecordsDropped s
  | .recordsSuppressed code => Sys2Proof.Machine.execRecordsSuppressed code s
  | .recordStreamDatagram => Sys2Proof.Machine.execRecordStreamDatagram s
  | .updateOpen w v => Sys2Proof.Machine.execUpdateOpen w v s
  | .updateData w v => Sys2Proof.Machine.execUpdateData w v s
  | .updateFinish w v => Sys2Proof.Machine.execUpdateFinish w v s
  | .updateAbort w v => Sys2Proof.Machine.execUpdateAbort w v s
  | .updateSessionLost => Sys2Proof.Machine.execUpdateSessionLost s
  | .imageVerified => Sys2Proof.Machine.execImageVerified s
  | .darnApplyComplete => Sys2Proof.Machine.execDarnApplyComplete s
  | .updateActivate w migrated saved => Sys2Proof.Machine.execUpdateActivate w migrated saved s
  | .updateActivateStaged w saved => Sys2Proof.Machine.execUpdateActivateStaged w saved s
  | .clusterHandover => Sys2Proof.Machine.execClusterHandover s
  | .updateConfirm w v => Sys2Proof.Machine.execUpdateConfirm w v s
  | .updateFallback w v saved => Sys2Proof.Machine.execUpdateFallback w v saved s
  | .healthConfirmation => Sys2Proof.Machine.execHealthConfirmation s
  | .healthTimeout saved => Sys2Proof.Machine.execHealthTimeout saved s
  | .rinseBurst ddr fixes bad => Sys2Proof.Machine.execRinseBurst ddr fixes bad s
  | .rinsePassOverdue ddr => Sys2Proof.Machine.execRinsePassOverdue ddr s
  | .calibrationRun a values rejected => Sys2Proof.Machine.execCalibrationRun a values rejected s
  | .oscillatorModelApply temp => Sys2Proof.Machine.execOscillatorModelApply temp s
  | .flashEraseComplete bank sector ok => Sys2Proof.Machine.execFlashEraseComplete bank sector ok s
  | .telemetryFrame logic analog => Sys2Proof.Machine.execTelemetryFrame logic analog s
  | .supplyBelowThreshold supply level => Sys2Proof.Machine.execSupplyBelowThreshold supply level s
  | .sysReset => Sys2Proof.Machine.execSysReset s
  | .resetRelease x => Sys2Proof.Machine.execResetRelease x s
  | .bootRef10Appears x => Sys2Proof.Machine.execBootRef10Appears x s
  | .bootVerifyRetry x => Sys2Proof.Machine.execBootVerifyRetry x s
  | .unitStarted => Sys2Proof.Machine.execUnitStarted s
  | .modeRequest w v => Sys2Proof.Machine.execModeRequest w v s
  | .modeChanged => Sys2Proof.Machine.execModeChanged s
  | .resetCommand w saved => Sys2Proof.Machine.execResetCommand w saved s
  | .shutdownCommand w saved => Sys2Proof.Machine.execShutdownCommand w saved s
  | .backupEntry => Sys2Proof.Machine.execBackupEntry s
  | .vbatLow mv => Sys2Proof.Machine.execVbatLow mv s
  | .dieTempHigh logic analog => Sys2Proof.Machine.execDieTempHigh logic analog s
  | .ownerCredential w v verified => Sys2Proof.Machine.execOwnerCredential w v verified s
  | .ownerRecovery w v => Sys2Proof.Machine.execOwnerRecovery w v s
  | .tamper asserted inBackup => Sys2Proof.Machine.execTamper asserted inBackup s
  | .debugChallenge w => Sys2Proof.Machine.execDebugChallenge w s
  | .debugResponse w v => Sys2Proof.Machine.execDebugResponse w v s
  | .stopInputRunLevel input => Sys2Proof.Machine.execStopInputRunLevel input s
  | .homeSwitchReached n inputs => Sys2Proof.Machine.execHomeSwitchReached n inputs s
  | .ptpAnnounceTransmit dom port => Sys2Proof.Machine.execPtpAnnounceTransmit dom port s
  | .ptpDelayReqTransmit dom port raw taken => Sys2Proof.Machine.execPtpDelayReqTransmit dom port raw taken s
  | .ptpPdelayReqTransmit dom port raw taken => Sys2Proof.Machine.execPtpPdelayReqTransmit dom port raw taken s
  | .sessionClosed sess => Sys2Proof.Machine.execSessionClosed sess s

end Sys2Proof.Machine
end

