-- ==== Sys2Proof/Machine/Step.lean ====
section
/-!
DEFINITION. One step: the command at the front of the queue, or, with no command waiting, one edge of CK_TIME (R54).
-/

namespace Sys2Proof.Machine

/-- The queue holds `l` and everything else is as it was. -/
def State.withQueue (l : List Instr) (s : State) : State := { s with pending := l }

/-- With no command waiting the tick ends: operations made ready on it go to the cores that ask (R333), and the next edge of
CK_TIME comes (R54 to R57; assumption 1), with which an Ethernet port sends what waits for the end of the frame before (R432).
In BACKUP the clock does not run (R678). -/
def State.idle (s : State) : State :=
  if s.power.mode = .backup then s
  else
    let s := s.dispatch
    ({ s with time := s.time.tick } : State).drainPorts

/-- A step takes the command at the front of the queue. -/
def step (s : State) : Host.Outcome State Fault Refusal :=
  match s.pending with
  | [] => .next s.idle
  | c :: l => exec c (s.withQueue l)

/-- The state with the command that a word spells at the front of its queue; unchanged where it spells none. -/
def State.withFetchWord (s : State) (nbits w : Nat) : State :=
  match decodeTableWord nbits w with
  | some c => s.withQueue (c :: s.pending)
  | none => s

end Sys2Proof.Machine
end

