-- ==== Sys2Proof/Machine/Pins.lean ====
section
/-!
DEFINITION. The levels of the output balls (R407, R494, R681, R716 to R718) and what the debug port reaches (R698, R699): views of
the state, which no command changes by itself.
The loop driver SEAM_DRV is `pair.drive`, the output stage `pair.output` and heartbeat B `pair.hbOut`.
-/

namespace Sys2Proof.Machine

/-- The level of an output ball; `pulses`: driven with the pulses of its function (steps, PWM, slots). -/
inductive PinLevel where
  | highZ
  | low
  | high
  | pulses
  deriving DecidableEq, Repr

/-- A driven level. -/
def PinLevel.ofBool (b : Bool) : PinLevel := if b then .high else .low

/-- The rows of R681 that leave the state no say: `some .highZ` without supplies, `some .low` in reset and in OFF. -/
def State.pinsHeld (s : State) : Option PinLevel :=
  if s.power.mode = .backup then some .highZ
  else if s.power.inReset = true ∨ s.power.mode = .off then some .low
  else none

/-- The level of STOPOUT_A and STOPOUT_B (R407, R681). -/
def State.stopoutPin (s : State) : PinLevel := s.pinsHeld.getD (.ofBool s.stopout)

/-- The ball of signal `i` of AIRn, in AIR signal order (R708, R713): 4 TXEN, 5 STROBE, 7 RST_L. -/
def airBall (n i : Nat) : Nat := (airBalls n).getD i 0

/-- A level that an AIR signal gives its ball (R716, R717): none while a function-2 feature claims the ball, high impedance for
the 1 µs in which it changes its function. -/
def State.onAirBall (n i : Nat) (l : PinLevel) (s : State) : Option PinLevel :=
  if SMap.getD 0 (airBall n i) s.dict.claims % 256 = 2 then none
  else if s.ticks < SMap.getD 0 (airBall n i) s.dict.turning then some .highZ
  else some l

/-- The level of AIRn_RST_L (R349, R407, R681): high while AIRn is enabled, from the step of R670 that configures it. -/
def State.airResetPin (n : Nat) (s : State) : Option PinLevel :=
  s.onAirBall n 7 (s.pinsHeld.getD
    (.ofBool (s.airEnabled.testBit n && (s.power.mode != .boot || decide (6 ≤ s.power.bootStep)))))

/-- The level of AIRn_TXEN (R357, R681). -/
def State.airTxPin (n : Nat) (s : State) : Option PinLevel :=
  s.onAirBall n 4 (s.pinsHeld.getD (if s.pair.output && s.airEnabled.testBit n then .pulses else .low))

/-- The level of AIRn_STROBE (R387, R406, R681): in SAFE every enabled port is still strobed. -/
def State.airStrobePin (n : Nat) (s : State) : Option PinLevel :=
  s.onAirBall n 5 (s.pinsHeld.getD
    (if (s.pair.output || s.power.mode == .safe) && s.airEnabled.testBit n then .pulses else .low))

/-- The levels of the four pins of an axis. -/
structure AxisPins where
  en   : PinLevel
  step : PinLevel
  dir  : PinLevel
  iref : PinLevel
  deriving DecidableEq, Repr

/-- All four pins at one level. -/
def AxisPins.all (l : PinLevel) : AxisPins := ⟨l, l, l, l⟩

/-- The pins of axis `n` (R494, with R406 in SAFE): of two rows that apply the upper one governs. -/
def State.axisPins (n : Nat) (s : State) : AxisPins :=
  let a := s.axis n
  match s.pinsHeld with
  | some l => .all l
  | none =>
    if a.state = .disabled then .all .highZ
    else if s.power.mode = .safe ∧ a.en = false then ⟨.low, .low, .ofBool a.dir, .low⟩
    else if a.en then ⟨.high, .pulses, .ofBool a.dir, .pulses⟩
    else .all .low

/-- The level of HB_OUT (R531, R681). -/
def State.heartbeatPin (s : State) : PinLevel :=
  match s.pinsHeld with
  | some l => l
  | none => if s.pair.hbOut then .pulses else .low

/-! ### The debug port (R698, R699) -/

/-- What the debug port may ask for. -/
inductive DebugTarget where
  /-- The instructions IDCODE and BYPASS. -/
  | idle
  /-- The key fuses. -/
  | keyFuses
  /-- The key registers of the cryptographic engine. -/
  | cryptoKeys
  /-- PD_AON. -/
  | aon
  /-- The secure store. -/
  | secureStore
  /-- Anything else that it addresses, and EXTEST. -/
  | rest
  deriving DecidableEq, Repr

/-- Does the debug port reach it (R698, R699)? Locked, it offers IDCODE and BYPASS only. -/
def State.debugReaches (x : DebugTarget) (s : State) : Bool :=
  match x with
  | .idle => true
  | .rest => s.sec.debug
  | _ => false

/-- A ball that EXTEST drives (R699). -/
inductive ExtestBall where
  | stopoutA
  | stopoutB
  | airTxen (n : Fin 8)
  | airStrobe (n : Fin 8)
  | axisEn (n : Fin 8)
  /-- Any other output but SEAM_DRV. -/
  | other
  deriving DecidableEq, Repr

/-- The level that EXTEST drives when it is asked for `l` (R699); none while the port is locked. -/
def State.extestLevel (b : ExtestBall) (l : PinLevel) (s : State) : Option PinLevel :=
  if s.debugReaches .rest then some (if b = .other then l else .low) else none

/-- What EXTEST drives on SEAM_DRV whatever it is asked for (R699). -/
def State.extestSeam (s : State) : Option Drive := if s.debugReaches .rest then some .free else none

end Sys2Proof.Machine
end

