-- ==== Sys2Proof/Safety.lean ====
section
/-!
DEFINITION. What a safe state of the block is, in the terms the statements use.
-/

namespace Sys2Proof.Machine

/-- The change record of R580 fits its fuses: at most 512 entries. -/
def State.RecordFits (s : State) : Prop := s.dict.changes.length ≤ 512

/-- Nothing of the change record of `s` is lost in `t` (R580: the record cannot be erased). -/
def State.KeepsChanges (s t : State) : Prop := s.dict.changes <+: t.dict.changes

/-- The state holds as many of each part as the unit has: RF chains, antenna ports and acquisition engines (chapters 03, 04),
comparators (chapter 02), cores (chapter 10), machines (chapter 06), radio ports (chapter 11), Ethernet and CAN ports
(chapters 13, 14, 18), TIO pins (chapter 14), gate axes (chapter 15), mains inputs (chapter 16), calibrated activities
(chapter 21). -/
structure State.Shaped (s : State) : Prop where
  chains : s.gnss.chains.length = 4
  antennas : s.gnss.ports.length = 2
  engines : s.gnss.engines.length = 2
  comparators : s.time.comparators.length = 32
  cores : s.sched.cores.length = 16
  axes : s.axes.length = 8
  machines : s.machines.length = 128
  radios : s.air.ports.length = 8
  launch : s.pipe.launch.length = 8
  ethernet : s.net.eth.length = 4
  can : s.net.can.length = 2
  canDict : s.dict.can.length = 2
  stamps : s.ptp.queues.length = 4
  pins : s.ptp.tio.length = 16
  statesA : s.ptp.domA.states.length = 4
  statesB : s.ptp.domB.states.length = 4
  peersA : s.ptp.domA.peers.length = 4
  peersB : s.ptp.domB.peers.length = 4
  mains : s.meter.mains.length = 2
  activities : s.bg.calFails.length = 6

/-- The state after a table write or command that its commit passes to the input log (R231, R291): it is answered ACCEPTED, and
no table has changed yet. -/
def State.afterLoggedEdit (w : Writer) (o : Nat) (v : List Byte) (s : State) : State :=
  { s with pipe.commits := s.pipe.commits + 1,
           ingest.held := insertInput ⟨0, 0x10, s.now, writeData o (s.selectOf o) v, s.pipe.commits + 1⟩ s.ingest.held,
           out := .answer w.port.val w.sess.val o 1 :: s.out,
           counters := bump 0x104002 1 s.counters }

/-- May a table write or command of this unit go to the input log now: it passes its checks, the per-cycle path runs, and
INGEST has room? -/
def State.editLogged (w : Writer) (o : Nat) (v : List Byte) (s : State) : Prop :=
  s.writeCheck (s.roleOf w) o v = 0 ∧ s.editOk o v = true ∧ s.perCycle = true ∧ s.ingestOpen = true ∧
    s.ingest.held.length < 256

/-- Does a table write or command of this unit apply at its commit: it passes its checks, and the per-cycle path does not run
(R291, R300)? -/
def State.editAtOnce (w : Writer) (o : Nat) (v : List Byte) (s : State) : Prop :=
  s.writeCheck (s.roleOf w) o v = 0 ∧ s.editOk o v = true ∧ s.perCycle = false

/-- No axis that gates a VALID segment is out of service (R490). -/
def State.gatesServe (s : State) : Prop := ∀ g, g < 8 → s.tracks.gatesOn g = false ∨ s.gateFaulty g true = false

/-- What a command to gate axis `n` leaves alone (a gate fault it may cause, R285, changes reservations only): the other axes,
the settings, the latch, the machines, the radio ports, the metering and the dictionary. -/
structure State.AxisFrame (n : Nat) (s t : State) : Prop where
  others : ∀ m, m ≠ n → t.axis m = s.axis m
  settings : t.settings = s.settings
  latch : t.stop = s.stop
  machines : t.machines = s.machines
  air : t.air = s.air
  meter : t.meter = s.meter
  dictionary : t.dict = s.dict

/-- The TYPE (R536) and the octets of the frame whose receipt a command is. -/
def frameOf : Instr → Option (Nat × List Byte)
  | .hello f => some (1, f)
  | .heartbeatA f => some (2, f)
  | .log f => some (3, f)
  | .baseObs f => some (4, f)
  | .confirm f => some (5, f)
  | .stateRequest f => some (6, f)
  | .state f _ => some (6, f)
  | .axis f => some (7, f)
  | .handoverGo f => some (8, f)
  | .handoverAck f => some (8, f)
  | .handoverAbort f => some (8, f)
  | _ => none

/-- May a frame be delivered (R537): the unit is in a pair, a lane has block lock, the CRC is right, and the frame is the next
one? -/
structure State.Takes (f : List Byte) (s : State) : Prop where
  pair : s.inPair = true
  lane : s.pair.lanes ≠ 0
  crc : linkIntact f = true
  next : field f 4 4 = s.pair.rxSeq

/-- May a frame of TYPE `kind` act: it is taken, it is of that TYPE, and the peers agree (R538)? -/
structure State.Brings (kind : Nat) (f : List Byte) (s : State) : Prop where
  takes : s.Takes f
  type : field f 0 1 = kind
  agreed : s.pair.mismatch = false

/-- May a frame leave (R534, R538)? -/
structure State.MaySend (s : State) : Prop where
  pair : s.inPair = true
  lane : s.pair.lanes ≠ 0
  agreed : s.pair.mismatch = false

/-- The next frame of the Akris link, for the first time: its lane, header, ACK, payload and CRC (R534 to R536). -/
def State.linkFrame (ack kind : Nat) (payload : List Byte) (s : State) : Out :=
  .link s.sendLane (linkOctets false s.sendLane ack ⟨s.pair.txSeq, kind, payload⟩)

/-- Session `x` serves writer `w` on its port, and message `m` repeats no request of it (R589). -/
structure State.Asks (w : Writer) (m : List Byte) (x : Session) (s : State) : Prop where
  session : s.sessionOf w.sess.val = some x
  port : x.port = w.port.val
  fresh : ∀ e, x.last = some e → 4 ≤ m.length → e.1 ≠ field m 2 2

/-- The outputs after something has been offered to ETHp alone: it leaves at once where the link is up, nothing waits and nothing is
in transmission (R432). -/
def State.offered (p : Nat) (x : Out) (s : State) : List Out :=
  if s.linkUp p && (s.ethPort p).txIdle s.ticks then x :: s.out else s.out

/-- The outputs after a message to session `w` (R430, R584). -/
def State.answered (w : Writer) (r : List Byte) (s : State) : List Out :=
  let p := w.port.val - 2
  s.offered p (.dtls w.port.val w.sess.val (s.sourceIp ((s.sessionOf w.sess.val).any fun x => x.onRole) p) r)

/-- The state in which the request of a session is executed: its idle time starts again (R584). -/
def State.heard (w : Writer) (s : State) : State := s.modSession w.sess.val fun y => { y with since := s.ticks }

/-- The commands that carry a message of a dictionary session. -/
def dictCommands (w : Writer) (m : List Byte) (i : CommitIn) : List Instr :=
  [.dictRead w m i, .dictWrite w m i, .groupOpen w m i, .groupCommit w m i, .groupAbort w m i]

/-- The commands that carry a request frame of a CAN port. -/
def canCommands (c : Fin 2) (m : List Byte) (i : CommitIn) : List Instr :=
  [.canRead c m i, .canWrite c m i, .segmentDown c m i, .segmentUpReq c m i, .canGroup c m i, .canAbort c m i]

/-- A frame offered to ETHp goes out at once (R432): the link is up, nothing waits, nothing is in transmission. -/
def State.lineFree (p : Nat) (s : State) : Prop := s.linkUp p = true ∧ (s.ethPort p).txIdle s.ticks = true

/-- The frame that carries a PTP message of a domain at ETHp, on the domain's transport (R431, R442, R450). -/
def State.ptpFrame (b : Bool) (p kind seq flags : Nat) (corr logInt : Int) (body : List Byte) (s : State) : List Byte :=
  let m := ptpOctets kind (s.domCfg b 1) flags corr (p + 1) seq logInt body
  let g := ptpGroup kind (s.domCfg b 3 == 1)
  if s.domCfg b 3 = 1 then
    etherFrame (s.cfg (0x360901 + p)) (s.pcpOf p 3) g.1 (Config.unitMac p) 0x0800
      (ipv4Packet 17 (s.unitIp p) g.2.1 (udpDatagram (s.unitIp p) g.2.1 g.2.2 g.2.2 m))
  else etherFrame (s.cfg (0x360901 + p)) (s.pcpOf p 3) g.1 (Config.unitMac p) 0x88F7 m

/-- What the servo of a domain makes of a measured offset `x` (R451, R452), `t` being the state after it: within 0x2048 of the
prediction it filters; beyond it the run grows, until 0x2049 in a row mark the domain with cause 1 and re-centre the servo. -/
def State.servoTakes (b : Bool) (x : Int) (s t : State) : Prop :=
  let d := s.domain b
  let gap := s.ticks - d.lastSync.getD s.ticks
  let far := s.jumpTol < (x - Config.servoPredict (s.eff 0x204700) d.servo gap).natAbs
  let kept := (Config.servoUpdate (s.eff 0x204700) d.servo gap x).2
  (t.domain b).lastSync = some s.ticks ∧
    (¬ far → (t.domain b).filtered = kept ∧ (t.domain b).jumpRun = 0 ∧ (t.domain b).cause = d.cause) ∧
    (far → d.jumpRun + 1 < s.eff 0x204900 →
      (t.domain b).filtered = kept ∧ (t.domain b).jumpRun = d.jumpRun + 1 ∧ (t.domain b).cause = d.cause) ∧
    (far → s.eff 0x204900 ≤ d.jumpRun + 1 → (t.domain b).filtered = x ∧ (t.domain b).jumpRun = 0 ∧
      (t.domain b).cause = 1)

/-- The frame of a datagram from UDP port `src` to a sink on ETHp, its next hop having a MAC address: class `cls`, from the role or
the unit address (R429 to R432). -/
def State.udpFrame (p cls : Nat) (role : Bool) (mac : List Byte) (src : Nat) (sink msg : List Byte) (s : State) : Out :=
  .eth p (etherFrame (s.cfg (0x360901 + p)) (s.pcpOf p cls) mac (s.sourceMac role p) 0x0800
    (ipv4Packet 17 (s.sourceIp role p) (sink.take 4)
      (udpDatagram (s.sourceIp role p) (sink.take 4) src (leNat (sink.drop 4)) msg)))

/-- A datagram to a sink finds its way at once: the route names ETHp, the ARP cache of ETHp knows the next hop, and the line is free
(R429, R432). -/
structure State.Reaches (sink : List Byte) (p : Nat) (hop mac : List Byte) (s : State) : Prop where
  route : s.route (sink.take 4) = some (p, hop)
  known : ((s.ethPort p).arp.find? fun e => e.ip == hop).map (fun e => e.mac) = some mac
  free : s.lineFree p

/-- AIRn has its balls to itself: none is claimed by a function-2 feature, and none changes its function now (R716, R717). -/
def State.AirBallsOwn (n : Nat) (s : State) : Prop :=
  ∀ i : Nat, SMap.getD 0 (airBall n i) s.dict.claims % 256 ≠ 2 ∧ SMap.getD 0 (airBall n i) s.dict.turning ≤ s.ticks

/-- Every output ball of R681 that follows the state stands at one level. -/
def State.PinsAt (l : PinLevel) (s : State) : Prop :=
  s.stopoutPin = l ∧ s.heartbeatPin = l ∧
    ∀ n : Nat, s.airResetPin n = some l ∧ s.airTxPin n = some l ∧ s.airStrobePin n = some l ∧ s.axisPins n = .all l

end Sys2Proof.Machine
end

