-- ==== Sys2Proof/Certificates/Slice0/Obligations.lean ====
section
/-!
DEFINITION. The statements for the provers. Every command has one whose conclusion is that `exec` answers a next state, with
what that state holds. A clause that rests on a choice of the model names its log entry.
-/

open Sys2Proof Sys2Proof.Machine

/-! ### Field Time (chapter 02) -/

/-- R55 to R57: new terms wait for the next edge, each clamped into its limits; a clamp is counted, and nothing else moves
but the recorder. R173: from D − 4 ms until D of a pulse the increment stands. R54, R57: with no command waiting and outside
BACKUP, a step is one CK_TIME edge: the increment in force after it is added, and a waiting increment takes force (the idle
step is assumption 1). R333, R432: operations ready go to the cores that ask, and an Ethernet port sends what waits; no
setting, mode, axis or machine moves. R678: in BACKUP nothing moves. -/
def Obligations.TicksAndIncrements : Prop :=
  ((∀ (freq phase : Int) (s : State), s.incrementHeld = false → ∃ t, exec (.tickIncrementUpdate freq phase) s = .next t ∧
      t.time.nextTerms = some (clamp 0x1FFF2E48F 0x2000D1B71 freq, clamp (-858) 858 phase) ∧
      t.counter 0x201004 = s.counter 0x201004 +
        (if clamp 0x1FFF2E48F 0x2000D1B71 freq = freq ∧ clamp (-858) 858 phase = phase then 0 else 1) ∧
      { t with time.nextTerms := s.time.nextTerms, counters := s.counters, rcd := s.rcd } = s) ∧
    (∀ (freq phase : Int) (s : State), s.incrementHeld = true → exec (.tickIncrementUpdate freq phase) s = .next s)) ∧
  ((∀ s : State, s.pending = [] → s.power.mode ≠ .backup → ∃ t, step s = .next t ∧
      (∀ f p, s.time.nextTerms.getD (s.time.freq, s.time.phase) = (f, p) →
        t.time.freq = f ∧ t.time.phase = p ∧ t.time.now = FT.ofUnits ((FT.units s.time.now : Int) + (f + p)).toNat) ∧
      t.time.nextTerms = none ∧ t.time.ticks = s.time.ticks + 1 ∧ t.time.comparators = s.time.comparators ∧
      { t with time := s.time, sched := s.sched, net := s.net, out := s.out, counters := s.counters, rcd := s.rcd,
               freeCount := s.freeCount } = s) ∧
    (∀ s : State, s.pending = [] → s.power.mode = .backup → step s = .next s))

/-- R60, R63: at a slot-0 evaluation with GNSS selected, usable and no step pending, an offset from above −1 s to 1 ms is
slewed, and a larger one becomes one forward step at the next second. With no source selected and none qualified, only the
end of HOLDOVER can follow. R65: in HOLDOVER the estimate is U t + A t^2 / 17,280,000 ns over the whole seconds since its
start, rounded up and saturating; in every other state it stays. R66: an owner's time-set in MAINTAIN waits for the next
second. R61, R67, R68, R609: a pending step, owner time-set or initial alignment sets Field Time on its tick; the set and the
alignment open a new era; an alignment happens once. -/
def Obligations.FieldTimeStepsAndSets : Prop :=
  ((∀ (s : State), s.time.selected = some .gnss → s.usable .gnss = true →
      s.time.pending = none → -nsUnits 1000000000 < s.time.gnssDelta →
      exec .timeStateEvaluation s = .next
        { s with time := { s.time with
            remaining := if nsUnits 1000000 < s.time.gnssDelta then 0 else s.time.gnssDelta,
            pending := if nsUnits 1000000 < s.time.gnssDelta
              then some ⟨.gnss, (s.now.sec + 1) % 2 ^ 64, s.time.gnssDelta, false⟩ else none } }) ∧
    (∀ (s : State), s.time.selected = none → (∀ x, s.qualified x = false) →
      ¬ (s.time.state = .holdover ∧ s.cfg 0x200900 < s.time.estimate) → exec .timeStateEvaluation s = .next s) ∧
    (∀ (s : State), s.time.selected = none → (∀ x, s.qualified x = false) → s.time.state = .holdover →
      s.cfg 0x200900 < s.time.estimate → ∃ t, exec .timeStateEvaluation s = .next t ∧ t.time.state = .free ∧
        t.counter 0x201001 = s.counter 0x201001 + 1 ∧
        { t with time := s.time, counters := s.counters, rcd := s.rcd } = s)) ∧
  ((∀ s : State, s.time.state = .holdover →
      exec .holdoverEstimateUpdate s = .next
        { s with time.estimate :=
            (let t := FT.nsSince s.time.holdStart s.now / 1000000000
             min 0xFFFFFFFF ((s.cfg 0x200A00 * t * 1728000 + s.cfg 0x200B00 * t ^ 2 + 17279999) / 17280000)) }) ∧
    (∀ s : State, s.time.state ≠ .holdover → exec .holdoverEstimateUpdate s = .next s) ∧
    (∀ (w : Writer) (v : List Byte) (s : State), s.roleOf w = 3 → s.power.mode = .maintain → v.length = 16 →
      leNat v % 2 ^ 64 = 0 → s.time.pendingSet = none →
      exec (.timeSet w v) s = .next
        { s with time.pendingSet := some (field v 8 8), out := .answer w.port.val w.sess.val 0x200500 1 :: s.out,
                 counters := bump 0x104002 1 s.counters })) ∧
  ((∀ (p : PendingStep) (s : State), s.time.pending = some p → p.align = false →
      ∃ t, exec .timeStepped s = .next t ∧ t.time.now = FT.addUnits ⟨p.sec, 0, 0⟩ p.delta ∧ t.time.pending = none ∧
        t.rcd.era = s.rcd.era ∧ t.settings = s.settings) ∧
    (∀ (v : Nat) (s : State), s.time.pendingSet = some v →
      ∃ t, exec .timeSetApply s = .next t ∧ t.time.now = ⟨v, 0, 0⟩ ∧ t.time.pendingSet = none ∧ t.time.pending = none ∧
        t.rcd.era = (s.rcd.era + 1) % 256 ∧ t.settings = s.settings) ∧
    (∀ (p : PendingStep) (s : State), s.time.pending = some p → p.align = true →
      ∃ t, exec .initialAlignment s = .next t ∧ t.time.now = FT.addUnits ⟨p.sec, 0, 0⟩ p.delta ∧ t.time.pending = none ∧
        t.time.aligned = true ∧ t.rcd.era = (s.rcd.era + 1) % 256 ∧ t.settings = s.settings))

/-- R73, R74, R168, R462: a comparator whose target Field Time has reached places its edge and rearms by its period; the slot
tick begins the slot (R225), PPS_OUT its pulse while it is not held (R171); one whose target lies ahead, and one that is not
armed, does nothing. R82, R740: a lost reference leaves Field Time FREE with no source, and with no pending step but one
whose second is nearer than 4 ms. -/
def Obligations.ComparatorsAndReferenceLoss : Prop :=
  (∀ (k : Fin 32) (x : FT) (s : State), (s.comparator k).target = some x → FT.le x s.now = true →
    (s.comparator k).owner < 0x300 → (s.comparator k).owner ≠ 2 →
    ((s.comparator k).owner = 1 → s.pair.yield = false ∧ s.pair.handover = none) →
    (∀ n < 8, (s.comparator k).owner = 0x100 + n → (s.air.ports[n]?).bind AirPort.armed = none) →
    exec (.comparatorFire k) s = .next
      { s with time.comparators := modAt s.time.comparators k fun c =>
                 { c with target := match c.target with
                            | some y => if c.period = 0 then none else some (FT.addNs y c.period)
                            | none => none },
               out := .edge k (s.comparator k).owner x false :: s.out,
               effective := if (s.comparator k).owner = 1 ∧ FT.slot s.now = 0
                 then adoptRun 0x2810 0x281C s.settings s.effective else s.effective }) ∧
  (∀ (k : Fin 32) (x d : FT) (s : State), (s.comparator k).target = some x → FT.le x s.now = true →
    (s.comparator k).owner = 2 → s.ppsHeld = false →
    s.gnss.pps.due = some d → ∃ t, exec (.comparatorFire k) s = .next t ∧ t.gnss.pps.active = true ∧
      t.gnss.pps.due = none ∧ t.counter 0x24800D = s.counter 0x24800D + 1 ∧
      t.out = .pps s.now (fineCode (pulseRemainder d s.now)).toNat (!s.gnss.pps.falling) :: .edge k 2 x false :: s.out ∧
      { t with time := s.time, gnss := s.gnss, counters := s.counters, out := s.out } = s) ∧
  (∀ (k : Fin 32) (s : State), ((s.comparator k).target = none ∨ ∃ x, (s.comparator k).target = some x ∧
    FT.lt s.now x = true) → exec (.comparatorFire k) s = .next s) ∧
  (∀ (clock : Fin 13) (s : State), ∃ t, exec (.ref10Lost clock) s = .next t ∧ t.time.state = .free ∧
    t.time.refLost = true ∧ t.time.selected = none ∧ t.settings = s.settings ∧
    t.time.pending = if s.stepLocked = true then s.time.pending else none)

/-! ### The GNSS front end (chapter 03) -/

/-- R22, R91, R92: a block that fails its check is counted and changes nothing else; a good one moves the gain word by the
rule of R91 and leaves every other chain; a chain that is off takes none. R95, R96: a classified current is shown; a current
in 3 mA to 100 mA is OK, one above 100 mA opens the switch, for good at the fifth within 60 s; a second later the switch
closes. -/
def Obligations.BridgeBlocksAndAntennaSupply : Prop :=
  (∀ (c : Fin 4) (b : Block) (s : State), (s.chain c.val).state ≠ .off → b.intact = false →
    exec (.bridgeBlockReceived c b) s = .next { s with counters := bump ((0x2420 + c.val) * 256 + 1) 1 s.counters }) ∧
  (∀ (c : Fin 4) (b : Block) (s : State), s.Shaped → (s.chain c.val).state ≠ .off → b.intact = true →
    b.saturated = false → ∃ t, exec (.bridgeBlockReceived c b) s = .next t ∧
      (t.chain c.val).gain = gainAfter (s.cfg 0x240400) b.power (s.chain c.val).gain ∧
      (t.chain c.val).gainCount = (s.chain c.val).gainCount + 1 ∧ (∀ d, d ≠ c.val → t.chain d = s.chain d) ∧
      { t with gnss.chains := s.gnss.chains } = s) ∧
  (∀ (c : Fin 4) (b : Block) (s : State), (s.chain c.val).state = .off → exec (.bridgeBlockReceived c b) s = .next s) ∧
  (∀ (p : Fin 2) (n : Nat) (s : State), s.Shaped → s.antSupply p.val = 1 → (s.antPort p.val).closed = true →
    s.power.mode.chainsUp = true → ∃ t, exec (.antClassify p n) s = .next t ∧
      t.shownNat (0x240301 + p.val) = min 2000 n ∧ t.settings = s.settings ∧ t.time = s.time ∧
      (30 ≤ n → n ≤ 1000 → (t.antPort p.val).status = 2 ∧ (t.antPort p.val).closed = true) ∧
      (1000 < n → (t.antPort p.val).closed = false ∧ (t.antPort p.val).status =
        if 4 ≤ ((s.antPort p.val).shorts.filter fun x => decide (s.time.ticks - x < 30000000000)).length then 4 else 3)) ∧
  (∀ (p : Fin 2) (s : State), (s.antPort p.val).status = 3 → s.antSupply p.val = 1 →
    (∀ x, (s.antPort p.val).shorts.head? = some x → x + 500000000 ≤ s.ticks) →
    exec (.antSwitchRetry p) s = .next { s with gnss.ports := modAt s.gnss.ports p.val fun x =>
      { x with closed := true, lowSince := none } }) ∧
  (∀ (p : Fin 2) (x : Nat) (s : State), (s.antPort p.val).shorts.head? = some x → s.ticks < x + 500000000 →
    exec (.antSwitchRetry p) s = .next s)

/-- R100 to R103: in START and ADAPT, while PD_CORR is on, the highest uncovered bin at or above the limit takes the lowest
OFF trap, and with none OFF the exhausted flag is set; a trap whose interferer has been low for 100 ms is OFF; ADAPT that is
over ends with its traps held, in SETTLE, and the largest delay shown. R19: with PD_CORR off none of this happens. -/
def Obligations.TrapsAndAdaptation : Prop :=
  (∀ (c : Fin 4) (bins : List SpectrumBin) (b : SpectrumBin) (k : Nat) (s : State), s.Shaped → s.domainOn 5 = true →
    (s.chain c.val).state.adapting = true →
    candidateBin (s.cfg 0x240900) (s.chain c.val).traps bins = some b →
    ((s.chain c.val).traps.findIdx? fun x => x.state == 0) = some k →
    exec (.trapPlacement c bins) s = .next { s with gnss.chains := modAt s.gnss.chains c.val fun x =>
      { x with cand := some b.freq, candTick := if x.cand = some b.freq then x.candTick else s.ticks,
               traps := x.traps.set k ⟨1, b.depth, b.width, b.peak, b.freq, 0, none⟩ } }) ∧
  (∀ (c : Fin 4) (bins : List SpectrumBin) (b : SpectrumBin) (s : State), s.Shaped → s.domainOn 5 = true →
    (s.chain c.val).state.adapting = true →
    candidateBin (s.cfg 0x240900) (s.chain c.val).traps bins = some b →
    (∀ x ∈ (s.chain c.val).traps, x.state ≠ 0) →
    exec (.trapPlacement c bins) s = .next { s with gnss.chains := modAt s.gnss.chains c.val fun x =>
      { x with cand := some b.freq, candTick := if x.cand = some b.freq then x.candTick else s.ticks, exhausted := true } }) ∧
  (∀ (traps : List Trap) (limit : Nat) (bins : List SpectrumBin) (b : SpectrumBin), candidateBin limit traps bins = some b →
    b ∈ bins ∧ limit ≤ b.peak ∧ (∀ x ∈ traps, inTrap b.freq x = false) ∧
    ∀ d ∈ bins, limit ≤ d.peak → (∀ x ∈ traps, inTrap d.freq x = false) → d.peak ≤ b.peak) ∧
  (∀ (c : Fin 4) (k : Fin 8) (n : Nat) (s : State), s.domainOn 5 = true → (s.chain c.val).state.adapting = true →
    ((s.chain c.val).traps.getD k.val .init).low = some n → n + 50000000 ≤ s.ticks →
    exec (.trapReleased c k) s = .next { s with gnss.chains := modAt s.gnss.chains c.val fun x =>
      { x with traps := x.traps.set k.val .init } }) ∧
  (∀ (c : Fin 4) (k : Fin 8) (s : State), ((s.chain c.val).traps.getD k.val .init).low = none →
    exec (.trapReleased c k) s = .next s) ∧
  (∀ (c : Fin 4) (s : State), s.Shaped → s.domainOn 5 = true → (s.chain c.val).state.adapting = true →
    s.power.mode ≠ .test → s.adaptOver c.val = true →
    ∃ t, exec (.adaptEnd c) s = .next t ∧ (t.chain c.val).state = .settle ∧
      (∀ x ∈ (t.chain c.val).traps, x.state ≠ 1) ∧
      t.shownNat (0x241801 + c.val) = min 1000000 (notchMax (c.val % 2 == 1) (t.chain c.val).notch) ∧
      (t.chain c.val).notch = (t.chain c.val).traps.filter (fun x => x.state == 2) ∧
      (∀ d, d ≠ c.val → t.chain d = s.chain d) ∧ { t with gnss.chains := s.gnss.chains, shown := s.shown } = s) ∧
  (∀ (c : Fin 4) (s : State), s.adaptOver c.val = false → exec (.adaptEnd c) s = .next s) ∧
  (∀ (c : Fin 4) (k : Fin 8) (bins : List SpectrumBin) (s : State), s.domainOn 5 = false →
    exec (.trapPlacement c bins) s = .next s ∧ exec (.trapReleased c k) s = .next s ∧ exec (.adaptEnd c) s = .next s)

/-- R107, R108: after the settle time a clear chain waits for slot 0; a jammed one adapts again, counted, up to three times,
and is then EXCLUDED; an episode open too long ends in exclusion; a retry asks an excluded chain to adapt at the next slot 0.
R104, R105: an evaluation shows the jamming indicator of every powered chain that received a block in the cycle, and counts
the run of evaluations at or above the threshold. R110: an accepted recovery command is answered ACCEPTED and triggers
exactly the chains of its mask. -/
def Obligations.RecoveryAndJamming : Prop :=
  ((∀ (c : Fin 4) (s : State), s.Shaped → (s.chain c.val).state = .settle → s.power.mode ≠ .test →
      s.chainLasted c.val (s.cfg 0x240B00) = true → ∃ t, exec (.settleElapsed c) s = .next t ∧ t.settings = s.settings ∧ (∀ d, d ≠ c.val → t.chain d = s.chain d) ∧
        (s.chainClear c.val = true → t.chain c.val = { s.chain c.val with ready := true } ∧ t.counters = s.counters) ∧
        (s.chainClear c.val = false → (s.chain c.val).restarts < 3 → (t.chain c.val).state = .adapt ∧
          (t.chain c.val).restarts = (s.chain c.val).restarts + 1 ∧
          t.counter ((0x2420 + c.val) * 256 + 4) = s.counter ((0x2420 + c.val) * 256 + 4) + 1) ∧
        (s.chainClear c.val = false → 3 ≤ (s.chain c.val).restarts → (t.chain c.val).state = .excluded ∧
          (t.chain c.val).cause = 1 ∧
          t.counter ((0x2420 + c.val) * 256 + 5) = s.counter ((0x2420 + c.val) * 256 + 5) + 1)) ∧
    (∀ (c : Fin 4) (s : State), s.Shaped → (s.chain c.val).episode = true → (s.chain c.val).state = .adapt →
      s.power.mode ≠ .test → secTicks (s.cfg 0x240C00) ≤ s.ticks - (s.chain c.val).began →
      ∃ t, exec (.episodeLimitExpired c) s = .next t ∧ (t.chain c.val).state = .excluded ∧
        (t.chain c.val).cause = 1 ∧ (t.chain c.val).episode = false ∧ (∀ d, d ≠ c.val → t.chain d = s.chain d) ∧
        t.counter ((0x2420 + c.val) * 256 + 5) = s.counter ((0x2420 + c.val) * 256 + 5) + 1 ∧
        { t with gnss.chains := s.gnss.chains, counters := s.counters, rcd := s.rcd, shown := s.shown } = s) ∧
    (∀ (c : Fin 4) (s : State), (s.chain c.val).state = .excluded → (s.chain c.val).cause ≠ 2 →
      s.chainLasted c.val (s.cfg 0x240D00) = true → exec (.episodeRetryExpired c) s = .next { s with gnss.chains := modAt s.gnss.chains c.val fun x =>
        { x with triggers := setBit x.triggers 3 true } }) ∧
    (∀ (c : Fin 4) (s : State), (s.chain c.val).state = .excluded → (s.chain c.val).cause = 2 →
      exec (.episodeRetryExpired c) s = .next s) ∧
    (∀ (c : Fin 4) (s : State), s.chainLasted c.val (s.cfg 0x240B00) = false → exec (.settleElapsed c) s = .next s) ∧
    (∀ (c : Fin 4) (s : State), s.chainLasted c.val (s.cfg 0x240D00) = false → exec (.episodeRetryExpired c) s = .next s) ∧
    (∀ (c : Fin 4) (s : State), s.ticks - (s.chain c.val).began < secTicks (s.cfg 0x240C00) →
      exec (.episodeLimitExpired c) s = .next s)) ∧
  ((∀ (l : List Nat) (s : State), s.Shaped → s.domainOn 5 = true →
      ∃ t, exec (.jamIndicatorEval l) s = .next t ∧ t.settings = s.settings ∧ t.time = s.time ∧
        ∀ c < 4, (s.chain c).state ≠ .off → (s.chain c).gainCount ≠ 0 → ∃ j : Nat,
          j = jamIndicator (s.chain c).gRef (s.chain c).gainSum (s.chain c).gainCount (l.getD c 0) ∧
          (t.chain c).ji = j ∧ t.shownNat (0x240601 + c) = j ∧
          (t.chain c).jamRun = if s.cfg 0x240700 ≤ j then (s.chain c).jamRun + 1 else 0) ∧
    (∀ (w : Writer) (v : List Byte) (s : State), s.Shaped → s.writeCheck (s.roleOf w) 0x240E00 v = 0 →
      (∀ c, c < 4 → (leNat v).testBit c = true → (s.chain c).state = .normal ∨ (s.chain c).state = .excluded) →
      ∃ t, exec (.recoveryStart w v) s = .next t ∧ t.out = .answer w.port.val w.sess.val 0x240E00 1 :: s.out ∧
        (∀ c, c < 4 → t.chain c =
          if (leNat v).testBit c = true ∧ ((s.chain c).state = .normal ∨ (s.chain c).cause ≠ 2)
          then { s.chain c with triggers := setBit (s.chain c).triggers 2 true } else s.chain c) ∧
        t.counter 0x104002 = s.counter 0x104002 + 1 ∧
        { t with gnss.chains := s.gnss.chains, out := s.out, counters := s.counters } = s))

/-! ### Tracking channels (chapter 04) -/

/-- R122, R123, R125, R126: a dump keeps the eight tap sums as the bank writes them, brings the waiting words into force and
advances the transmit time by a millisecond; new words wait for the next boundary, clamped into their limits, late ones for
the one after it, both counted. R132: pull-in after 1 s and reacquire after 0x243B time out, not before. -/
def Obligations.CorrelatorWordsAndTimeouts : Prop :=
  (∀ (k : Fin 512) (taps : Taps) (template hi : Nat) (r : SignalRow) (s : State), s.domainOn 5 = true →
    (s.chan k.val).state ≠ .idle → signalRow (s.chan k.val).signal = some r →
    ∃ t, exec (.correlatorDump k taps template hi) s = .next t ∧
      (t.chan k.val).hist = (taps.written r.pilot :: (s.chan k.val).hist).take 1000 ∧
      (t.chan k.val).next = (s.chan k.val).later ∧ (t.chan k.val).later = none ∧
      (t.chan k.val).carrier = ((s.chan k.val).next.map fun n => n.carrier).getD (s.chan k.val).carrier ∧
      (t.chan k.val).code = ((s.chan k.val).next.map fun n => n.code).getD (s.chan k.val).code ∧
      (t.chan k.val).due = (s.chan k.val).due + 1 ∧
      (t.chan k.val).tow = (s.chan k.val).tow.map (fun n => (n + 1) % turnMs (s.chan k.val).signal) ∧
      (t.chan k.val).samples = (s.chan k.val).samples + (s.chan k.val).toBoundary r ∧
      (t.chan k.val).state = (s.chan k.val).state ∧
      (∀ j, j ≠ k.val → t.chan j = s.chan j) ∧ t.settings = s.settings ∧ t.counter 0x2F4002 = s.counter 0x2F4002 + 1) ∧
  (∀ (k : Fin 512) (taps : Taps) (template hi : Nat) (s : State), (s.chan k.val).state = .idle →
    exec (.correlatorDump k taps template hi) s = .next s) ∧
  (∀ (k : Fin 512) (f d sh : Int) (late : Bool) (r : SignalRow) (s : State), s.domainOn 5 = true →
    (s.chan k.val).state ≠ .idle →
    signalRow (s.chan k.val).signal = some r → ∃ t, exec (.ncoUpdate k f d sh late) s = .next t ∧
      t.chan k.val = (if late = true
        then { s.chan k.val with later := some ⟨clampCarrier r (s.chan k.val).gloK f, clampCode r d, sh⟩ }
        else { s.chan k.val with next := some ⟨clampCarrier r (s.chan k.val).gloK f, clampCode r d, sh⟩ }) ∧
      t.counter 0x245006 = s.counter 0x245006 + (if clampCarrier r (s.chan k.val).gloK f = f then 0 else 1) +
        (if clampCode r d = d then 0 else 1) ∧
      t.counter 0x245005 = s.counter 0x245005 + (if late = true then 1 else 0) ∧
      { t with gnss.chans := s.gnss.chans, counters := s.counters, rcd := s.rcd } = s) ∧
  (∀ (k : Fin 512) (s : State), s.Shaped → s.domainOn 5 = true → (s.chan k.val).state = .pullIn →
    (s.chan k.val).entry + 500000000 ≤ s.ticks → s.gnss.queue.length < 64 →
    (s.chan k.val).refused ≠ some (FT.cycle s.now) →
    ∃ t, exec (.pullInTimeout k) s = .next t ∧ (t.chan k.val).state = .search ∧ (t.chan k.val).entry = s.ticks ∧
      (t.chan k.val).weak = none ∧ (t.chan k.val).lock = 0 ∧ t.searching k.val = true ∧
      (∀ j, j ≠ k.val → t.chan j = s.chan j) ∧ t.counter 0x245003 = s.counter 0x245003 + 1 ∧
      { t with gnss := s.gnss, counters := s.counters } = s) ∧
  (∀ (k : Fin 512) (s : State), s.ticks < (s.chan k.val).entry + 500000000 → exec (.pullInTimeout k) s = .next s) ∧
  (∀ (k : Fin 512) (s : State), s.domainOn 5 = true → (s.chan k.val).state = .reacquire →
    secTicks (s.cfg 0x243B00) ≤ s.ticks - (s.chan k.val).entry →
    ∃ t, exec (.reacquireTimeout k) s = .next t ∧ t.chan k.val = .init ∧
      (∀ j, j ≠ k.val → t.chan j = s.chan j) ∧ { t with gnss := s.gnss } = s) ∧
  (∀ (k : Fin 512) (s : State), s.ticks - (s.chan k.val).entry < secTicks (s.cfg 0x243B00) →
    exec (.reacquireTimeout k) s = .next s)

/-- R127, R130, R131: a channel's request is queued, or counted where the queue is full; a search is complete only after its
time (R129); a result above the limit puts the channel into PULL_IN at the code phase and Doppler found; a third failure in a
row idles it and bars its signal for 60 s. R132, R134 to R136: the transitions of the loops over the phase lock indicator,
with the C/N0 of the dumps and the Doppler of the carrier word. -/
def Obligations.AcquisitionAndLoops : Prop :=
  (∀ (k : Fin 512) (s : State), s.Shaped → s.domainOn 5 = true → (s.chan k.val).state = .idle → (s.chan k.val).signal ≠ 0 →
    (s.chan k.val).refused ≠ some (FT.cycle s.now) →
    ∃ t, exec (.acqRequest k false) s = .next t ∧ t.settings = s.settings ∧ (∀ j, j ≠ k.val → t.chan j = s.chan j) ∧
      (s.gnss.queue.length < 64 → (t.chan k.val).state = .search ∧ t.searching k.val = true) ∧
      (64 ≤ s.gnss.queue.length → t.chan k.val = { s.chan k.val with refused := some (FT.cycle s.now) } ∧
        t.counter 0x245004 = s.counter 0x245004 + 1)) ∧
  (∀ (k : Fin 512) (again : Bool) (s : State), (s.chan k.val).refused = some (FT.cycle s.now) →
    exec (.acqRequest k again) s = .next s) ∧
  (∀ (e : Fin 2) (n bin phase : Nat) (g : Engine) (r : SignalRow) (s : State), s.domainOn 5 = true →
    s.gnss.engines.getD e.val none = some g → g.done ≤ s.ticks → (s.chan g.req.chan).state = .search →
    signalRow (s.chan g.req.chan).signal = some r →
    ∃ t, exec (.acqSearchComplete e n bin phase) s = .next t ∧ t.settings = s.settings ∧
      t.counter 0x245001 = s.counter 0x245001 + 1 ∧
      (s.cfg 0x244200 ≤ n → (t.chan g.req.chan).state = .pullIn ∧ (t.chan g.req.chan).doppler = g.dopplerAt bin ∧
        (t.chan g.req.chan).chips * 4294967296 + (t.chan g.req.chan).frac = phase % r.codeUnits ∧
        (t.chan g.req.chan).fails = 0 ∧ t.counter 0x245002 = s.counter 0x245002 + 1) ∧
      (n < s.cfg 0x244200 → 2 ≤ (s.chan g.req.chan).fails → (t.chan g.req.chan).state = .idle ∧
        (barKey (s.chainOf g.req.chan) (s.chan g.req.chan).signal (s.chan g.req.chan).sv, s.time.ticks + 30000000000) ∈
          t.gnss.barred) ∧
      (n < s.cfg 0x244200 → (s.chan g.req.chan).fails < 2 → (t.chan g.req.chan).fails = (s.chan g.req.chan).fails + 1)) ∧
  (∀ (e : Fin 2) (n bin phase : Nat) (g : Engine) (s : State), s.gnss.engines.getD e.val none = some g → s.ticks < g.done →
    exec (.acqSearchComplete e n bin phase) s = .next s) ∧
  (∀ (k : Fin 512) (sync late : Bool) (off : Fin 193) (r : SignalRow) (s : State), s.domainOn 5 = true →
    signalRow (s.chan k.val).signal = some r → (s.chan k.val).state = .pullIn → 1 ≤ (s.chan k.val).due →
    s.pliReaches 100 (s.loopWords k.val r).1.cohs = some true → s.ticks - (s.chan k.val).entry ≤ 500000000 →
    ∃ t, exec (.trackLoopUpdate k true sync late off) s = .next t ∧ (t.chan k.val).state = .track ∧
      (t.chan k.val).cn0 = carrierToNoise (s.chan k.val).hist ∧
      (t.chan k.val).doppler = r.dopplerOf (s.chan k.val).gloK (s.chan k.val).carrier ∧
      (t.chan k.val).offM = (off.val : Int) - 96 ∧ (∀ j, j ≠ k.val → t.chan j = s.chan j) ∧
      { t with gnss.chans := s.gnss.chans, counters := s.counters, rcd := s.rcd } = s) ∧
  (∀ (k : Fin 512) (code late : Bool) (off : Fin 193) (r : SignalRow) (s : State), s.domainOn 5 = true →
    signalRow (s.chan k.val).signal = some r → (s.chan k.val).state = .track → s.interval k.val ≤ (s.chan k.val).due →
    s.pliReaches 1000 (s.loopWords k.val r).1.cohs = some true →
    ∃ t, exec (.trackLoopUpdate k code true late off) s = .next t ∧ (t.chan k.val).state = .locked ∧
      (t.chan k.val).lock = 0 ∧ (t.chan k.val).slip = true ∧
      { t with gnss.chans := s.gnss.chans, counters := s.counters, rcd := s.rcd } = s) ∧
  (∀ (k : Fin 512) (code sync late : Bool) (off : Fin 193) (r : SignalRow) (s : State), s.domainOn 5 = true →
    signalRow (s.chan k.val).signal = some r → (s.chan k.val).state = .locked → s.interval k.val ≤ (s.chan k.val).due →
    s.pliReaches 200 (s.loopWords k.val r).1.cohs = some false →
    ∃ t, exec (.trackLoopUpdate k code sync late off) s = .next t ∧ (t.chan k.val).state = .track ∧
      (t.chan k.val).slip = true ∧ (t.chan k.val).half = false ∧ t.counter 0x245007 = s.counter 0x245007 + 1 ∧
      { t with gnss.chans := s.gnss.chans, counters := s.counters, rcd := s.rcd } = s)

/-- R117, R137 to R139: after an allocation every channel of a powered chain is without a signal or tracks one that the
candidates name and 0x2431 enables; every wanted candidate that is not barred has a channel of its ANT_A chain, or the
shortage is counted; nothing but the channels, their searches, counters and records changes. A changed bank map comes into
force, and the channels of a bank that moved begin anew. -/
def Obligations.AllocationKeepsToCandidates : Prop :=
  (∀ (sky : List SkyCand) (s : State), s.domainOn 5 = true → ∃ t, exec (.channelAllocation sky) s = .next t ∧
    (∀ k, k < 512 → (s.chain (s.chainOf k)).state ≠ .off → (t.chan k).signal = 0 ∨
      ∃ a ∈ sky, a.signal = (t.chan k).signal ∧ a.sv = (t.chan k).sv ∧ s.signalEnabled a.signal = true) ∧
    (∀ a ∈ sky, ∀ r : SignalRow, signalRow a.signal = some r → s.signalEnabled a.signal = true →
      (s.cfg 0x243300 : Int) * 100 ≤ a.elev → (s.chain (b2n r.upper)).state ≠ .off →
      (∀ b ∈ s.gnss.barred, b.1 = barKey (b2n r.upper) a.signal a.sv → b.2 ≤ s.ticks) →
      (∃ k, k < 512 ∧ s.chainOf k = b2n r.upper ∧ (t.chan k).signal = a.signal ∧ (t.chan k).sv = a.sv) ∨
        t.counter 0x24500B = s.counter 0x24500B + 1) ∧
    t.gnss.chains = s.gnss.chains ∧ { t with gnss := s.gnss, counters := s.counters, rcd := s.rcd } = s) ∧
  (∀ (sky : List SkyCand) (s : State), s.domainOn 5 = true → ∃ t, exec (.bankMapChanged sky) s = .next t ∧
    t.gnss.bankMap = s.cfg 0x243000 ∧
    (∀ k, k < 512 → bankChain s.gnss.bankMap (k / 32) ≠ bankChain (s.cfg 0x243000) (k / 32) →
      (t.chan k).state = .idle ∨ (t.chan k).state = .search ∨ (t.chan k).state = .pullIn) ∧
    (s.gnss.bankMap = s.cfg 0x243000 → t = s) ∧
    t.gnss.chains = s.gnss.chains ∧ { t with gnss := s.gnss, counters := s.counters, rcd := s.rcd } = s)

/-- R140 to R143: an epoch gives each tracked channel its record: the pseudorange of a LOCKED, timed signal and 0 of any
other, the phase of a LOCKED one; the epoch's time is shown. R145 to R147: a unit that its signal carries is kept with the
next SEQ, and counted by whether it passed; a channel below TRACK has none. -/
def Obligations.MeasurementsAndNavigation : Prop :=
  (∀ (past : Nat) (since : List Nat) (s : State), s.domainOn 5 = true →
    ∃ t, exec (.measurementEpoch past since) s = .next t ∧
    t.shownVal 0x244400 = .num (FT.toNum (FT.cycleStart s.now)) ∧ t.gnss.epoch = FT.cycle s.now ∧ t.settings = s.settings ∧
    t.counters = s.counters ∧
    ∀ (k : Nat) (r : SignalRow), (s.chan k).state ≠ .idle → signalRow (s.chan k).signal = some r →
      ∃ m : MeasRec, SMap.getD ⟨0, 0, 0, 0⟩ k t.gnss.meas = m ∧ k ∈ t.gnss.recorded ∧ (t.chan k).slip = false ∧
      (∀ w, (s.chan k).state = .locked → (s.chan k).tow = some w →
        m.w1 = ofSigned 64 (s.delayStep.rangeOf k (since.getD k 0) past w r (FT.cycleStart s.now)) ∧
        m.w2 = ofSigned 64 (s.delayStep.phaseOf k (since.getD k 0) past r)) ∧
      ((s.chan k).state ≠ .locked → m.w1 = 0 ∧ m.w2 = 0)) ∧
  (∀ (k : Fin 512) (u : NavUnit) (r : SignalRow) (s : State), s.domainOn 5 = true →
    (s.chan k.val).state = .track ∨ (s.chan k.val).state = .locked →
    signalRow (s.chan k.val).signal = some r → u.fits r = true →
    ∃ t n, exec (.navUnitDecoded k u) s = .next t ∧ t.gnss.nav = (n :: s.gnss.nav).take 1024 ∧ n.seq = s.gnss.navNext ∧
      n.signal = (s.chan k.val).signal ∧ n.sv = (s.chan k.val).sv ∧ n.fail = !u.pass ∧ n.data = packBits 80 u.bits ∧
      t.gnss.navNext = (s.gnss.navNext + 1) % 2 ^ 32 ∧
      t.counter 0x245009 = s.counter 0x245009 + (if u.pass = true then 1 else 0) ∧
      t.counter 0x24500A = s.counter 0x24500A + (if u.pass = true then 0 else 1)) ∧
  (∀ (k : Fin 512) (u : NavUnit) (s : State), (s.chan k.val).state = .idle → exec (.navUnitDecoded k u) s = .next s)

/-! ### Integrity and the time pulse (chapter 05) -/

/-- R151, R153, R158, R165: by T + 3 ms a record that fails one of its checks has its signal excluded, and the base
observables of the epoch are released; fewer than four satellites end the validity of GNSS time, a good solution on a NORMAL
chain with C6 quiet gives it. R152: late checks end it and are counted. R161: a multipath metric beyond its limit marks the
signal. -/
def Obligations.IntegrityAndGnssTime : Prop :=
  (∀ s : State, s.domainOn 5 = true → s.gnss.released = false →
    FT.le s.now (FT.addNs (FT.cycleStart s.now) 3000000) = true → ∃ t, exec .integrityChecks s = .next t ∧
    t.settings = s.settings ∧ t.gnss.released = true ∧
    (∀ e ∈ s.epochRecs, s.sigFails s.epochView e.1 e.2 ≠ [] →
      (∀ d ∈ s.epochRecs, d ≠ e → (s.chan d.1).key (s.chainOf d.1) ≠ (s.chan e.1).key (s.chainOf e.1)) →
      (t.sigOf e.1).excluded = true) ∧
    (satellites t.solObs < 4 → t.time.validGnss = none) ∧
    (s.epochRecs = [] → t.time.validGnss = none) ∧
    ((t.chain 0).state = .normal ∨ (t.chain 1).state = .normal → s.follows = false →
      ∃ (b : BaseEpoch) (l : List BaseEpoch), t.pipe.bases = b :: l ∧ l = s.pipe.bases.take 9 ∧ b.cycle = s.gnss.epoch)) ∧
  (∀ s : State, s.gnss.released = true ∨ FT.lt (FT.addNs (FT.cycleStart s.now) 3000000) s.now = true →
    exec .integrityChecks s = .next s) ∧
  (∀ s : State, s.domainOn 5 = true → s.gnss.released = false → s.pending = [] →
    FT.le (FT.addNs (FT.cycleStart s.now) 3000000) s.now = true → ∃ t, exec .checksLate s = .next t ∧
    t.time.validGnss = none ∧ t.gnss.used = 0 ∧ t.gnss.released = true ∧
    t.counter 0x24800C = s.counter 0x24800C + 1 ∧ t.settings = s.settings) ∧
  (∀ s : State, s.gnss.released = true ∨ FT.lt s.now (FT.addNs (FT.cycleStart s.now) 3000000) = true →
    exec .checksLate s = .next s) ∧
  (∀ s : State, s.domainOn 5 = true → ∃ t, exec .multipathEval s = .next t ∧
    (∀ k, (s.chan k).state ≠ .idle → (s.chan k).hist ≠ [] → s.cfg 0x246B00 < Config.cmcDeviation (s.sigOf k).cmc →
      (t.sigOf k).multipath = true ∧ (t.sigOf k).clean = 0) ∧
    (∀ k, (s.chan k).state ≠ .idle → (s.chan k).hist ≠ [] →
      (∀ j, j ≠ k → (s.chan j).state ≠ .idle → (s.chan j).key (s.chainOf j) ≠ (s.chan k).key (s.chainOf k)) →
      (asymmetryAgainst (s.cfg 0x246C00) (s.chan k).hist).1 = true →
      (t.sigOf k).multipath = true ∧ (t.sigOf k).clean = 0) ∧
    { t with gnss.sigs := s.gnss.sigs } = s)

/-- R168, R174, R175: the message of a pulse is stored, counted per sink, and a pulse that is not suppressed and still ahead
becomes due; when comparator 1 fires a due pulse has its active edge, q for the next message and its inactive edge armed;
with none due it is the inactive edge. R171: while PPS_OUT is held the pulse is dropped without an edge. -/
def Obligations.TimePulse : Prop :=
  (∀ (u : Nat) (s : State), ∃ t, exec (.timePulseMessage u) s = .next t ∧ t.settings = s.settings ∧ t.time.now = s.time.now ∧
    t.shownVal 0x247400 = .oct (s.pulseMessage u s.pulseSuppressed s.pulseTime
      (pulseRemainder s.pulseTime (s.predictedTick s.pulseTime))) ∧
    t.counter 0x24800F = s.counter 0x24800F + BitVec.ofNat 64 (s.sinksInUse 0x247500 4) ∧
    t.gnss.pps.seq = (s.gnss.pps.seq + 1) % 2 ^ 32 ∧
    (s.pulseSuppressed = true → t.gnss.pps.due = none ∧ t.counter 0x24800E = s.counter 0x24800E + 1) ∧
    (s.pulseSuppressed = false → FT.le (FT.addNs s.now 8) (FT.addUnits s.pulseTime (-nsUnits 2)) = true →
      t.gnss.pps.due = some s.pulseTime)) ∧
  (∀ (x d : FT) (s : State), s.Shaped → (s.comparator 1).target = some x → FT.le x s.now = true → (s.comparator 1).owner = 2 →
    s.ppsHeld = false → s.gnss.pps.due = some d →
    ∃ t, exec .ppsPulse s = .next t ∧ t.gnss.pps.active = true ∧ t.gnss.pps.due = none ∧
      t.gnss.pps.prevQ = quantError (pulseRemainder d s.now) ∧ t.counter 0x24800D = s.counter 0x24800D + 1 ∧
      (t.comparator 1).target = some (FT.addNs d (s.gnss.pps.width * 1000000)) ∧
      t.out = .pps s.now (fineCode (pulseRemainder d s.now)).toNat (!s.gnss.pps.falling) :: .edge 1 2 x false :: s.out ∧
      t.settings = s.settings) ∧
  (∀ (x : FT) (s : State), (s.comparator 1).target = some x → FT.le x s.now = true → (s.comparator 1).owner = 2 →
    s.ppsHeld = false → s.gnss.pps.due = none →
    ∃ t, exec .ppsPulse s = .next t ∧ t.gnss.pps.active = false ∧ t.counters = s.counters ∧ t.settings = s.settings ∧
      (s.gnss.pps.active = true → t.out = .pps s.now 0 s.gnss.pps.falling :: .edge 1 2 x false :: s.out)) ∧
  (∀ (x : FT) (s : State), (s.comparator 1).target = some x → FT.le x s.now = true → (s.comparator 1).owner = 2 →
    s.ppsHeld = true → ∃ t, exec .ppsPulse s = .next t ∧ t.gnss.pps.due = none ∧ t.gnss.pps.active = false ∧
      t.out = .edge 1 2 x false :: s.out ∧ t.ppsPin = s.gnss.pps.falling ∧ t.counters = s.counters)

/-! ### Corrections and Solve (chapter 06) -/

/-- R206, R208, R214, R216, R218: a Field Obs with its base epoch and four satellites in common gives the machine the
solution of the epoch and moves its state one on: NONE to CODE, CODE to FLOAT with five carrier phases, FLOAT to a
provisional fix, a provisional fix to FIXED after five epochs or back, a FIXED one to FLOAT where it is lost. The machine no
longer waits, and its record is the one sent. R742: with fewer in common, or without base observables, the record is the
prediction; R181: without a committed position it is NONE. -/
def Obligations.SolutionStates : Prop :=
  (∀ (k : Fin 129) (w : SolveWait) (b : BaseEpoch) (ref : Vec) (e : EpochOut) (s : State), s.Shaped → 1 ≤ k.val →
    (s.machine k.val).wait = some w → s.refPosition = some ref → s.baseFor w.cycle = some b →
    (s.machine k.val).rtk.epoch s.solveSet ref s.ephOf w.cycle (b.view w.cycle w.obs.offset) w.obs = e →
    ∃ t, exec (.solveEpoch k) s = .next t ∧ (t.machine k.val).wait = none ∧ (t.machine k.val).rtk = e.solver ∧
      e.solver.gap = 0 ∧ t.settings = s.settings ∧ (∀ j, 1 ≤ j → j ≠ k.val → t.machine j = s.machine j) ∧
      t.counter 0x284007 = s.counter 0x284007 + BitVec.ofNat 64 e.slips ∧
      (w.standIn = false → ∃ p, (t.machine k.val).sent = some p ∧ p.machine = k.val ∧ p.epoch = w.cycle % 65536 ∧
        (e.common < 4 → p.status = if (s.machine k.val).rtk.solve = .none then 0 else 4) ∧
        (4 ≤ e.common → p.status = e.solver.solve.status)) ∧
      (4 ≤ e.common → (s.machine k.val).rtk.solve = .none → e.solver.solve = .code) ∧
      (4 ≤ e.common → (s.machine k.val).rtk.solve = .code → e.solver.solve =
        if 5 ≤ (satellitesIn ((doubleDiffs s.solveSet (commonSignals s.solveSet ref s.ephOf (b.view w.cycle w.obs.offset).at_
          (b.view w.cycle w.obs.offset).ns b.recs w.obs)).filter fun d => d.phase.isSome)).length then .float else .code) ∧
      (4 ≤ e.common → (s.machine k.val).rtk.solve = .float → e.solver.solve = .float ∨
        (e.solver.solve = .provisional ∧ e.solver.count = 1 ∧ t.counter 0x500004 = s.counter 0x500004 + 1)) ∧
      (4 ≤ e.common → (s.machine k.val).rtk.solve = .provisional →
        (e.solver.solve = .fixed ∧ 4 ≤ (s.machine k.val).rtk.count ∧ t.counter 0x500005 = s.counter 0x500005 + 1) ∨
        (e.solver.solve = .provisional ∧ e.solver.count = (s.machine k.val).rtk.count + 1) ∨
        (e.solver.solve = .float ∧ t.counter 0x500006 = s.counter 0x500006 + 1)) ∧
      (4 ≤ e.common → (s.machine k.val).rtk.solve = .fixed → e.solver.solve = .fixed ∨
        (e.solver.solve = .float ∧ t.counter 0x284009 = s.counter 0x284009 + 1))) ∧
  (∀ (k : Fin 129) (w : SolveWait) (s : State), s.Shaped → 1 ≤ k.val → (s.machine k.val).wait = some w →
    s.baseFor w.cycle = none → w.standIn = false → (s.shownNat 0x280700).testBit 0 = true →
    ∃ t p, exec (.solveEpoch k) s = .next t ∧ (t.machine k.val).wait = none ∧ (t.machine k.val).sent = some p ∧
      p.status = (if (s.machine k.val).rtk.solve = .none then 0 else 4) ∧
      t.counter 0x28400B = s.counter 0x28400B + 1 ∧ t.settings = s.settings) ∧
  (∀ (k : Fin 129) (w : SolveWait) (s : State), s.Shaped → 1 ≤ k.val → (s.machine k.val).wait = some w →
    s.refPosition = none → w.standIn = false →
    ∃ t, exec (.solveEpoch k) s = .next t ∧ (t.machine k.val).sent = some (PosRec.none_ k.val (w.cycle % 65536))) ∧
  (∀ (k : Fin 129) (s : State), (s.machine k.val).wait = none → exec (.solveEpoch k) s = .next s)

/-- R215, R216: an exchange that passed without a Field Obs is a missing epoch: it withdraws a provisional fix, and drops a
FIXED solution after 0x281B of them; one that brought a Field Obs is none, and nothing is judged before tᵤ + 4 ms. A filter
without a Field Obs for 0x281C seconds is cleared. -/
def Obligations.MissingEpochsAndTimeouts : Prop :=
  (∀ (k : Fin 129) (e : FT) (s : State), s.Shaped → 1 ≤ k.val → (s.machine k.val).exchange = some e →
    FT.le (FT.addNs e 4000000) s.now = true → (s.machine k.val).observedAt e = false →
    ∃ t, exec (.missingEpoch k) s = .next t ∧ t.settings = s.settings ∧ (t.machine k.val).exchange = none ∧
      (t.machine k.val).rtk.gap = (s.machine k.val).rtk.gap + 1 ∧
      (∀ j, 1 ≤ j → j ≠ k.val → t.machine j = s.machine j) ∧
      ((s.machine k.val).rtk.solve = .provisional →
        (t.machine k.val).rtk.solve = .float ∧ t.counter 0x500006 = s.counter 0x500006 + 1) ∧
      ((s.machine k.val).rtk.solve = .fixed → s.eff 0x281B00 ≤ (s.machine k.val).rtk.gap →
        (t.machine k.val).rtk.solve = .float ∧ t.counter 0x284009 = s.counter 0x284009 + 1)) ∧
  (∀ (k : Fin 129) (e : FT) (s : State), s.Shaped → 1 ≤ k.val → (s.machine k.val).exchange = some e →
    FT.le (FT.addNs e 4000000) s.now = true → (s.machine k.val).observedAt e = true →
    ∃ t, exec (.missingEpoch k) s = .next t ∧ t.machine k.val = { s.machine k.val with exchange := none } ∧
      { t with machines := s.machines } = s) ∧
  (∀ (k : Fin 129) (s : State), (∀ e, (s.machine k.val).exchange = some e → FT.lt s.now (FT.addNs e 4000000) = true) →
    exec (.missingEpoch k) s = .next s) ∧
  (∀ (k : Fin 129) (s : State), s.Shaped → 1 ≤ k.val → (s.machine k.val).rtk.solve ≠ .none →
    FT.le (FT.addNs (s.machine k.val).lastObs (s.eff 0x281C00 * 1000000000)) s.now = true →
    ∃ t, exec (.filterTimeout k) s = .next t ∧ (t.machine k.val).rtk = Solver.init ∧
      t.counter 0x284008 = s.counter 0x284008 + 1 ∧ t.settings = s.settings ∧
      (∀ j, 1 ≤ j → j ≠ k.val → t.machine j = s.machine j)) ∧
  (∀ (k : Fin 129) (s : State), FT.le (FT.addNs (s.machine k.val).lastObs (s.eff 0x281C00 * 1000000000)) s.now = false →
    exec (.filterTimeout k) s = .next s)

/-- R183 to R188, R580: a second of SURVEY counts for both antennas, shows the mean of ANT_A where it has solutions, and
completes its survey at the duration and deviation set; an accepted commit waits for slot 0 and is answered ACCEPTED; at slot
0 it takes a change entry and, verified, gives the named antennas their coordinates and clears every filter if the position
moves; an entry that fails its verification changes nothing else. R190 to R196: with a committed position the messages due at
the epoch join the stream, each counted, with each split of R194; without one there is no output. -/
def Obligations.SurveyPositionsAndRtcm : Prop :=
  ((∀ (s : State), s.power.mode = .survey → ∃ t, exec .surveyUpdate s = .next t ∧
      t.shownNat 0x280805 = min (s.shownNat 0x280805 + 1) 0xFFFFFFFF ∧
      t.shownNat 0x280905 = min (s.shownNat 0x280905 + 1) 0xFFFFFFFF ∧
      (s.corr.count ≠ 0 → t.shownVal 0x280801 = .num s.surveyMean.1 ∧ t.shownVal 0x280802 = .num s.surveyMean.2.1 ∧
        t.shownVal 0x280803 = .num s.surveyMean.2.2) ∧
      (s.cfg 0x280500 ≤ t.shownNat 0x280805 → t.shownNat 0x280804 ≤ s.cfg 0x280600 →
        (t.shownNat 0x280700).testBit 2 = true) ∧
      { t with shown := s.shown, corr := s.corr, rcd := s.rcd, counters := s.counters } = s) ∧
    (∀ (s : State), s.power.mode ≠ .survey → exec .surveyUpdate s = .next s) ∧
    (∀ (w : Writer) (v : List Byte) (spent : Bool) (s : State), s.posCommitCheck (s.roleOf w) v spent = 0 →
      ∃ t, exec (.posCommit w v spent) s = .next t ∧ t.corr.pending = some ⟨leNat v, s.roleOf w, w.port.val, w.session⟩ ∧
        t.out = .answer w.port.val w.sess.val 0x280400 1 :: s.out ∧ t.pipe.commits = s.pipe.commits + 1 ∧
        { t with corr := s.corr, pipe := s.pipe, ingest := s.ingest, out := s.out, rcd := s.rcd, counters := s.counters } = s) ∧
    (∀ (c : RefCommit) (s : State), s.corr.pending = some c → s.dict.changes.length < 512 →
      exec (.refPositionCommitted false) s = .next { s with
        corr.pending := none,
        dict.changes := s.dict.changes ++ [⟨0xFF, c.role, c.port, c.sess, s.now, (Config.sha384 [byte c.value]).take 8⟩] }) ∧
    (∀ (c : RefCommit) (s : State), s.Shaped → s.corr.pending = some c → s.dict.changes.length < 512 →
      ∃ t, exec (.refPositionCommitted true) s = .next t ∧ t.corr.pending = none ∧ t.settings = s.settings ∧
        t.dict.changes = s.dict.changes ++ [⟨1, c.role, c.port, c.sess, s.now, (Config.sha384 [byte c.value]).take 8⟩] ∧
        (∀ ant i, ant < 2 → 1 ≤ i → i ≤ 3 → namesAnt c.value ant = true →
          t.shownVal ((0x2802 + ant) * 256 + i) = .num (s.refSource c.value ant i)) ∧
        (s.refMoves c.value = true → ∀ k, 1 ≤ k → k ≤ 128 → (t.machine k).rtk.solve = .none))) ∧
  ((∀ (s : State), (s.shownNat 0x280700).testBit 0 = true →
      ∃ t, exec .rtcmCompose s = .next t ∧ t.settings = s.settings ∧ t.time = s.time ∧ t.machines = s.machines ∧
        t.corr.stream = s.corr.stream + ((s.rtcmMessages (FT.cycleStart s.now)).map List.length).sum ∧
        t.counter 0x28400C = s.counter 0x28400C + BitVec.ofNat 64 (s.rtcmMessages (FT.cycleStart s.now)).length ∧
        t.counter 0x28400D = s.counter 0x28400D + BitVec.ofNat 64 (splitCount (s.msmDue (FT.cycleStart s.now)))) ∧
    (∀ (s : State), (s.shownNat 0x280700).testBit 0 = false → exec .rtcmCompose s = .next s))

/-! ### The fleet pipeline (chapter 07) -/

/-- R231 to R234, R237: INGEST numbers the first held input and appends it to the log; SORT keeps a table edit for the
snapshot and follows the logged stop state; a solution that is still missing at the slot's end + 4 ms is replaced by its
stand-in and counted; before that, or once it is there, nothing happens. -/
def Obligations.IngestSortAndSolveDeadline : Prop :=
  (∀ (e : LogEntry) (l : List LogEntry) (s : State), s.ingest.held = e :: l → ∃ t, exec .ingestInput s = .next t ∧
    t.ingest.held = l ∧ t.ingest.unsorted = s.ingest.unsorted ++ [{ e with num := s.ingest.next }] ∧
    t.ingest.next = (s.ingest.next + 1) % 2 ^ 32 ∧
    t.ingest.outbox = (if s.inPair = true then s.ingest.outbox ++ [{ e with num := s.ingest.next }] else s.ingest.outbox) ∧
    t.counter 0x2C1002 = s.counter 0x2C1002 + 1 ∧
    { t with ingest := s.ingest, counters := s.counters, pipe := s.pipe, shown := s.shown } = s) ∧
  (∀ (e : LogEntry) (l : List LogEntry) (s : State), s.ingest.unsorted = e :: l → ∃ t, exec .sortInput s = .next t ∧
    t.ingest.unsorted = l ∧
    (e.source = 0x10 → isTrackEdit (Edit.ofData e.commit e.stamp e.data).obj = true →
      t.tracks = { s.tracks with edits := s.tracks.edits ++ [Edit.ofData e.commit e.stamp e.data] }) ∧
    (e.source = 0x10 → isTaskEdit (Edit.ofData e.commit e.stamp e.data).obj = true →
      t.tasks = { s.tasks with edits := s.tasks.edits ++ [Edit.ofData e.commit e.stamp e.data] }) ∧
    (e.source = 0x20 → field e.data 0 1 = 0 → t.pipe.stopOn = false ∧ t.pipe.released = some e.stamp) ∧
    (e.source = 0x20 → field e.data 0 1 = 1 → t.pipe.stopOn = true)) ∧
  (∀ (k : Fin 129) (w : SolveWait) (s : State), s.Shaped → 1 ≤ k.val → s.follows = false →
    (s.machine k.val).wait = some w → w.standIn = false → s.ripe w.end_ 4000000 = true → s.arriving (solves k.val) = false →
    ∃ t, exec (.solveDeadline k) s = .next t ∧
      (t.machine k.val).wait = some { w with standIn := true } ∧
      (t.machine k.val).sent = some (s.recordSent (Machine.standIn k.val (w.cycle % 65536) (s.machine k.val).sent)) ∧
      t.counter 0x2C1006 = s.counter 0x2C1006 + 1 ∧ t.settings = s.settings) ∧
  (∀ (k : Fin 129) (s : State), s.follows = true ∨ s.solveLate k.val = false → exec (.solveDeadline k) s = .next s)

/-- R244, R245, R247: COMPOSE, complete or at its deadline t₀ + 96 ms, hands LAUNCH the units of the machines that are
neither late nor under check, and waits before it; LAUNCH puts each into the list of its machine's port, unless the cycle is
the quiet one. R254: the slack minima start again on a write. R357, R381, R398: during a stop every enabled port whose burst
is over is loaded with a STOP frame of its channel; outside one, the only enabled port is loaded with one frame in a DOWN
slot. R24, R350, R366: the edge of AIRn_TXEN sends the loaded frame and counts it. R250: a discontinuity being prepared gives
up what the pipeline has in flight; with none pending nothing happens. -/
def Obligations.ComposeLaunchAndSlots : Prop :=
  ((∀ (late : List (Fin 129)) (moves : List (Fin 8)) (s : State), s.pipe.planning = true → s.follows = false →
      s.pipe.withheld ≠ some (FT.cycle s.pipe.snapAt) → ((late = [] ∧ moves = []) ∨ s.ripe s.pipe.snapAt 16000000 = true) →
      ∃ t, exec (.composeDeadline late moves) s = .next t ∧
        t.pipe.composed = (s.cycleUnits.filter fun u =>
          !(s.withheldMachines (late.map fun k => k.val)).contains u.machine) ∧
        t.pipe.moves = (s.tracks.moves.filter fun m => !(moves.map fun n => n.val).contains m.1) ∧
        t.pipe.planning = false ∧ t.tracks.moves = [] ∧ t.tracks.res = s.tracks.res ∧ t.settings = s.settings) ∧
    (∀ (late : List (Fin 129)) (moves : List (Fin 8)) (s : State), s.pipe.planning = false ∨ s.composeWaits = true ∨
      ((late ≠ [] ∨ moves ≠ []) ∧ s.ripe s.pipe.snapAt 16000000 = false) → exec (.composeDeadline late moves) s = .next s) ∧
    (∀ s : State, s.Shaped → s.pipe.quiet ≠ some (FT.cycle s.now) → ∃ t, exec .launchRelease s = .next t ∧
      t.pipe.composed = [] ∧ t.pipe.moves = [] ∧ t.settings = s.settings ∧
      ∀ u ∈ s.pipe.composed, (s.machine u.machine).port < 8 →
        { u with since := s.now, limit := FT.addNs (FT.cycleStart s.now) 96000000 } ∈ t.launchList (s.machine u.machine).port) ∧
    (∀ s : State, s.pipe.quiet = some (FT.cycle s.now) → ∃ t, exec .launchRelease s = .next t ∧
      t.pipe.composed = [] ∧ t.pipe.moves = [] ∧ t.pipe.quiet = none ∧ t.axes = s.axes ∧ t.tasks = s.tasks) ∧
    (∀ (w : Writer) (v : List Byte) (s : State), s.writeCheck (s.roleOf w) 0x2C0900 v = 0 →
      exec (.slackClear w v) s = .next { s with
        pipe.slack := List.replicate 7 0x7FFFFFFF,
        out := .answer w.port.val w.sess.val 0x2C0900 0 :: s.out,
        counters := bump 0x104002 1 s.counters })) ∧
  ((∀ (busy : Fin 256) (s : State), s.Shaped → s.stop.latch = true →
      s.releasesAt (FT.addNs (FT.slotStart s.now) 4000000) = false → s.pair.output = true →
      FT.le s.stop.quietUntil (FT.addNs (FT.slotStart s.now) 4000000) = true → ∃ t, exec (.slotLoad busy) s = .next t ∧
        t.settings = s.settings ∧ t.machines = s.machines ∧
        t.counter 0x303012 = s.counter 0x303012 +
          BitVec.ofNat 64 ((List.range 8).filter fun n => s.airEnabled.testBit n).length ∧
        ∀ n, n < 8 → s.airEnabled.testBit n = true → s.comparatorOf (0x100 + n) = none → (t.airPort n).seq = (s.airPort n).seq ∧
          (t.airPort n).armed = some ⟨s.channelAt n (FT.addNs (FT.slotStart s.now) 4000000),
            s.airPsdu 2 (s.airPort n).seq 0xFFFF (FT.asn (FT.addNs (FT.slotStart s.now) 4000000) % 256)
              (stopPayload 1 0 (FT.asn (FT.addNs (FT.slotStart s.now) 4000000))), true⟩) ∧
    (∀ (busy : Fin 256) (n : Nat) (s : State), s.Shaped → n < 8 → (∀ m, m < 8 → (s.airEnabled.testBit m = true ↔ m = n)) →
      s.stop.latch = false → busy.val.testBit n = false → s.comparatorOf (0x100 + n) = none →
      s.slotKind n (FT.slot (FT.addNs (FT.slotStart s.now) 4000000)) = 4 → ∃ t, exec (.slotLoad busy) s = .next t ∧
        t.settings = s.settings ∧ (t.airPort n).seq = (s.airPort n).seq ∧ t.counter 0x303001 = s.counter 0x303001 ∧
        ∃ psdu, (t.airPort n).armed = some ⟨s.channelAt n (FT.addNs (FT.slotStart s.now) 4000000), psdu, false⟩) ∧
    (∀ (k : Fin 32) (n : Nat) (x : FT) (f : AirTx) (s : State), s.Shaped → (s.comparator k).target = some x →
      FT.le x s.now = true → n < 8 → (s.comparator k).owner = 0x100 + n → (s.airPort n).armed = some f →
      s.pair.output = true → s.airEnabled.testBit n = true → f.stop = s.stop.latch → ∃ t, exec (.comparatorFire k) s = .next t ∧
        t.out = .air n f.chan f.psdu :: .edge k (0x100 + n) x false :: s.out ∧ (t.airPort n).armed = none ∧
        (t.airPort n).seq = ((s.airPort n).seq + 1) % 256 ∧ t.counter 0x303001 = s.counter 0x303001 + 1 ∧
        { t with time := s.time, air := s.air, counters := s.counters, out := s.out } = s) ∧
    (∀ (p : PendingStep) (s : State), s.time.pending = some p → ∃ t, exec .discontinuityPrepare s = .next t ∧
      t.pipe.void = some ⟨p.sec, 0, 0⟩ ∧ t.pipe.composed = [] ∧ t.pipe.planning = false ∧ t.tracks.open_ = false ∧
      t.tracks.legs = [] ∧ t.tracks.moves = [] ∧ t.tasks = { s.tasks with due := false } ∧ t.time.now = s.time.now) ∧
    (∀ s : State, s.time.pending = none → s.time.pendingSet = none → exec .discontinuityPrepare s = .next s))

/-! ### The dataflow scheduler (chapter 10) -/

/-- R323 to R327: an operand that finds room takes a free slot; the last operand of its instance makes the operation ready;
one of a withdrawn speculation, a repeated one and one without room are counted, the last with its instance discarded; an
instance held for the lifetime of its class is discarded, not before. -/
def Obligations.MatchingStore : Prop :=
  (∀ (template key : Nat) (c : Fin 16) (last idx : Fin 4) (s : State),
    (∀ o ∈ s.sched.store, ¬(o.template = template ∧ o.key = key ∧ o.index = idx.val)) →
    (s.sched.freeOwn (classPrio c.val) ≠ 0 ∨ s.sched.freeShared ≠ 0) → s.sched.freeSlots ≠ [] →
    (s.sched.instanceOf template key).length < last.val → s.pending ≠ [] ∨ s.sched.ready = [] →
    ∃ t o, exec (.operandPost template key c last idx none) s = .next t ∧
      t.sched.store = s.sched.store ++ [o] ∧ o.slot ∈ s.sched.freeSlots ∧ o.template = template ∧ o.key = key ∧
      o.index = idx.val ∧ o.cls = c.val ∧ o.stamp = s.now ∧ t.sched.ready = s.sched.ready ∧
      t.sched.high = max s.sched.high (s.sched.store.length + 1) ∧ t.counter 0x2F4002 = s.counter 0x2F4002 + 1 ∧
      { t with sched := s.sched, counters := s.counters, freeCount := s.freeCount } = s) ∧
  (∀ (template key : Nat) (c : Fin 16) (s : State), s.sched.instanceOf template key = [] →
    (s.sched.freeOwn (classPrio c.val) ≠ 0 ∨ s.sched.freeShared ≠ 0) → s.pending ≠ [] ∨ (∀ x ∈ s.sched.cores, x.state ≠ 1) →
    ∃ t o, exec (.operandPost template key c 0 0 none) s = .next t ∧ t.sched.ready = s.sched.ready ++ [o] ∧
      o.template = template ∧ o.key = key ∧ o.cls = c.val ∧ o.prio = classPrio c.val ∧ o.ready = s.now) ∧
  (∀ (template key n : Nat) (c : Fin 16) (last idx : Fin 4) (s : State), n ∈ s.sched.withdrawn →
    s.pending ≠ [] ∨ s.sched.ready = [] → exec (.operandPost template key c last idx (some n)) s = .next { s with
      counters := bump 0x2F4007 1 (bump 0x2F4002 1 s.counters) }) ∧
  (∀ (template key : Nat) (c : Fin 16) (last idx : Fin 4) (s : State),
    (∀ o ∈ s.sched.store, ¬(o.template = template ∧ o.key = key ∧ o.index = idx.val)) →
    s.sched.freeOwn (classPrio c.val) = 0 → s.sched.freeShared = 0 →
    ∃ t, exec (.operandPost template key c last idx none) s = .next t ∧ t.sched.instanceOf template key = [] ∧
      t.counter 0x2F4003 = s.counter 0x2F4003 + 1 ∧ t.settings = s.settings) ∧
  (∀ (template key : Nat) (o : Operand) (l : List Operand) (s : State), s.sched.instanceOf template key = o :: l →
    s.ripe o.stamp (lifetime o.cls) = true → s.arriving (dispatches template key) = false →
    ∃ t, exec (.instanceExpired template key) s = .next t ∧ t.sched.instanceOf template key = [] ∧
      t.counter 0x2F4005 = s.counter 0x2F4005 + 1 ∧
      { t with sched := s.sched, counters := s.counters, rcd := s.rcd } = s) ∧
  (∀ (template key : Nat) (s : State), ((s.sched.instanceOf template key).head?.all fun o => !s.ripe o.stamp (lifetime o.cls)) = true ∨
    s.arriving (dispatches template key) = true → exec (.instanceExpired template key) s = .next s)

/-- R331, R334, R335, R342, R344: a core that takes work gets the most urgent ready operation, or blocks; a ready operation
held too long moves up one queue; a watchdog on a core that runs nothing, or that has run for less than 80,000 CK_HB counts,
does nothing, and on another it puts a single unit into SAFE; a trace datagram, once 80 records wait or one is 10 ms old,
moves the stream on; the high-water mark starts again from the present occupancy. -/
def Obligations.CoresAndTrace : Prop :=
  (∀ (k : Fin 16) (o : Operation) (s : State), s.Shaped → (s.coreAt k.val).state ≠ 3 → s.domainOn 3 = true →
    s.pending = [] → (∀ j < 16, j ≠ k.val → (s.coreAt j).state ≠ 1) → mostUrgent s.sched.ready = some o →
    ∃ t, exec (.take k) s = .next t ∧ t.coreAt k.val = ⟨2, s.time.ticks, some o, s.now, s.time.hb⟩ ∧ t.sched.instanceOf o.template o.key = [] ∧
      t.counter 0x2F4001 = s.counter 0x2F4001 + 1 ∧ { t with sched := s.sched, counters := s.counters } = s) ∧
  (∀ (k : Fin 16) (s : State), s.Shaped → (s.coreAt k.val).state ≠ 3 → s.domainOn 3 = true →
    s.sched.ready = [] ∨ s.pending ≠ [] →
    ∃ t, exec (.take k) s = .next t ∧ t.coreAt k.val = ⟨1, s.time.ticks, none, s.now, s.time.hb⟩ ∧ t.sched.ready = s.sched.ready ∧ t.sched.store = s.sched.store ∧
      { t with sched := s.sched, counters := s.counters } = s) ∧
  (∀ (template key : Nat) (o : Operation) (s : State),
    (s.sched.ready.find? fun x => x.template == template && x.key == key) = some o → holdLimit o.cls ≠ 0 → o.prio < 6 →
    s.ripe o.ready ((o.prio - classPrio o.cls + 1) * holdLimit o.cls) = true → ∃ t, exec (.operationPromoted template key) s = .next t ∧
      (∀ p ∈ t.sched.ready, p.template = template → p.key = key → p.prio = o.prio + 1) ∧
      t.sched.ready.length = s.sched.ready.length ∧ t.counter 0x2F4006 = s.counter 0x2F4006 + 1 ∧
      { t with sched := s.sched, counters := s.counters } = s) ∧
  (∀ (template key : Nat) (o : Operation) (s : State),
    (s.sched.ready.find? fun x => x.template == template && x.key == key) = some o →
    holdLimit o.cls = 0 ∨ 6 ≤ o.prio ∨ s.ripe o.ready ((o.prio - classPrio o.cls + 1) * holdLimit o.cls) = false →
    exec (.operationPromoted template key) s = .next s) ∧
  (∀ (k : Fin 16) (s : State), (s.coreAt k.val).state ≠ 2 ∨ s.hbPassed (s.coreAt k.val).handedHb 80000 = false ∨
    s.arriving (takes k.val) = true → exec (.coreWatchdogExpired k) s = .next s) ∧
  (∀ (k : Fin 16) (s : State), (s.coreAt k.val).state = 2 → s.hbPassed (s.coreAt k.val).handedHb 80000 = true →
    s.arriving (takes k.val) = false → s.inPair = false → ∃ t, exec (.coreWatchdogExpired k) s = .next t ∧ t.power.mode = .safe ∧ t.power.pendingMode = none ∧
      t.settings = s.settings) ∧
  (∀ s : State, s.sinkUsed 0x2F3501 = false → s.sinkUsed 0x2F3502 = false → exec .traceDatagram s = .next s) ∧
  (∀ s : State, s.sinkUsed 0x2F3501 = true → s.sched.trace.length ≤ s.sched.head → s.sched.sent ≤ s.sched.head →
    s.traceDue (max s.sched.sent (s.sched.head - s.sched.trace.length)) = true →
    ∃ t, exec .traceDatagram s = .next t ∧ t.settings = s.settings ∧
      t.sched.sent = min s.sched.head (max s.sched.sent (s.sched.head - s.sched.trace.length) + 80) ∧
      t.counter 0x2F4009 = s.counter 0x2F4009 + BitVec.ofNat 64 (s.sinksInUse 0x2F3500 2)) ∧
  (∀ s : State, s.traceDue (max s.sched.sent (s.sched.head - s.sched.trace.length)) = false → exec .traceDatagram s = .next s) ∧
  (∀ (w : Writer) (v : List Byte) (s : State), s.writeCheck (s.roleOf w) 0x2F0300 v = 0 →
    exec (.storeHighClear w v) s = .next { s with
      sched.high := s.sched.store.length,
      out := .answer w.port.val w.sess.val 0x2F0300 0 :: s.out,
      counters := bump 0x104002 1 s.counters })

/-! ### Tracks, reservations and tasks (chapters 08, 09) -/

/-- R231, R291, R300: while the per-cycle path runs, a table write or command that passes its checks is answered ACCEPTED and
goes to the input log; no table changes before a snapshot takes it. -/
def Obligations.TableWritesAreLogged : Prop :=
  ∀ (w : Writer) (v rest : List Byte) (s : State),
    (s.editLogged w 0x400100 v → exec (.nodeEntryWrite w v) s = .next (s.afterLoggedEdit w 0x400100 v)) ∧
    (s.editLogged w 0x410100 v → exec (.segEntryWrite w v) s = .next (s.afterLoggedEdit w 0x410100 v)) ∧
    (s.editLogged w 0x2D3000 (1#8 :: rest) →
      exec (.hostReservationCreate w rest) s = .next (s.afterLoggedEdit w 0x2D3000 (1#8 :: rest))) ∧
    (s.editLogged w 0x2D3000 (2#8 :: rest) →
      exec (.hostReservationCancel w rest) s = .next (s.afterLoggedEdit w 0x2D3000 (2#8 :: rest))) ∧
    (s.editLogged w 0x2D3000 (3#8 :: rest) →
      exec (.releaseMachineHolds w rest) s = .next (s.afterLoggedEdit w 0x2D3000 (3#8 :: rest))) ∧
    (s.editLogged w 0x2D3000 (4#8 :: rest) →
      exec (.releaseEntryHold w rest) s = .next (s.afterLoggedEdit w 0x2D3000 (4#8 :: rest))) ∧
    (s.editLogged w 0x430100 v → exec (.taskEntryWrite w v) s = .next (s.afterLoggedEdit w 0x430100 v)) ∧
    (s.editLogged w 0x2E3000 (1#8 :: rest) →
      exec (.taskCancel w rest) s = .next (s.afterLoggedEdit w 0x2E3000 (1#8 :: rest))) ∧
    (s.editLogged w 0x2E3000 (2#8 :: rest) →
      exec (.taskRequeue w rest) s = .next (s.afterLoggedEdit w 0x2E3000 (2#8 :: rest))) ∧
    (s.editLogged w 0x2E3000 (3#8 :: rest) →
      exec (.taskClear w rest) s = .next (s.afterLoggedEdit w 0x2E3000 (3#8 :: rest)))

/-- R291 to R294: where the per-cycle path does not run, a write of a node or segment that passes the rows of R293 is in its
table at once, a host reservation is CONFIRMED, a cancelled one FREE, and a release frees exactly HELD entries: every one of
a machine, or the entry named. -/
def Obligations.TrackEditsApply : Prop :=
  (∀ (w : Writer) (v : List Byte) (s : State), s.editAtOnce w 0x400100 v →
    (∀ lead, tableRows lead ⟨0, s.now, 0x400100, s.cfg 0x400000, v⟩ s.tracks
      (s.tracks.putNode (s.cfg 0x400000) (Node.decode v)) = true) →
    ∃ t, exec (.nodeEntryWrite w v) s = .next t ∧ t.tracks.node (s.cfg 0x400000) = Node.decode v ∧
      (∀ i, i ≠ s.cfg 0x400000 → t.tracks.node i = s.tracks.node i) ∧ t.tracks.segs = s.tracks.segs ∧
      t.settings = s.settings ∧ t.out = .answer w.port.val w.sess.val 0x400100 1 :: s.out) ∧
  (∀ (w : Writer) (v : List Byte) (s : State), s.editAtOnce w 0x410100 v →
    tableRows (fun g => s.gateLead g) ⟨0, s.now, 0x410100, s.cfg 0x410000, v⟩ s.tracks
      (s.tracks.putSeg (s.cfg 0x410000) (Seg.decode v)) = true →
    ∃ t, exec (.segEntryWrite w v) s = .next t ∧ t.tracks.seg (s.cfg 0x410000) = Seg.decode v ∧
      (∀ j, j ≠ s.cfg 0x410000 → t.tracks.seg j = s.tracks.seg j) ∧ t.tracks.nodes = s.tracks.nodes ∧
      t.settings = s.settings) ∧
  (∀ (w : Writer) (rest : List Byte) (s : State), s.editAtOnce w 0x2D3000 (1#8 :: rest) → s.gatesServe →
    (s.hostCreate (FT.nextCycleMs s.now % 2 ^ 40) (1#8 :: rest)).1 = 0 →
    ∃ t i, exec (.hostReservationCreate w rest) s = .next t ∧ s.tracks.freeEntry = some i ∧
      t.tracks.entry i = ⟨.confirmed, 0, 0, field (1#8 :: rest) 2 2, 0, field (1#8 :: rest) 8 8, field (1#8 :: rest) 16 8⟩ ∧
      (∀ j, j ≠ i → t.tracks.entry j = s.tracks.entry j)) ∧
  (∀ (w : Writer) (rest : List Byte) (s : State), s.editAtOnce w 0x2D3000 (2#8 :: rest) → s.gatesServe →
    (s.tracks.entry (field (2#8 :: rest) 2 2)).state ≠ .free → (s.tracks.entry (field (2#8 :: rest) 2 2)).machine = 0 →
    ∃ t, exec (.hostReservationCancel w rest) s = .next t ∧ t.tracks.entry (field (2#8 :: rest) 2 2) = .free ∧
      (∀ j, j ≠ field (2#8 :: rest) 2 2 → t.tracks.entry j = s.tracks.entry j)) ∧
  (∀ (w : Writer) (rest : List Byte) (s : State), s.editAtOnce w 0x2D3000 (3#8 :: rest) → s.gatesServe →
    ∃ t, exec (.releaseMachineHolds w rest) s = .next t ∧ ∀ i,
      ((s.tracks.entry i).state = .held → (s.tracks.entry i).machine = field (3#8 :: rest) 1 1 →
        t.tracks.entry i = .free) ∧
      ((s.tracks.entry i).state = .held → (s.tracks.entry i).machine ≠ field (3#8 :: rest) 1 1 →
        SMap.wf (fun _ => Resv.free) s.tracks.res = true → t.tracks.entry i = s.tracks.entry i)) ∧
  (∀ (w : Writer) (rest : List Byte) (s : State), s.editAtOnce w 0x2D3000 (4#8 :: rest) → s.gatesServe →
    (s.tracks.entry (field (4#8 :: rest) 2 2)).state = .held →
    ∃ t, exec (.releaseEntryHold w rest) s = .next t ∧ t.tracks.entry (field (4#8 :: rest) 2 2) = .free ∧
      (∀ j, j ≠ field (4#8 :: rest) 2 2 → t.tracks.entry j = s.tracks.entry j) ∧
      t.counter 0x2D4007 = s.counter 0x2D4007 + 1)

/-- R300, R301, R305: likewise a task written between VALID nodes is WAITING or OPEN by its release, a cancelled task
CANCELLED with cause 5, a FAILED one requeued OPEN, and a final one cleared EMPTY; no other task changes. -/
def Obligations.TaskEditsApply : Prop :=
  (∀ (w : Writer) (v : List Byte) (s : State), s.editAtOnce w 0x430100 v →
    (s.task (s.cfg 0x430000)).state = .empty → (s.tracks.node (Task.decode v).startNode).valid = true →
    (s.tracks.node (Task.decode v).endNode).valid = true →
    ∃ t, exec (.taskEntryWrite w v) s = .next t ∧
      t.task (s.cfg 0x430000) = { Task.decode v with
        state := if (Task.decode v).release = 0 ∨
          msAtOrBefore (Task.decode v).release (FT.nextCycleMs s.now % 2 ^ 40) = true then .open_ else .waiting } ∧
      (∀ i, i ≠ s.cfg 0x430000 → t.task i = s.task i) ∧ t.counter 0x2E4001 = s.counter 0x2E4001 + 1 ∧
      t.tracks = s.tracks ∧ t.settings = s.settings) ∧
  (∀ (w : Writer) (rest : List Byte) (s : State), s.editAtOnce w 0x2E3000 (1#8 :: rest) →
    commandFits 1 (s.task (field (1#8 :: rest) 2 2)) = true →
    ∃ t, exec (.taskCancel w rest) s = .next t ∧ (t.task (field (1#8 :: rest) 2 2)).state = .cancelled ∧
      (t.task (field (1#8 :: rest) 2 2)).cause = 5 ∧ t.counter 0x2E4006 = s.counter 0x2E4006 + 1 ∧
      (∀ i, i ≠ field (1#8 :: rest) 2 2 → t.task i = s.task i) ∧ t.tracks = s.tracks) ∧
  (∀ (w : Writer) (rest : List Byte) (s : State), s.editAtOnce w 0x2E3000 (2#8 :: rest) →
    (s.task (field (2#8 :: rest) 2 2)).state = .failed →
    ∃ t, exec (.taskRequeue w rest) s = .next t ∧ (t.task (field (2#8 :: rest) 2 2)).state = .open_ ∧
      (t.task (field (2#8 :: rest) 2 2)).retries = 0 ∧
      (∀ i, i ≠ field (2#8 :: rest) 2 2 → t.task i = s.task i) ∧ t.tracks = s.tracks) ∧
  (∀ (w : Writer) (rest : List Byte) (s : State), s.editAtOnce w 0x2E3000 (3#8 :: rest) →
    commandFits 3 (s.task (field (3#8 :: rest) 2 2)) = true →
    ∃ t, exec (.taskClear w rest) s = .next t ∧ t.task (field (3#8 :: rest) 2 2) = Task.blank ∧
      (∀ i, i ≠ field (3#8 :: rest) 2 2 → t.task i = s.task i) ∧ t.tracks = s.tracks)

/-- R227, R239 to R243, R250, R252, R303, R304: a snapshot, unless a discontinuity is near, opens the conflict check and the
ALLOT run of its cycle and takes the edits stamped by its instant; a leg without conflict is CONFIRMED whole; a check or a
run that has not ended by its deadline, t₀ + 88 ms or t₀ + 95 ms, is given up, its legs FREE, and one that has ended, or
whose end has arrived, is left alone; a run counts the OPEN tasks and applies a reported start. -/
def Obligations.SnapshotReserveAllot : Prop :=
  (∀ s : State, s.perCycle = true → s.pipe.void = none → ∃ t, exec .snapshot s = .next t ∧ t.pipe.snapAt = FT.snapInstant s.now ∧
    t.pipe.planning = true ∧ t.tracks.open_ = true ∧ t.tasks.due = true ∧ t.settings = s.settings ∧
    t.tracks.edits = s.tracks.edits.filter (fun e => !FT.le e.stamp (FT.snapInstant s.now)) ∧
    t.counter 0x2C1001 = s.counter 0x2C1001 + 1) ∧
  (∀ s : State, s.perCycle = false ∨ s.pipe.void ≠ none → exec .snapshot s = .next s) ∧
  (∀ (l : Leg) (s : State), s.tracks.open_ = true → s.tracks.legs = [l] → s.legConflict l = none →
    ∃ t, exec .reserveCheckComplete s = .next t ∧ t.tracks.open_ = false ∧ t.tracks.legs = [] ∧
      (∀ i ∈ l.entries, t.tracks.entry i = { s.tracks.entry i with state := .confirmed }) ∧
      (∀ i, i ∉ l.entries → t.tracks.entry i = s.tracks.entry i) ∧
      t.counter 0x500002 = s.counter 0x500002 + BitVec.ofNat 64 l.entries.length ∧ t.settings = s.settings) ∧
  (∀ s : State, s.tracks.open_ = true → s.follows = false → s.ripe s.pipe.snapAt 8000000 = true → s.arriving endsCheck = false →
    ∃ t, exec .reserveDeadline s = .next t ∧
    t.tracks.open_ = false ∧ t.tracks.legs = [] ∧ (∀ l ∈ s.tracks.legs, ∀ i ∈ l.entries, t.tracks.entry i = .free) ∧
    t.counter 0x2C1007 = s.counter 0x2C1007 + 1 ∧ t.settings = s.settings) ∧
  (∀ s : State, s.tracks.open_ = false ∨ s.follows = true ∨ s.ripe s.pipe.snapAt 8000000 = false ∨ s.arriving endsCheck = true →
    exec .reserveDeadline s = .next s) ∧
  (∀ s : State, s.tasks.due = true → ∃ t, exec .allotRun s = .next t ∧ t.tasks.due = false ∧ t.tasks.inEdits = [] ∧
    t.tasks.inReports = [] ∧ t.settings = s.settings ∧
    t.shownNat 0x2E3200 = SMap.count (fun x => x.state == .open_) t.tasks.tasks ∧
    (∀ r, s.pipe.stopSnap = true → s.tasks.inEdits = [] → s.tasks.inReports = [r] → r.code = 1 → r.task < 1024 →
      (s.task r.task).state = .awarded → (s.task r.task).machine = r.machine → (s.task r.task).award = r.award →
      (t.task r.task).state = .running ∧ t.counter 0x2E4003 = s.counter 0x2E4003 + 1)) ∧
  (∀ s : State, s.tasks.due = false → s.follows = false → exec .allotRun s = .next s) ∧
  (∀ s : State, s.tasks.due = true → s.follows = false → s.ripe s.pipe.snapAt 15000000 = true → s.arriving runsAllot = false →
    ∃ t, exec .allotDeadline s = .next t ∧
    t.tasks = { s.tasks with due := false } ∧ t.counter 0x2C1008 = s.counter 0x2C1008 + 1 ∧ t.settings = s.settings) ∧
  (∀ s : State, s.tasks.due = false ∨ s.follows = true ∨ s.ripe s.pipe.snapAt 15000000 = false ∨ s.arriving runsAllot = true →
    exec .allotDeadline s = .next s)

/-! ### Field Air (chapter 11) -/

/-- R363, R373, R377: a frame of an associated machine that passes every row is counted, updates its sequence number, contact
and signal level, and goes to INGEST; one that fails a row is counted under it and changes nothing else, but a duplicate is a
contact; a port that is disabled or held by a stop receives nothing. R372, R377, R378: a JOIN_REQ of a registered, ABSENT
machine with a free slot makes it JOINING there; one of an unregistered EUI-64 is refused and counted. -/
def Obligations.UplinkFrames : Prop :=
  (∀ (n : Fin 8) (p : List Byte) (age k : Nat) (rssi : Int) (s : State), s.Shaped →
    s.airEnabled.testBit n.val = true → s.stop.latch = false → s.ingestOpen = true → s.follows = false →
    s.ingest.held.length < 256 → psduType p = 5 → field p 4 2 = k → 1 ≤ k → k ≤ 128 → (s.machine k).link = .associated →
    s.rxCheck (s.rxFrame n.val p age rssi) = 0 → ∃ t, exec (.upFrameReceived n p age rssi) s = .next t ∧
      t.ingest.held = insertInput ⟨0, n.val, s.now, p, 0⟩ s.ingest.held ∧
      (t.machine k).seq = field p 1 1 ∧ (t.machine k).missed = 0 ∧ (t.machine k).rssi = rssi ∧
      (t.machine k).contact = (s.rxFrame n.val p age rssi).first ∧ (t.machine k).link = .associated ∧
      t.counter 0x303002 = s.counter 0x303002 + 1 ∧ t.settings = s.settings ∧
      (∀ j, 1 ≤ j → j ≠ k → t.machine j = s.machine j)) ∧
  (∀ (n : Fin 8) (p : List Byte) (age row : Nat) (rssi : Int) (s : State),
    s.airEnabled.testBit n.val = true → s.stop.latch = false → s.rxCheck (s.rxFrame n.val p age rssi) = row → row ≠ 0 →
    row ≠ 9 → ∃ t, exec (.upFrameReceived n p age rssi) s = .next t ∧
      t.counter (0x303000 + row) = s.counter (0x303000 + row) + 1 ∧ t.out = .spi n.val [7#8, 0#8, 0#8] :: s.out ∧
      { t with counters := s.counters, rcd := s.rcd, out := s.out } = s) ∧
  (∀ (n : Fin 8) (p : List Byte) (age k : Nat) (rssi : Int) (s : State), s.Shaped → s.airEnabled.testBit n.val = true →
    s.stop.latch = false → s.follows = false → field p 4 2 = k → 1 ≤ k → k ≤ 128 → s.rxCheck (s.rxFrame n.val p age rssi) = 9 →
    ∃ t, exec (.upFrameReceived n p age rssi) s = .next t ∧ t.counter 0x303009 = s.counter 0x303009 + 1 ∧
      (t.machine k).contact = (s.rxFrame n.val p age rssi).first ∧ (t.machine k).missed = 0 ∧ t.ingest = s.ingest ∧
      t.settings = s.settings) ∧
  (∀ (n : Fin 8) (p : List Byte) (age : Nat) (rssi : Int) (s : State),
    s.airEnabled.testBit n.val = false ∨ s.stop.latch = true →
    exec (.upFrameReceived n p age rssi) s = .next s ∧ exec (.joinReq n p age rssi) s = .next s) ∧
  (∀ (n : Fin 8) (p : List Byte) (age k i : Nat) (rssi : Int) (s : State), s.Shaped →
    s.airEnabled.testBit n.val = true → s.stop.latch = false → s.ingestOpen = true → s.follows = false → psduType p = 6 →
    s.rxCheck (s.rxFrame n.val p age rssi) = 0 → (s.airPort n.val).queue.length < 8 →
    (machineNumbers.find? fun k => leNat (psduPayload p) != 0 && s.cfg (0x302000 + k) == leNat (psduPayload p)) = some k →
    (s.machine k).link = .absent → s.pinned k = false → s.assignSlot k n.val = some i →
    ∃ t, exec (.joinReq n p age rssi) s = .next t ∧ (t.machine k).link = .joining ∧ (t.machine k).port = n.val ∧
      (t.machine k).slot = i ∧ (t.machine k).period = 1 ∧
      (t.airPort n.val).queue = (s.airPort n.val).queue ++ [⟨leNat (psduPayload p), 0, n.val, k, i, 1, s.now⟩] ∧
      t.counter 0x303002 = s.counter 0x303002 + 1 ∧ t.settings = s.settings ∧
      (∀ j, 1 ≤ j → j ≠ k → t.machine j = s.machine j)) ∧
  (∀ (n : Fin 8) (p : List Byte) (age : Nat) (rssi : Int) (s : State), s.Shaped →
    s.airEnabled.testBit n.val = true → s.stop.latch = false → s.ingestOpen = true → s.follows = false → psduType p = 6 →
    s.rxCheck (s.rxFrame n.val p age rssi) = 0 → (s.airPort n.val).queue.length < 8 →
    (machineNumbers.find? fun k => leNat (psduPayload p) != 0 && s.cfg (0x302000 + k) == leNat (psduPayload p)) = none →
    ∃ t, exec (.joinReq n p age rssi) s = .next t ∧ t.counter 0x30300E = s.counter 0x30300E + 1 ∧
      (t.airPort n.val).queue = (s.airPort n.val).queue ++ [⟨leNat (psduPayload p), 1, n.val, 0, 0, 0, s.now⟩] ∧
      t.machines = s.machines)

/-- R79, R80, R377 to R379: an expected uplink that has not come 3.9 ms into its slot, nor comes with that tick, is counted
once against the machine, and the fourth in a row declares it ADRIFT; a machine whose join limit ends is ABSENT; a new period
takes force at its cycle. -/
def Obligations.ExchangesAndPeriods : Prop :=
  (∀ (n : Fin 8) (k : Nat) (s : State), s.Shaped → s.slotHolder n.val (FT.slot (FT.slotStart s.now)) = some k →
    (s.machine k).link = .associated → s.slotKind n.val (FT.slot (FT.slotStart s.now)) = 3 →
    s.exchangeIn k (FT.cycle (FT.slotStart s.now)) = true → s.pipe.stopOn = false →
    (∀ g ∈ (s.airPort n.val).got, g.1 ≠ FT.asn (FT.slotStart s.now)) →
    FT.lt s.now (FT.addNs (FT.slotStart s.now) 3900000) = false → s.arriving (frameAt n.val) = false →
    (s.airPort n.val).judged ≠ some (FT.asn (FT.slotStart s.now)) → ∃ t, exec (.receiveDeadline n) s = .next t ∧ (t.machine k).missed = (s.machine k).missed + 1 ∧
      t.counter 0x30300B = s.counter 0x30300B + 1 ∧ t.settings = s.settings ∧
      (3 ≤ (s.machine k).missed → (t.machine k).link = .adrift ∧ t.counter 0x30300C = s.counter 0x30300C + 1) ∧
      (∀ j, 1 ≤ j → j ≠ k → t.machine j = s.machine j)) ∧
  (∀ (n : Fin 8) (s : State), s.slotHolder n.val (FT.slot (FT.slotStart s.now)) = none →
    ∃ t, exec (.receiveDeadline n) s = .next t ∧ { t with air := s.air } = s) ∧
  (∀ (n : Fin 8) (s : State), FT.lt s.now (FT.addNs (FT.slotStart s.now) 3900000) = true ∨ s.arriving (frameAt n.val) = true ∨
    (s.airPort n.val).judged = some (FT.asn (FT.slotStart s.now)) → exec (.receiveDeadline n) s = .next s) ∧
  (∀ (k : Fin 129) (c : Nat) (s : State), s.Shaped → 1 ≤ k.val → (s.machine k.val).joinSent = some c →
    (s.machine k.val).link = .joining → c + s.eff 0x300900 ≤ FT.cycle s.now →
    ∃ t, exec (.joinAbandoned k) s = .next t ∧ (t.machine k.val).link = .absent ∧ (t.machine k.val).joinSent = none ∧
      (s.pinned k.val = false → (t.machine k.val).slot = 0 ∧ (t.machine k.val).period = 0) ∧
      { t with machines := s.machines, rcd := s.rcd, counters := s.counters } = s) ∧
  (∀ (k : Fin 129) (p e : Nat) (s : State), 1 ≤ k.val → (s.machine k.val).change = some (p, e) → e ≤ FT.cycle s.now →
    exec (.periodEffective k) s = .next { s with
      machines := modAt s.machines (k.val - 1) fun m => { m with period := p, change := none } }) ∧
  (∀ (k : Fin 129) (p e : Nat) (s : State), (s.machine k.val).change = some (p, e) → FT.cycle s.now < e →
    exec (.periodEffective k) s = .next s)

/-- R349, R356, R365, R380, R382: a channel of the hop set whose window fails is paired with the free spare from 20 cycles
on; a pair that has stood long enough is announced for removal; an announced remap and the radio settings due take force at
their slot 0. -/
def Obligations.ChannelsAndRadioSettings : Prop :=
  (∀ (c sp : Nat) (w : List Bool) (s : State), s.air.windows = [(c, w)] → s.air.pending = none →
    s.eff 0x300A01 ≤ w.length → s.eff 0x300A02 * s.eff 0x300A01 ≤ ((w.take (s.eff 0x300A01)).filter id).length * 100 →
    c < hopSize s.channels → (∀ p ∈ s.air.remap, p.chan ≠ c ∧ p.spare ≠ c) → s.freeSpare = some sp →
    ∃ t, exec .channelExclusionEval s = .next t ∧
      t.air.pending = some (FT.cycle s.now + 20, s.air.remap ++ [⟨c, sp, s.now⟩]) ∧ t.air.remap = s.air.remap ∧
      t.counter 0x303010 = s.counter 0x303010 + 1 ∧
      { t with air := s.air, counters := s.counters, rcd := s.rcd } = s) ∧
  (∀ (p : RemapPair) (s : State), s.air.pending = none →
    (s.air.remap.find? fun q => FT.le (FT.addNs q.made (s.eff 0x300A03 * 1000000000)) s.now) = some p →
    ∃ t, exec .exclusionExpired s = .next t ∧
      t.air.pending = some (FT.cycle s.now + 20, s.air.remap.filter fun q => q != p) ∧
      SMap.getD [] p.chan t.air.windows = [] ∧ t.counter 0x303010 = s.counter 0x303010 + 1 ∧
      { t with air := s.air, counters := s.counters, rcd := s.rcd } = s) ∧
  (∀ (c : Nat) (l : List RemapPair) (s : State), s.air.pending = some (c, l) → c ≤ FT.cycle s.now →
    exec .remapApply s = .next { s with air := { s.air with remap := l, pending := none } }) ∧
  (∀ (c : Nat) (l : List RemapPair) (s : State), s.air.pending = some (c, l) → FT.cycle s.now < c →
    exec .remapApply s = .next s) ∧
  (∀ s : State, ∃ t, exec .radioConfigApply s = .next t ∧
    t.effective = (s.air.changes.filter fun c => decide (c.1 ≤ FT.cycle s.now)).foldl
      (fun m c => SMap.put Catalog.dflt c.2.1 c.2.2 m) s.effective ∧
    t.air.changes = (s.air.changes.filter fun c => !decide (c.1 ≤ FT.cycle s.now)) ∧
    { t with effective := s.effective, air := s.air, out := s.out } = s)

/-! ### Stopping the fleet (chapter 12) -/

/-- R385 to R391: a qualified stop level sets the latch and its source bit, lapses a pending release and cancels every armed
move and waiting start; inputs of the chain that have differed for longer than 0x3401, with no change arriving, raise a
discrepancy, held until both inputs have returned together. -/
def Obligations.StopInputs : Prop :=
  (∀ (i : Fin 3) (s : State), s.Shaped → s.stop.latch = false → ∃ t, exec (.stopInputQualified i) s = .next t ∧
    t.stop.latch = true ∧ t.stop.mask = s.stop.mask ||| 2 ^ i.val ∧ t.stop.release = none ∧ t.stop.since = s.now ∧
    t.stop.setTick = s.time.ticks ∧ t.counter (stopCounter i.val) = s.counter (stopCounter i.val) + 1 ∧
    (∀ n, n < 8 → (t.axis n).armed = [] ∧ (t.axis n).start = none) ∧
    (i.val = 0 → t.stop.inA = true) ∧ (i.val = 1 → t.stop.inB = true) ∧ (i.val = 2 → t.stop.key = true) ∧
    t.settings = s.settings ∧ t.tracks = s.tracks) ∧
  (∀ (i : Fin 3) (s : State), s.stop.latch = true → ∃ t, exec (.stopInputQualified i) s = .next t ∧
    t.stop.latch = true ∧ t.stop.mask = s.stop.mask ||| 2 ^ i.val ∧ t.stop.release = none ∧ t.stop.since = s.stop.since ∧
    { t with stop := s.stop, counters := s.counters } = s) ∧
  (∀ (c : Nat) (s : State), s.stop.apart = some c → c + hbMs (s.cfg 0x340100) < s.time.hb → s.arriving chainChanges = false →
    ∃ t, exec .stopDiscrepancy s = .next t ∧ t.stop.discrepancy = true ∧ t.stop.bothStop = false ∧ t.stop.apart = none ∧
    t.counter 0x343007 = s.counter 0x343007 + 1 ∧ { t with stop := s.stop, counters := s.counters, rcd := s.rcd } = s) ∧
  (∀ s : State, (s.stop.apart.all fun c => decide (s.time.hb ≤ c + hbMs (s.cfg 0x340100))) = true ∨ s.arriving chainChanges = true →
    exec .stopDiscrepancy s = .next s) ∧
  (∀ s : State, exec (.stopInputRunLevel 2) s = .next { s with
    stop := { s.stop with key := false, apart := if s.stop.inA = s.stop.inB then none else s.stop.apart } }) ∧
  (∀ (t0 : Nat) (s : State), s.stop.bothStop = true → s.stop.firstRun = some t0 → s.stop.inB = false →
    s.time.hb - t0 ≤ hbMs (s.cfg 0x340100) → ∃ t, exec (.stopInputRunLevel 0) s = .next t ∧ t.stop.inA = false ∧
      t.stop.discrepancy = false ∧ t.stop.bothStop = false ∧ { t with stop := s.stop } = s) ∧
  (∀ (t0 : Nat) (s : State), s.stop.bothStop = true → s.stop.firstRun = some t0 → s.stop.inA = false →
    hbMs (s.cfg 0x340100) < s.time.hb - t0 → ∃ t, exec (.stopInputRunLevel 1) s = .next t ∧ t.stop.inB = false ∧
      t.stop.discrepancy = s.stop.discrepancy ∧ { t with stop := s.stop } = s)

/-- R392 to R400: a STOP command that passes the filter sets the latch and keeps its COUNTER; one that fails a row leaves the
latch and is counted; a RELEASE that may be accepted waits for its slot 0, and there clears the latch, if every condition
still holds. R405, R406: a STOPOUT ball that differs from its level sets the fault, which clears only 1 s after it under the
latch; in SAFE every enabled port is strobed every 16,000 CK_HB counts, and an axis whose ramp is over drops EN and IREF. -/
def Obligations.StopCommandsReleaseAndOutputs : Prop :=
  ((∀ (r : Fin 3) (w : Writer) (m : List Byte) (s : State),
      s.stopFilter (if r.val = 2 then some (s.roleOf w) else none) m = none → field m 1 1 = 1 →
      ∃ t, exec (.stopCommandStop r w m) s = .next t ∧ t.stop.latch = true ∧ t.stop.lastResult = 0 ∧
        t.stop.mask = s.stop.mask ||| 8 ∧ t.stop.release = none ∧
        t.stop.counters = s.stop.counters.set (field m 2 1 % 4) (field m 4 4) ∧
        t.stop.stored = s.stop.stored.set (field m 2 1 % 4) (field m 4 4) ∧ t.settings = s.settings ∧
        (r.val = 2 → ∃ l, t.out = .answer w.port.val w.sess.val 0x341000 0 :: l)) ∧
    (∀ (r : Fin 3) (w : Writer) (m : List Byte) (row code : Nat) (s : State),
      s.stopFilter (if r.val = 2 then some (s.roleOf w) else none) m = some (row, code) →
      ∃ t, exec (.stopCommandStop r w m) s = .next t ∧ t.stop = { s.stop with lastResult := code } ∧
        t.counter 0x343008 = s.counter 0x343008 + 1 ∧
        { t with stop := s.stop, counters := s.counters, rcd := s.rcd, out := s.out } = s) ∧
    (∀ (r : Fin 3) (w : Writer) (m : List Byte) (s : State),
      s.stopFilter (if r.val = 2 then some (s.roleOf w) else none) m = none → field m 1 1 = 2 → s.releaseCode = 1 →
      ∃ t, exec (.stopCommandRelease r w m) s = .next t ∧ t.stop.latch = s.stop.latch ∧ t.stop.lastResult = 1 ∧
        t.stop.release = some ⟨s.now, FT.slot0From (FT.addNs s.now 4000000), r.val, field m 2 1 % 4⟩ ∧
        t.stop.counters = s.stop.counters.set (field m 2 1 % 4) (field m 4 4) ∧
        { t with stop := s.stop, counters := s.counters, out := s.out } = s) ∧
    (∀ (r : Release) (s : State), s.stop.release = some r → FT.le r.due s.now = true → s.arriving bringsStop = false →
      s.releaseBars = 0 → ∃ t, exec .stopReleased s = .next t ∧
      t.stop.latch = false ∧ t.stop.mask = 0 ∧ t.stop.release = none ∧ t.counter 0x343005 = s.counter 0x343005 + 1 ∧
      { t with stop := s.stop, counters := s.counters, rcd := s.rcd, ingest := s.ingest } = s) ∧
    (∀ (r : Release) (s : State), s.stop.release = some r → FT.le r.due s.now = true → s.arriving bringsStop = false →
      s.releaseBars ≠ 0 →
      exec .stopReleased s = .next { s with stop.release := none, counters := bump 0x343006 1 s.counters }) ∧
    (∀ s : State, (s.stop.release.all fun r => FT.lt s.now r.due) = true ∨ s.arriving bringsStop = true →
      exec .stopReleased s = .next s)) ∧
  ((∀ (o : Fin 2) (read : Bool) (s : State), read ≠ s.stopout → ∃ t, exec (.stopoutFault o read) s = .next t ∧
      t.stop = { s.stop with outFault := true, faultTick := s.time.ticks } ∧ t.counter 0x343009 = s.counter 0x343009 + 1 ∧
      { t with stop := s.stop, counters := s.counters, rcd := s.rcd } = s) ∧
    (∀ (o : Fin 2) (s : State), exec (.stopoutFault o s.stopout) s = .next s) ∧
    (∀ s : State, s.stop.latch = true → max s.stop.faultTick s.stop.setTick + 500000000 ≤ s.time.ticks →
      exec .stopoutFaultClear s = .next { s with stop.outFault := false }) ∧
    (∀ s : State, s.stop.latch = false ∨ s.time.ticks < max s.stop.faultTick s.stop.setTick + 500000000 →
      exec .stopoutFaultClear s = .next s) ∧
    (∀ s : State, s.power.mode = .safe → s.stop.strobeHb + 16000 ≤ s.time.hb →
      exec .safeStrobe s = .next { s with stop.strobeHb := s.time.hb, out := .strobe s.airEnabled :: s.out }) ∧
    (∀ s : State, s.time.hb < s.stop.strobeHb + 16000 → exec .safeStrobe s = .next s) ∧
    (∀ (n : Fin 8) (s : State), s.power.mode = .safe →
      ((s.axis n.val).ramping = false ∨ 1000000000 ≤ s.time.ticks - s.stop.safeTick) →
      exec (.safeAxisDrop n) s = .next { s with axes := modAt s.axes n.val fun a => { a with en := false, current := .off } }) ∧
    (∀ (n : Fin 8) (s : State), s.power.mode ≠ .safe → exec (.safeAxisDrop n) s = .next s ∧ exec .safeStrobe s = .next s))

/-! ### Ethernet and CAN (chapter 13) -/

/-- R418 to R425: a frame that fails a row is counted under it; a stop datagram meets the filter of chapter 12; any other
frame enters the queue of its rule while there is space. A port whose link is down receives nothing. R79, R80, R417, R421,
R427 to R429: the oldest reassembly is given up after 100 ms, counted; a link takes the state its PHY reports, and each
change is counted; a role identity newly live is announced again every 100 ms; an ARP request unanswered for 1 s is repeated
twice and then its datagram dropped; a neighbour is forgotten after 300 s; before its time nothing happens. -/
def Obligations.EthernetFramesAndLinks : Prop :=
  ((∀ (p : Fin 4) (f : List Byte) (ok : Bool) (s : State), s.linkUp p.val = false →
      exec (.ethFrameReceived p f ok []) s = .next s) ∧
    (∀ (p : Fin 4) (f : List Byte) (ok : Bool) (row : Nat) (s : State), s.linkUp p.val = true → s.ethRow p.val f ok = row →
      row ≠ 0 → ∃ t, exec (.ethFrameReceived p f ok []) s = .next t ∧
        t.counter ((0x3640 + p.val) * 256 + row) = s.counter ((0x3640 + p.val) * 256 + row) + 1 ∧
        { t with counters := s.counters, rcd := s.rcd } = s) ∧
    (∀ (p : Fin 4) (f : List Byte) (s : State), s.linkUp p.val = true → s.ethRow p.val f true = 0 → isStopTap f = true →
      ∃ t, exec (.ethFrameReceived p f true []) s = .next t ∧
        t.stop.lastResult = s.stopCode none (udpPayload (ipData (framePayload f))) ∧ t.settings = s.settings ∧
        t.counter ((0x3640 + p.val) * 256 + 1) = s.counter ((0x3640 + p.val) * 256 + 1) + 1 ∧
        (t.stop.lastResult ≠ 0 → t.stop.latch = s.stop.latch)) ∧
    (∀ (p : Fin 4) (f : List Byte) (rule : Nat) (s : State), s.linkUp p.val = true → s.ethRow p.val f true = 0 →
      etherType f ≠ 0x0800 → etherType f ≠ 0x0806 → etherType f ≠ 0x88F7 → (s.decidingRule p.val f).getD 0 = rule →
      rule.testBit 38 = false →
      s.queueUsed p.val (rule / 2 ^ 35 % 8) + frameSpace f.length ≤ s.queueSpace p.val (rule / 2 ^ 35 % 8) →
      exec (.ethFrameReceived p f true []) s = .next { s with
        net.eth := modAt s.net.eth p.val fun e =>
          { e with queues := modAt e.queues (rule / 2 ^ 35 % 8) fun q => q ++ [frameSpace f.length] },
        counters := bump ((0x3640 + p.val) * 256 + 1) 1 s.counters })) ∧
  ((∀ (p : Fin 4) (r : Reassembly) (l : List Reassembly) (s : State), (s.ethPort p.val).frags = r :: l →
      s.timedOut r.since 50000000 (ethArrival p.val (fragmentOf r.key)) = true → exec (.fragmentTimeout p) s = .next { s with
        net.eth := modAt s.net.eth p.val fun e => { e with frags := e.frags.filter fun x => x.key != r.key },
        counters := bump ((0x3640 + p.val) * 256 + 11) 1 s.counters }) ∧
    (∀ (p : Fin 4) (s : State), ((s.ethPort p.val).frags.head?.all fun r =>
      !s.timedOut r.since 50000000 (ethArrival p.val (fragmentOf r.key))) = true → exec (.fragmentTimeout p) s = .next s) ∧
    (∀ (p : Fin 4) (rate : Fin 7) (full cut : Bool) (s : State), s.Shaped → s.ethOperates p.val = true →
      linkStatus rate.val full ≠ (s.ethPort p.val).link → ∃ t, exec (.linkChanged p rate full cut) s = .next t ∧
        (t.ethPort p.val).link = linkStatus rate.val full ∧
        t.counter ((0x3640 + p.val) * 256 + 16) = s.counter ((0x3640 + p.val) * 256 + 16) +
          (if (linkStatus rate.val full % 16 = 0 ↔ (s.ethPort p.val).link % 16 = 0) then 0 else 1) ∧
        (∀ q, q ≠ p.val → t.ethPort q = s.ethPort q) ∧
        { t with net := s.net, counters := s.counters, rcd := s.rcd } = s) ∧
    (∀ (p : Fin 4) (rate : Fin 7) (full cut : Bool) (s : State), linkStatus rate.val full = (s.ethPort p.val).link →
      exec (.linkChanged p rate full cut) s = .next s) ∧
    (∀ (n : Nat) (s : State), s.net.garp = n + 1 → s.passed s.net.garpAt 50000000 = true → ∃ t, exec .gratuitousArp s = .next t ∧
      t.net.garp = n ∧ t.net.garpAt = s.time.ticks ∧
      (∀ p, p < 4 → s.linkUp p = true → (s.ethPort p).txIdle s.time.ticks = true → s.roleIp p ≠ zeros 4 → s.Shaped →
        .eth p (etherFrame (s.cfg (0x360901 + p)) (s.pcpOf p 1) broadcastMac (s.roleMac p) 0x0806
          (arpPacket 1 (s.roleMac p) (s.roleIp p) (zeros 6) (s.roleIp p))) ∈ t.out) ∧
      { t with net := s.net, out := s.out, counters := s.counters } = s) ∧
    (∀ s : State, s.net.garp = 0 ∨ s.passed s.net.garpAt 50000000 = false → exec .gratuitousArp s = .next s) ∧
    (∀ (p : Fin 4) (hop : List Byte) (w : ArpWait) (s : State), s.Shaped →
      ((s.ethPort p.val).waits.find? fun x => x.hop == hop) = some w → w.tries < 3 →
      s.timedOut w.since 500000000 (ethArrival p.val (arpFrom hop)) = true → s.linkUp p.val = true →
      (s.ethPort p.val).txIdle s.time.ticks = true → ∃ t, exec (.arpRetry p hop) s = .next t ∧
        t.out = .eth p.val (etherFrame (s.cfg (0x360901 + p.val)) (s.pcpOf p.val 1) broadcastMac (Config.unitMac p.val) 0x0806
          (arpPacket 1 (Config.unitMac p.val) (s.unitIp p.val) (zeros 6) hop)) :: s.out ∧
        ((t.ethPort p.val).waits.find? fun x => x.hop == hop) = some { w with tries := w.tries + 1, since := s.time.ticks } ∧
        { t with net := s.net, out := s.out, counters := s.counters } = s) ∧
    (∀ (p : Fin 4) (hop : List Byte) (w : ArpWait) (s : State), s.Shaped →
      ((s.ethPort p.val).waits.find? fun x => x.hop == hop) = some w → 3 ≤ w.tries →
      s.timedOut w.since 500000000 (ethArrival p.val (arpFrom hop)) = true →
      ∃ t, exec (.arpRetry p hop) s = .next t ∧ (∀ x ∈ (t.ethPort p.val).waits, x.hop ≠ hop) ∧
        t.counter ((0x3640 + p.val) * 256 + 14) = s.counter ((0x3640 + p.val) * 256 + 14) + 1 ∧
        { t with net := s.net, counters := s.counters, rcd := s.rcd } = s) ∧
    (∀ (p : Fin 4) (hop : List Byte) (s : State), (((s.ethPort p.val).waits.find? fun x => x.hop == hop).all fun w =>
      !s.timedOut w.since 500000000 (ethArrival p.val (arpFrom hop))) = true → exec (.arpRetry p hop) s = .next s) ∧
    (∀ (p : Fin 4) (ip : List Byte) (s : State), exec (.arpEntryExpired p ip) s = .next { s with
      net.eth := modAt s.net.eth p.val fun e =>
        { e with arp := e.arp.filter fun x => !(x.ip == ip && s.passed x.since 150000000000) } }))

/-- R436 to R439: bus-off stops a port, counted; recovered, it sends what waits; the status frame goes out with the next SEQ;
changed settings take force. -/
def Obligations.CanPorts : Prop :=
  (∀ (c : Fin 2) (errors detected : Nat) (s : State), s.Shaped → (s.canPort c.val).state = 1 ∨ (s.canPort c.val).state = 2 →
    ∃ t, exec (.canBusOff c errors detected) s = .next t ∧ (t.canPort c.val).state = 3 ∧
      (t.canPort c.val).errors = errors % 65536 ∧
      t.counter ((0x3670 + c.val) * 256 + 5) = s.counter ((0x3670 + c.val) * 256 + 5) + 1 ∧
      t.counter ((0x3670 + c.val) * 256 + 4) = s.counter ((0x3670 + c.val) * 256 + 4) + BitVec.ofNat 64 detected ∧
      (∀ d, d ≠ c.val → t.canPort d = s.canPort d) ∧ { t with net := s.net, counters := s.counters, rcd := s.rcd } = s) ∧
  (∀ (c : Fin 2) (errors detected : Nat) (s : State), (s.canPort c.val).state = 3 →
    exec (.canBusOff c errors detected) s = .next s) ∧
  (∀ (c : Fin 2) (s : State), s.Shaped → (s.canPort c.val).state = 3 → ∃ t, exec (.canBusRecovered c) s = .next t ∧
    (t.canPort c.val).state = 1 ∧ (t.canPort c.val).errors = 0 ∧ (t.canPort c.val).queue = [] ∧
    t.out.length = s.out.length + (s.canPort c.val).queue.length ∧
    (∀ x ∈ (s.canPort c.val).queue, .can c.val x.1 x.2 ∈ t.out) ∧
    { t with net := s.net, counters := s.counters, out := s.out } = s) ∧
  (∀ (c : Fin 2) (s : State), s.Shaped → s.cfg (0x366401 + c.val) ≠ 0 →
    (s.canPort c.val).state = 1 ∨ (s.canPort c.val).state = 2 → ∃ t, exec (.canStatusFrame c) s = .next t ∧
      t.out = .can c.val (0x180 + (s.canPort c.val).node) (s.statusFrame (s.canPort c.val).seq) :: s.out ∧
      (t.canPort c.val).seq = ((s.canPort c.val).seq + 1) % 65536 ∧
      t.counter ((0x3670 + c.val) * 256 + 2) = s.counter ((0x3670 + c.val) * 256 + 2) + 1 ∧
      { t with net := s.net, counters := s.counters, out := s.out } = s) ∧
  (∀ (c : Fin 2) (s : State), s.cfg (0x366401 + c.val) = 0 → exec (.canStatusFrame c) s = .next s) ∧
  (∀ (c : Fin 2) (s : State), exec (.canReconfigure c) s = .next { s with
    net.can := modAt s.net.can c.val fun x =>
      { x with node := s.cfg (0x366101 + c.val), nominal := s.cfg (0x366201 + c.val), data := s.cfg (0x366301 + c.val) } })

/-! ### Memory errors (chapter 01) -/

/-- R42, R264: an uncorrectable error in data holds a CONFIRMED entry with cause DATA, returns an AWARDED task to OPEN
without spending a retry, and clears a machine's filter. R43, R44: one in control makes a unit of a pair drive FREE and stop
its heartbeats, and puts a single unit into SAFE with the latch set. R647: a corrected word is counted. -/
def Obligations.MemoryErrors : Prop :=
  (∀ (i : Nat) (s : State), (s.tracks.entry (i % 16384)).state = .confirmed →
    ∃ t, exec (.uncorrectableDataError 0 i) s = .next t ∧
      t.tracks.entry (i % 16384) = { s.tracks.entry (i % 16384) with state := .held, cause := 5 } ∧
      (∀ j, j ≠ i % 16384 → t.tracks.entry j = s.tracks.entry j) ∧ t.counter 0x2D4006 = s.counter 0x2D4006 + 1 ∧
      t.settings = s.settings) ∧
  (∀ (i : Nat) (s : State), (s.task (i % 1024)).state = .awarded → ∃ t, exec (.uncorrectableDataError 1 i) s = .next t ∧
    (t.task (i % 1024)).state = .open_ ∧ (t.task (i % 1024)).machine = 0 ∧
    (t.task (i % 1024)).retries = (s.task (i % 1024)).retries ∧ (∀ j, j ≠ i % 1024 → t.task j = s.task j) ∧
    t.tracks = s.tracks ∧ t.settings = s.settings) ∧
  (∀ (i : Nat) (s : State), s.Shaped → ∃ t, exec (.uncorrectableDataError 2 i) s = .next t ∧
    (t.machine (i % 128 + 1)).rtk = Solver.init ∧ t.settings = s.settings ∧ t.tracks = s.tracks) ∧
  (∀ (c : Fin 6) (p a : Nat) (s : State), s.inPair = true → ∃ t, exec (.unitFault c p a) s = .next t ∧
    t.pair.drive = .free ∧ t.pair.faulted = true ∧ t.pair.hbOut = false ∧ t.pair.handover = none ∧
    t.power.faultTick = some s.time.ticks ∧ t.power.mode = s.power.mode ∧ t.settings = s.settings) ∧
  (∀ (c : Fin 6) (p a : Nat) (s : State), s.inPair = false → s.power.mode ≠ .safe → ∃ t,
    exec (.unitFault c p a) s = .next t ∧ t.power.mode = .safe ∧ t.stop.latch = true ∧ t.stop.mask = s.stop.mask ||| 32 ∧
    t.pair.drive = .free ∧ t.counter 0x112003 = s.counter 0x112003 + 1 ∧ t.settings = s.settings) ∧
  (∀ (d : Bool) (s : State), exec (.eccCorrected d) s = .next { s with
    counters := bump (if d = true then 0x3F5004 else 0x3F5003) 1 s.counters })

/-! ### Network time and timed I/O (chapter 14) -/

/-- R442 to R445, R451, R452: a Sync of the master that a slave port follows, with its stamp stored, moves the servo, at once
or with its Follow_Up; one innovation beyond the limit is counted, and 0x2049 in a row mark the domain and re-centre it; a
Delay_Resp completes the mean path delay. A message of no domain is counted and moves no domain. -/
def Obligations.PtpFollowing : Prop :=
  (∀ (m : PtpMsg) (b : Bool) (x : Int) (s : State), m.kind = 0 → s.tsHost m.port.val = false → s.accepts m = some b →
    (s.stampsTaken m.port.val m.taken).stampFits m.port.val = true → s.fromMaster b m = true → m.twoStep = false →
    x = FT.minus (s.rxStamp m.port.val m.raw) (FT.addUnits m.origin (corrUnits m.corr + s.asymmetry m.port.val)) - s.pathDelay b →
    ∃ t, exec (.ptpSync m) s = .next t ∧ s.servoTakes b x t ∧
      (t.domain b).syncT2 = s.rxStamp m.port.val m.raw ∧ t.domain (!b) = s.domain (!b) ∧
      t.counter 0x206001 = s.counter 0x206001 + 1 ∧ { t with ptp := s.ptp, counters := s.counters, rcd := s.rcd } = s) ∧
  (∀ (m : PtpMsg) (b : Bool) (w : PtpWait) (x : Int) (s : State), m.kind = 8 → s.tsHost m.port.val = false →
    s.accepts m = some b → s.fromMaster b m = true → (s.domain b).waitSync = some w → w.port = m.port.val → w.seqId = m.seq →
    x = FT.minus w.got (FT.addUnits m.origin (w.corr + corrUnits m.corr)) - s.pathDelay b →
    ∃ t, exec (.ptpFollowUp m) s = .next t ∧ s.servoTakes b x t ∧ (t.domain b).waitSync = none ∧
      (t.domain b).syncT2 = w.got ∧ t.domain (!b) = s.domain (!b) ∧
      { t with ptp := s.ptp, counters := s.counters, rcd := s.rcd } = s) ∧
  (∀ (m : PtpMsg) (b : Bool) (w : PtpWait) (s : State), m.kind = 9 → s.tsHost m.port.val = false → s.accepts m = some b →
    s.fromMaster b m = true → m.toMe = true → (s.domain b).waitDelay = some w → w.port = m.port.val → w.seqId = m.seq →
    (s.domain b).lastSync.isSome = true → ∃ t, exec (.ptpDelayResp m) s = .next t ∧
      (t.domain b).delay = (FT.minus (s.domain b).syncT2 (s.domain b).syncT1 + FT.minus m.origin w.sent - corrUnits m.corr) / 2 ∧
      (t.domain b).lastDelay = some s.time.ticks ∧ (t.domain b).waitDelay = none ∧ t.domain (!b) = s.domain (!b) ∧
      { t with ptp := s.ptp } = s) ∧
  (∀ (m : PtpMsg) (s : State), m.kind = 8 → s.tsHost m.port.val = false → s.accepts m = none →
    ∃ t, exec (.ptpFollowUp m) s = .next t ∧ t.domain false = s.domain false ∧ t.domain true = s.domain true ∧
      t.counter 0x206005 = s.counter 0x206005 + 1 ∧ { t with ptp := s.ptp, counters := s.counters } = s)

/-- R442, R447: a master answers a Delay_Req whose stamp is stored; a port of a peer-to-peer domain answers a Pdelay_Req; a
Pdelay_Resp, or its Follow_Up, completes the peer delay of its port. -/
def Obligations.PtpAnswersAndPeerDelay : Prop :=
  (∀ (m : PtpMsg) (b : Bool) (s : State), m.kind = 1 → s.tsHost m.port.val = false → s.accepts m = some b →
    (s.stampsTaken m.port.val m.taken).stampFits m.port.val = true → s.isMaster b m.port.val = true →
    s.peerToPeer b = false → s.lineFree m.port.val → ∃ t, exec (.ptpDelayReq m) s = .next t ∧
      t.out = .eth m.port.val (s.ptpFrame b m.port.val 9 m.seq 0 (corrUnits m.corr - (s.rxStamp m.port.val m.raw).frac)
        (s.domCfgI b 9) (ptpTime (s.rxStamp m.port.val m.raw) ++ m.requester)) :: s.out ∧
      t.domain false = s.domain false ∧ t.domain true = s.domain true) ∧
  (∀ (m : PtpMsg) (sent : FT) (b : Bool) (s : State), m.kind = 2 → s.tsHost m.port.val = false → s.accepts m = some b →
    (s.stampsTaken m.port.val m.taken).stampFits m.port.val = true → s.peerToPeer b = true → s.oneStep b = true →
    s.lineFree m.port.val → ∃ t, exec (.ptpPdelayReq m sent) s = .next t ∧
      t.out = .eth m.port.val (s.ptpFrame b m.port.val 3 m.seq 0 (corrUnits m.corr +
        FT.minus (s.txStamp m.port.val sent) (s.rxStamp m.port.val m.raw)) 0x7F (zeros 10 ++ m.requester)) :: s.out ∧
      t.domain false = s.domain false ∧ t.domain true = s.domain true) ∧
  (∀ (m : PtpMsg) (b : Bool) (w : PtpWait) (s : State), s.Shaped → m.kind = 3 → s.tsHost m.port.val = false →
    s.accepts m = some b → (s.stampsTaken m.port.val m.taken).stampFits m.port.val = true →
    (s.peerPort b m.port.val).wait = some w → m.toMe = true → w.seqId = m.seq → m.twoStep = false →
    ∃ t, exec (.ptpPdelayResp m) s = .next t ∧
      t.peerPort b m.port.val = ⟨none, (FT.minus (s.rxStamp m.port.val m.raw) w.sent -
        (corrUnits m.corr + s.asymmetry m.port.val)) / 2, some s.time.ticks⟩ ∧ t.domain (!b) = s.domain (!b)) ∧
  (∀ (m : PtpMsg) (b : Bool) (w : PtpWait) (s : State), s.Shaped → m.kind = 10 → s.tsHost m.port.val = false →
    s.accepts m = some b → (s.peerPort b m.port.val).wait = some w → m.toMe = true → w.seqId = m.seq → w.got ≠ w.sent →
    ∃ t, exec (.ptpPdelayRespFollowUp m) s = .next t ∧
      t.peerPort b m.port.val = ⟨none, (FT.minus w.got w.sent - FT.minus m.origin w.remote - w.corr - corrUnits m.corr) / 2,
        some s.time.ticks⟩ ∧ t.domain (!b) = s.domain (!b) ∧ { t with ptp := s.ptp } = s)

/-- R447, R449, R451: a master port sends its Sync, in one message where the domain sends one-step, and its Announce; a slave
port its Delay_Req, a port of a peer-to-peer domain its Pdelay_Req; each takes the next sequenceId. A port outside the
domain, or given to the host, sends nothing. R442, R448, R449, R451, R469: an Announce is noted at its port, and the best
master clock algorithm decides the state of every port; so does a receipt timeout, which is counted and forgets what the port
heard; at most one port of a domain is its slave, and with none there is no grandmaster; a domain without a slave port is not
valid after an evaluation. -/
def Obligations.PtpMessagesAndDomains : Prop :=
  ((∀ (b : Bool) (p : Fin 4) (raw : FT) (n : Nat) (s : State), s.ptpMaySend b p.val = true → s.isMaster b p.val = true →
      s.oneStep b = true → s.lineFree p.val → ∃ t, exec (.ptpSyncTransmit b p raw n) s = .next t ∧
        t.out = .eth p.val (s.ptpFrame b p.val 0 (s.domain b).seqSync 0 (s.txStamp p.val raw).frac (s.domCfgI b 7)
          (ptpTime (s.txStamp p.val raw))) :: s.out ∧
        (t.domain b).seqSync = ((s.domain b).seqSync + 1) % 65536 ∧ t.domain (!b) = s.domain (!b)) ∧
    (∀ (b : Bool) (p : Fin 4) (s : State), s.ptpMaySend b p.val = true → s.isMaster b p.val = true → s.domCfg b 5 = 1 →
      s.lineFree p.val → ∃ t, exec (.ptpAnnounceTransmit b p) s = .next t ∧
        (t.domain b).seqAnn = ((s.domain b).seqAnn + 1) % 65536 ∧
        t.out = .eth p.val (s.ptpFrame b p.val 11 (s.domain b).seqAnn s.announceFlags 0 (s.domCfgI b 8) (s.announced b).body) ::
          s.out ∧
        t.domain (!b) = s.domain (!b) ∧
        { t with ptp := s.ptp, counters := s.counters, out := s.out, net := s.net } = s) ∧
    (∀ (b : Bool) (p : Fin 4) (raw : FT) (n : Nat) (s : State), s.ptpMaySend b p.val = true → s.isSlave b p.val = true →
      s.peerToPeer b = false → s.lineFree p.val → ∃ t, exec (.ptpDelayReqTransmit b p raw n) s = .next t ∧
        t.out = .eth p.val (s.ptpFrame b p.val 1 (s.domain b).seqReq 0 (-s.asymmetry p.val) 0x7F (zeros 10)) :: s.out ∧
        (t.domain b).seqReq = ((s.domain b).seqReq + 1) % 65536 ∧ t.domain (!b) = s.domain (!b)) ∧
    (∀ (b : Bool) (p : Fin 4) (raw : FT) (n : Nat) (s : State), s.ptpMaySend b p.val = true → s.peerToPeer b = true →
      s.lineFree p.val → ∃ t, exec (.ptpPdelayReqTransmit b p raw n) s = .next t ∧
        t.out = .eth p.val (s.ptpFrame b p.val 2 (s.domain b).seqReq 0 (-s.asymmetry p.val) 0x7F (zeros 20)) :: s.out ∧
        (t.domain b).seqReq = ((s.domain b).seqReq + 1) % 65536 ∧ t.domain (!b) = s.domain (!b)) ∧
    (∀ (b : Bool) (p : Fin 4) (raw : FT) (n : Nat) (s : State), s.ptpMaySend b p.val = false →
      exec (.ptpSyncTransmit b p raw n) s = .next s ∧ exec (.ptpAnnounceTransmit b p) s = .next s ∧
      exec (.ptpDelayReqTransmit b p raw n) s = .next s ∧ exec (.ptpPdelayReqTransmit b p raw n) s = .next s)) ∧
  ((∀ (m : PtpMsg) (b : Bool) (s : State), s.Shaped → m.kind = 11 → s.tsHost m.port.val = false → s.accepts m = some b →
      ∃ t, exec (.ptpAnnounce m) s = .next t ∧
        (∀ p, p < 4 → t.portState b p = if s.inDomain b p = true then (s.announceNoted b m).recommended b p else 3) ∧
        (∀ p q, p < 4 → q < 4 → t.portState b p = 9 → t.portState b q = 9 → p = q) ∧
        ((∀ p, p < 4 → t.portState b p ≠ 9) → (t.domain b).gm = none) ∧
        t.domain (!b) = s.domain (!b) ∧ { t with ptp := s.ptp, counters := s.counters, rcd := s.rcd } = s) ∧
    (∀ (b : Bool) (p : Fin 4) (s : State), s.Shaped → s.inDomain b p.val = true →
      s.timedOut ((s.domain b).heard.getD p.val 0) (s.domCfg b 10 * logTicks (s.domCfgI b 8)) (announceAt p.val) = true →
      ∃ t, exec (.announceReceiptTimeout b p) s = .next t ∧ t.counter 0x206007 = s.counter 0x206007 + 1 ∧
      (t.domain b).foreign.getD p.val [] = [] ∧
      (∀ q, q < 4 → s.inDomain b q = false → t.portState b q = 3) ∧
      (∀ q r, q < 4 → r < 4 → t.portState b q = 9 → t.portState b r = 9 → q = r) ∧
      t.domain (!b) = s.domain (!b) ∧ { t with ptp := s.ptp, counters := s.counters, rcd := s.rcd } = s) ∧
    (∀ (b : Bool) (p : Fin 4) (s : State), s.inDomain b p.val = false ∨
      s.timedOut ((s.domain b).heard.getD p.val 0) (s.domCfg b 10 * logTicks (s.domCfgI b 8)) (announceAt p.val) = false →
      exec (.announceReceiptTimeout b p) s = .next s) ∧
    (∀ s : State, ∃ t, exec .ptpDomainEval s = .next t ∧ t.settings = s.settings ∧
      ((∀ x ∈ s.ptp.domA.states, x ≠ 9) → t.time.validA = none) ∧ ((∀ x ∈ s.ptp.domB.states, x ≠ 9) → t.time.validB = none) ∧
      t.ptp.domA.offset = -s.ptp.domA.filtered ∧ t.ptp.domB.offset = -s.ptp.domB.filtered ∧
      { t with ptp := s.ptp, counters := s.counters, rcd := s.rcd, effective := s.effective,
               time.validA := s.time.validA, time.validB := s.time.validB } = s))

/-- R459, R466, R467: a pop answers the oldest stamp, and removes it where the host reads the port; a captured edge is
stamped, less the pin's filter, into the pin's queue while it has room; a capture read answers and removes the oldest entry.
-/
def Obligations.StampsAndCaptures : Prop :=
  (∀ (w : Writer) (p : Fin 4) (e : TsEntry) (l : List TsEntry) (s : State), s.tsQueue p.val = e :: l →
    ∃ t, exec (.tsPop w p) s = .next t ∧
      t.out = .value w.port.val w.sess.val (0x205801 + p.val) 0 (TsEntry.bytes e) :: s.out ∧
      t.tsQueue p.val = (if s.tsHost p.val = true then l else e :: l) ∧ { t with ptp := s.ptp, out := s.out } = s) ∧
  (∀ (w : Writer) (p : Fin 4) (s : State), s.tsQueue p.val = [] →
    exec (.tsPop w p) s = .next { s with out := .value w.port.val w.sess.val (0x205801 + p.val) 0 (zeros 32) :: s.out }) ∧
  (∀ (k : Fin 16) (rising : Bool) (s : State), s.Shaped → 3 ≤ s.tioCfg k.val 1 →
    capturing (s.tioCfg k.val 1) rising = true → (s.tioPin k.val).lastEdge = none →
    (s.tioPin k.val).queue.length < 16 → ∃ t, exec (.tioCaptureEdge k rising) s = .next t ∧
      (t.tioPin k.val).queue = (s.tioPin k.val).queue ++ [⟨FT.addUnits s.now (-nsUnits (s.tioCfg k.val 6)), b2n !rising,
        min 65535 (s.tioPin k.val).lost, ((s.tioPin k.val).seq + 1) % 2 ^ 32⟩] ∧
      (t.tioPin k.val).lost = 0 ∧ t.counter 0x206008 = s.counter 0x206008 + 1 ∧
      { t with ptp := s.ptp, counters := s.counters } = s) ∧
  (∀ (k : Fin 16) (rising : Bool) (s : State), s.Shaped → 3 ≤ s.tioCfg k.val 1 →
    capturing (s.tioCfg k.val 1) rising = true → (s.tioPin k.val).lastEdge = none →
    16 ≤ (s.tioPin k.val).queue.length → ∃ t, exec (.tioCaptureEdge k rising) s = .next t ∧
      (t.tioPin k.val).queue = (s.tioPin k.val).queue ∧ (t.tioPin k.val).lost = (s.tioPin k.val).lost + 1 ∧
      t.counter 0x206009 = s.counter 0x206009 + 1) ∧
  (∀ (w : Writer) (k : Fin 16) (e : CapEntry) (l : List CapEntry) (s : State), (s.tioPin k.val).queue = e :: l →
    ∃ t, exec (.tioCapture w k) s = .next t ∧ (t.tioPin k.val).queue = l ∧
      t.out = .value w.port.val w.sess.val (0x209001 + k.val) 0 (CapEntry.bytes e) :: s.out ∧
      { t with ptp := s.ptp, out := s.out } = s)

/-! ### Gate axes (chapter 15) -/

/-- R476, R477, R479, R489, R250: a TARGET that no row of R479 refuses waits for the first 100 µs boundary 2 ms on; once it
is reached an IDLE axis in HOST mode moves by the profile from there, ramping at once where Field Time is about to jump, and
ends at the target; an armed gate move begins at its start on an IDLE axis in GATE mode and is dropped in any other state;
before its instant nothing moves. R480, R481, R485: at the boundary after their commit new limits replan a move to the same
target, with a deceleration that still stops it there; IREF is the run current from 1 ms before a move and the hold current
HOLD_DELAY after the last step. -/
def Obligations.AxisMovesAndCurrent : Prop :=
  ((∀ (w : Writer) (n : Fin 8) (v : List Byte) (s : State), s.Shaped → s.targetCheck (s.roleOf w) n.val v = 1 →
      ∃ t, exec (.axisTarget w n v) s = .next t ∧ State.AxisFrame n.val s t ∧
        t.axis n.val = { s.axis n.val with start := some (targetStart s.now, toSigned 32 (leNat v)) } ∧
        (s.tracks.gatesOn n.val = false →
          ∃ l, t.out = .answer w.port.val w.sess.val ((0x3820 + n.val) * 256 + 1) 1 :: l)) ∧
    (∀ (w : Writer) (n : Fin 8) (v : List Byte) (s : State), 1 ≤ s.roleOf w → s.axisCfg n.val 1 = 2 →
      s.power.mode ≠ .standby → s.stop.latch = false → (s.axis n.val).state = .idle → v.length = 4 →
      s.axisCfgI n.val 0x0B ≤ toSigned 32 (leNat v) → toSigned 32 (leNat v) ≤ s.axisCfgI n.val 0x0C →
      (s.axis n.val).limited (toSigned 32 (leNat v)) = false → s.targetCheck (s.roleOf w) n.val v = 1) ∧
    (∀ (w : Writer) (n : Fin 8) (v : List Byte) (s : State), s.targetCheck (s.roleOf w) n.val v ≠ 1 →
      ∃ t, exec (.axisTarget w n v) s = .next t ∧ t.axes = s.axes ∧ t.settings = s.settings ∧
        (s.tracks.gatesOn n.val = false →
          t.counter ((0x3840 + n.val) * 256 + 4) = s.counter ((0x3840 + n.val) * 256 + 4) + 1 ∧
          ∃ l, t.out = .answer w.port.val w.sess.val ((0x3820 + n.val) * 256 + 1) (s.targetCheck (s.roleOf w) n.val v) :: l)) ∧
    (∀ (n : Fin 8) (p : FT) (x : Int) (s : State), s.Shaped → (s.axis n.val).start = some (p, x) → FT.lt s.now p = false →
      s.arriving (beforeStart n.val) = false → (s.axis n.val).state = .idle → s.axisCfg n.val 1 = 2 → s.stop.latch = false →
      x ≠ (s.axis n.val).pos → ∃ t, exec (.moveStart n) s = .next t ∧ State.AxisFrame n.val s t ∧ (t.axis n.val).target = x ∧
        (t.axis n.val).start = none ∧ (t.axis n.val).current = .run ∧ (t.axis n.val).pos = (s.axis n.val).pos ∧
        (t.axis n.val).dir = s.dirLevel n.val (decide ((s.axis n.val).pos ≤ x)) ∧
        (s.pipe.void = none → (t.axis n.val).state = .moving ∧ (t.axis n.val).plan = some (s.planFor n.val p x)) ∧
        (s.pipe.void ≠ none → (t.axis n.val).state = .stopping ∧ (t.axis n.val).ramping = true ∧
          (t.axis n.val).landing = .idle)) ∧
    (∀ (n : Fin 8) (s : State), ((s.axis n.val).start.all fun x => FT.lt s.now x.1) = true ∨
      s.arriving (beforeStart n.val) = true → ∃ t, exec (.moveStart n) s = .next t ∧ t.axes = s.axes ∧ t.settings = s.settings) ∧
    (∀ (n i : Fin 8) (s : State), s.Shaped → (s.axis n.val).state = .moving → s.axisPos n.val = (s.axis n.val).target →
      ∃ t, exec (.moveEnd n i) s = .next t ∧
      State.AxisFrame n.val s t ∧ (t.axis n.val).state = .idle ∧ (t.axis n.val).pos = (s.axis n.val).target ∧
      (t.axis n.val).plan = none ∧ (t.axis n.val).lastStep = some s.ticks ∧ (t.axis n.val).inputs = i.val ∧
      (s.tracks.gatesOn n.val = false →
        t.counter ((0x3840 + n.val) * 256 + 1) = s.counter ((0x3840 + n.val) * 256 + 1) + 1)) ∧
    (∀ (n i : Fin 8) (s : State), s.Shaped → (s.axis n.val).state ≠ .moving ∨ s.axisPos n.val ≠ (s.axis n.val).target →
      ∃ t, exec (.moveEnd n i) s = .next t ∧ State.AxisFrame n.val s t ∧
        t.axis n.val = { s.axis n.val with inputs := i.val }) ∧
    (∀ (n : Fin 8) (g : GateMove) (l : List GateMove) (s : State), s.Shaped → (s.axis n.val).armed = g :: l →
      FT.lt s.now g.start = false → s.arriving (beforeStart n.val) = false → (s.axis n.val).state = .idle →
      s.axisCfg n.val 1 = 1 → s.gateTarget n.val g.pos ≠ (s.axis n.val).pos →
      ∃ t, exec (.gateMoveStart n) s = .next t ∧ State.AxisFrame n.val s t ∧
        (t.axis n.val).target = s.gateTarget n.val g.pos ∧ (t.axis n.val).armed = l ∧
        (s.pipe.void = none → (t.axis n.val).state = .moving ∧
          (t.axis n.val).plan = some (s.planFor n.val g.start (s.gateTarget n.val g.pos))) ∧
        (s.pipe.void ≠ none → (t.axis n.val).state = .stopping ∧ (t.axis n.val).ramping = true)) ∧
    (∀ (n : Fin 8) (g : GateMove) (l : List GateMove) (s : State), s.Shaped → (s.axis n.val).armed = g :: l →
      FT.lt s.now g.start = false → s.arriving (beforeStart n.val) = false →
      (s.axis n.val).state ≠ .idle ∨ s.axisCfg n.val 1 ≠ 1 → ∃ t, exec (.gateMoveStart n) s = .next t ∧ State.AxisFrame n.val s t ∧
        (t.axis n.val).armed = l ∧
        (s.axisCfg n.val 1 ≠ 1 → (t.axis n.val).state = (s.axis n.val).state ∧ (t.axis n.val).plan = (s.axis n.val).plan) ∧
        ((s.axis n.val).state = .unhomed → s.axisCfg n.val 1 = 1 →
          (t.axis n.val).state = .fault ∧ (t.axis n.val).cause = 4) ∧
        ((s.axis n.val).state = .moving → s.axisCfg n.val 1 = 1 → (t.axis n.val).state = .stopping ∧
          (t.axis n.val).landing = .fault 4 ∧ (t.axis n.val).ramping = true) ∧
        ((s.axis n.val).state = .fault → (t.axis n.val).cause = (s.axis n.val).cause) ∧
        (s.tracks.gatesOn n.val = false →
          t.counter ((0x3840 + n.val) * 256 + 3) = s.counter ((0x3840 + n.val) * 256 + 3) + 1)) ∧
    (∀ (n : Fin 8) (s : State), ((s.axis n.val).armed.head?.all fun g => FT.lt s.now g.start) = true ∨
      s.arriving (beforeStart n.val) = true → ∃ t, exec (.gateMoveStart n) s = .next t ∧ t.axes = s.axes ∧ t.settings = s.settings)) ∧
  ((∀ (n : Fin 8) (p : Plan) (b : FT) (s : State), s.Shaped → (s.axis n.val).state = .moving → (s.axis n.val).plan = some p →
      (s.axis n.val).changed = some b → FT.lt s.now b = false → ∃ t q, exec (.profileReplan n) s = .next t ∧
        State.AxisFrame n.val s t ∧ (t.axis n.val).plan = some q ∧ (t.axis n.val).changed = none ∧ q.target = p.target ∧
        q.origin = p.origin ∧ q.start = FT.grid b ∧ q.speed = (p.rebase b s.ticks).speed ∧ q.done = (p.rebase b s.ticks).done ∧
        q.vmax = s.axisCfg n.val 3 ∧ q.accel = s.axisCfg n.val 4 ∧ s.axisCfg n.val 5 ≤ q.decel ∧
        (p.profile = 0 → q.jerk = s.axisCfg n.val 6 ∧ (q.left = 0 ∨ q.speed ^ 2 ≤ q.left * q.decel)) ∧
        (t.axis n.val).target = (s.axis n.val).target ∧ (t.axis n.val).state = .moving ∧
        (s.axisCfg n.val 5 < q.decel → s.tracks.gatesOn n.val = false →
          t.counter ((0x3840 + n.val) * 256 + 5) = s.counter ((0x3840 + n.val) * 256 + 5) + 1)) ∧
    (∀ (n : Fin 8) (s : State), (s.axis n.val).state ≠ .moving ∨ ((s.axis n.val).changed.all fun b => FT.lt s.now b) = true →
      ∃ t, exec (.profileReplan n) s = .next t ∧ t.axes = s.axes ∧ t.settings = s.settings) ∧
    (∀ (n : Fin 8) (k : Nat) (s : State), s.Shaped → (s.axis n.val).busy = false → s.startNear n.val = false →
      (s.axis n.val).lastStep = some k → k + s.axisCfg n.val 0x16 * 500000 ≤ s.ticks → ∃ t, exec (.holdCurrent n) s = .next t ∧
      t.axis n.val = { s.axis n.val with current := .hold, lastStep := none } ∧
      t.irefNow n.val = s.axisCfg n.val 0x14 * s.axisCfg n.val 0x15 / 100 ∧
      (∀ m, m ≠ n.val → t.axis m = s.axis m) ∧ { t with axes := s.axes } = s) ∧
    (∀ (n : Fin 8) (s : State), (s.axis n.val).busy = true ∨ s.startNear n.val = true ∨
      ((s.axis n.val).lastStep.all fun k => decide (s.ticks < k + s.axisCfg n.val 0x16 * 500000)) = true →
      exec (.holdCurrent n) s = .next s) ∧
    (∀ (n : Fin 8) (s : State), s.Shaped → s.startNear n.val = true → (s.axis n.val).state ≠ .disabled →
      ∃ t, exec (.runCurrentRestore n) s = .next t ∧ State.AxisFrame n.val s t ∧ (t.axis n.val).current = .run ∧
        t.irefNow n.val = s.axisCfg n.val 0x14 + (s.axis n.val).raise ∧
        { t.axis n.val with current := (s.axis n.val).current, lastStep := (s.axis n.val).lastStep } = s.axis n.val) ∧
    (∀ (n : Fin 8) (s : State), s.startNear n.val = false ∨ (s.axis n.val).state = .disabled →
      ∃ t, exec (.runCurrentRestore n) s = .next t ∧ t.axes = s.axes ∧ t.settings = s.settings))

/-- R475, R482, R492, R497: an accepted STOP ramps an axis in motion at the larger of STOP_DECEL and the deceleration in
force and takes a GATE-mode axis to FAULT with cause 5 (assumption 8); HOME starts a homing; CLEAR leaves FAULT of cause 4 or
5; a refused command leaves the axes and is counted. -/
def Obligations.AxisCommands : Prop :=
  (∀ (w : Writer) (n : Fin 8) (s : State), s.Shaped → s.axisCommandCheck (s.roleOf w) n.val 1 ≤ 1 →
    ∃ t, exec (.axisStop w n) s = .next t ∧ State.AxisFrame n.val s t ∧
      ((s.axis n.val).state = .moving → (t.axis n.val).state = .stopping ∧ (t.axis n.val).ramping = true ∧
        (t.axis n.val).landing = (if s.axisCfg n.val 1 = 1 then .fault 5 else .idle)) ∧
      (∀ p, (s.axis n.val).state = .moving → (s.axis n.val).plan = some p → (t.axis n.val).plan =
        some ((p.rebase s.now s.ticks).braked 0 (max (s.axisCfg n.val 7) p.decel) p.jerk)) ∧
      ((s.axis n.val).state = .homing → (s.axis n.val).ramping = false → (t.axis n.val).state = .homing ∧
        (t.axis n.val).ramping = true ∧ (t.axis n.val).landing = (if s.axisCfg n.val 1 = 1 then .fault 5 else .unhomed)) ∧
      ((s.axis n.val).state = .idle → s.axisCfg n.val 1 = 1 → (t.axis n.val).state = .fault ∧ (t.axis n.val).cause = 5) ∧
      ((s.axis n.val).state = .idle → s.axisCfg n.val 1 ≠ 1 → t.axis n.val = s.axis n.val)) ∧
  (∀ (w : Writer) (n : Fin 8) (s : State), s.Shaped → s.axisCommandCheck (s.roleOf w) n.val 2 ≤ 1 →
    ∃ t, exec (.axisHome w n) s = .next t ∧ State.AxisFrame n.val s t ∧ (t.axis n.val).state = .homing ∧
      (t.axis n.val).homeFrom = (s.axis n.val).pos ∧ (t.axis n.val).cause = 0 ∧ (t.axis n.val).start = none ∧
      (t.axis n.val).current = .run ∧ (t.axis n.val).ramping = false ∧
      (s.axisCfg n.val 0x0D = 2 → (t.axis n.val).phase = .creep ∧ (t.axis n.val).plan = some (s.planFrom n.val .creep s.now
        (farTarget (s.axis n.val).pos (s.axisCfg n.val 0x0E == 1)) (s.axisCfg n.val 0x10) (s.axisCfg n.val 0x10))) ∧
      (s.axisCfg n.val 0x0D ≠ 2 → s.homeSwitch n.val = false → (t.axis n.val).phase = .fast ∧
        (t.axis n.val).plan = some (s.planFrom n.val .move s.now
          (farTarget (s.axis n.val).pos (s.axisCfg n.val 0x0E == 1)) 0 (s.axisCfg n.val 0x0F)))) ∧
  (∀ (w : Writer) (n : Fin 8) (s : State), s.Shaped → s.axisCommandCheck (s.roleOf w) n.val 3 ≤ 1 →
    (s.axis n.val).cause = 4 ∨ (s.axis n.val).cause = 5 → ∃ t, exec (.axisClear w n) s = .next t ∧
      State.AxisFrame n.val s t ∧ t.axis n.val = { s.axis n.val with state := .idle, cause := 0 }) ∧
  (∀ (w : Writer) (n : Fin 8) (s : State), 1 < s.axisCommandCheck (s.roleOf w) n.val 1 →
    ∃ t, exec (.axisStop w n) s = .next t ∧ t.axes = s.axes ∧ (s.tracks.gatesOn n.val = false →
      t.counter ((0x3840 + n.val) * 256 + 4) = s.counter ((0x3840 + n.val) * 256 + 4) + 1)) ∧
  (∀ (w : Writer) (n : Fin 8) (s : State), 1 < s.axisCommandCheck (s.roleOf w) n.val 2 →
    ∃ t, exec (.axisHome w n) s = .next t ∧ t.axes = s.axes ∧ (s.tracks.gatesOn n.val = false →
      t.counter ((0x3840 + n.val) * 256 + 4) = s.counter ((0x3840 + n.val) * 256 + 4) + 1)) ∧
  (∀ (w : Writer) (n : Fin 8) (s : State), 1 < s.axisCommandCheck (s.roleOf w) n.val 3 →
    ∃ t, exec (.axisClear w n) s = .next t ∧ t.axes = s.axes ∧ (s.tracks.gatesOn n.val = false →
      t.counter ((0x3840 + n.val) * 256 + 4) = s.counter ((0x3840 + n.val) * 256 + 4) + 1)) ∧
  (∀ (w : Writer) (n : Fin 8) (s : State), 1 ≤ s.roleOf w → s.power.mode ≠ .standby → (s.axis n.val).state = .fault →
    (s.axis n.val).cause = 1 ∨ (s.axis n.val).cause = 2 ∨ (s.axis n.val).cause = 3 →
    s.axisCommandCheck (s.roleOf w) n.val 3 = 0x41) ∧
  (∀ (w : Writer) (n : Fin 8) (s : State), 1 ≤ s.roleOf w → s.power.mode ≠ .standby → s.stop.latch = true →
    s.axisCommandCheck (s.roleOf w) n.val 2 = 0x11)

/-- R482 to R488, R475: the home point sets the counter; a homing that fails ends in FAULT with cause 3, after a ramp on a
limit; a stall in motion and a limit in the direction of travel end in FAULT with causes 1 and 2; load above LOAD_THRESH
raises IREF up to I_CEILING, once a millisecond; at standstill a ramp lands, and the fast phase of a homing turns into the
creep back. What has not happened changes the inputs alone. -/
def Obligations.HomingStallAndLimits : Prop :=
  (∀ (n i : Fin 8) (after : Nat) (s : State), s.Shaped → s.homeFound n.val i.val = true →
    ∃ t, exec (.axisHomed n after i) s = .next t ∧ State.AxisFrame n.val s t ∧
      (t.axis n.val).state = .idle ∧ (t.axis n.val).pos = s.axisCfgI n.val 0x11 +
        (if (s.axis n.val).plan.all Plan.positive then (s.stepsAfter n.val after : Int) else -(s.stepsAfter n.val after : Int)) ∧
      (t.axis n.val).cause = 0 ∧ (t.axis n.val).plan = none ∧ (t.axis n.val).inputs = i.val ∧
      (t.axis n.val).enPos - (t.axis n.val).pos = (s.axis n.val).enPos - s.axisPos n.val ∧ (s.tracks.gatesOn n.val = false →
        t.counter ((0x3840 + n.val) * 256 + 6) = s.counter ((0x3840 + n.val) * 256 + 6) + 1)) ∧
  (∀ (n i : Fin 8) (after : Nat) (s : State), s.Shaped → s.homeFound n.val i.val = false →
    ∃ t, exec (.axisHomed n after i) s = .next t ∧ State.AxisFrame n.val s t ∧
      t.axis n.val = { s.axis n.val with inputs := i.val }) ∧
  (∀ (n i : Fin 8) (s : State), s.Shaped → (s.axis n.val).state = .homing → (s.axis n.val).phase = .fast →
    ∃ t, exec (.homeSwitchReached n i) s = .next t ∧ State.AxisFrame n.val s t ∧
      t.axis n.val = { s.axis n.val with inputs := i.val, phase := .decelerating, plan := ((s.axis n.val).plan.map fun p =>
        ((p.rebase s.now s.ticks).braked p.profile (s.axisCfg n.val 5) (s.axisCfg n.val 6))) }) ∧
  (∀ (n i : Fin 8) (r : Nat) (s : State), s.Shaped → (s.axis n.val).state = .homing →
    (s.axis n.val).ramping = false → s.homingCause n.val i.val = some r →
    ∃ t, exec (.homingFailed n i) s = .next t ∧ State.AxisFrame n.val s t ∧ (t.axis n.val).inputs = i.val ∧
      (r = 1 → (t.axis n.val).state = .homing ∧ (t.axis n.val).ramping = true ∧ (t.axis n.val).landing = .fault 3 ∧
        (t.axis n.val).plan = (s.axis n.val).plan.map fun p =>
          (p.rebase s.now s.ticks).braked 0 (max (s.axisCfg n.val 7) p.decel) p.jerk) ∧
      (r ≠ 1 → (t.axis n.val).state = .fault ∧ (t.axis n.val).cause = 3 ∧ (t.axis n.val).ramping = false ∧
        (t.axis n.val).pos = s.axisPos n.val ∧ (t.axis n.val).plan = none) ∧
      (s.tracks.gatesOn n.val = false →
        t.counter ((0x3840 + n.val) * 256 + 7) = s.counter ((0x3840 + n.val) * 256 + 7) + 1)) ∧
  (∀ (n i : Fin 8) (s : State), s.Shaped → s.homingCause n.val i.val = none → ∃ t, exec (.homingFailed n i) s = .next t ∧
    State.AxisFrame n.val s t ∧ t.axis n.val = { s.axis n.val with inputs := i.val }) ∧
  (∀ (n i : Fin 8) (positive : Bool) (p : Plan) (s : State), s.Shaped → (s.axis n.val).state = .moving →
    (s.axis n.val).plan = some p → ∃ t, exec (.limitReached n positive i) s = .next t ∧ State.AxisFrame n.val s t ∧
      (t.axis n.val).inputs = i.val ∧
      (p.positive = positive → s.axisPos n.val ≠ (s.axis n.val).target → (t.axis n.val).state = .stopping ∧
        (t.axis n.val).landing = .fault 2 ∧ (t.axis n.val).ramping = true ∧
        (s.tracks.gatesOn n.val = false →
          t.counter ((0x3840 + n.val) * 256 + 9) = s.counter ((0x3840 + n.val) * 256 + 9) + 1)) ∧
      (p.positive ≠ positive → t.axis n.val = { s.axis n.val with inputs := i.val })) ∧
  (∀ (n : Fin 8) (s : State), s.Shaped → (s.axis n.val).state = .moving → s.stallDue n.val = true →
    ∃ t, exec (.stallDetected n) s = .next t ∧ State.AxisFrame n.val s t ∧ (t.axis n.val).state = .fault ∧
      (t.axis n.val).cause = 1 ∧ (t.axis n.val).pos = s.axisPos n.val ∧ (t.axis n.val).plan = none ∧
      (t.axis n.val).current = .hold ∧ (s.tracks.gatesOn n.val = false →
        t.counter ((0x3840 + n.val) * 256 + 8) = s.counter ((0x3840 + n.val) * 256 + 8) + 1)) ∧
  (∀ (n : Fin 8) (s : State), s.stallDue n.val = false → ∃ t, exec (.stallDetected n) s = .next t ∧ t.axes = s.axes ∧
    t.settings = s.settings) ∧
  (∀ (n : Fin 8) (load : Nat) (s : State), s.Shaped → (s.axis n.val).busy = true → s.axisCfg n.val 0x19 < load →
    ((s.axis n.val).boosted.all fun k => decide (k + 500000 ≤ s.ticks)) = true →
    ∃ t, exec (.currentBoosted n load) s = .next t ∧ State.AxisFrame n.val s t ∧ (t.axis n.val).load = load ∧
      (t.axis n.val).raise =
        min (s.axisCfg n.val 0x17 - s.axisCfg n.val 0x14) ((s.axis n.val).raise + s.axisCfg n.val 0x18) ∧
      (t.axis n.val).loadHigh = some ((s.axis n.val).loadHigh.getD s.ticks) ∧ (t.axis n.val).boosted = some s.ticks) ∧
  (∀ (n : Fin 8) (load : Nat) (s : State), s.Shaped → (s.axis n.val).busy = true →
    load + s.axisCfg n.val 0x1A < s.axisCfg n.val 0x19 →
    ((s.axis n.val).boosted.all fun k => decide (k + 500000 ≤ s.ticks)) = true → ∃ t, exec (.currentBoosted n load) s = .next t ∧
      State.AxisFrame n.val s t ∧ (t.axis n.val).raise = (s.axis n.val).raise - s.axisCfg n.val 0x18 ∧
      (t.axis n.val).loadHigh = none) ∧
  (∀ (n : Fin 8) (load k : Nat) (s : State), s.Shaped → (s.axis n.val).boosted = some k → s.ticks < k + 500000 →
    ∃ t, exec (.currentBoosted n load) s = .next t ∧ State.AxisFrame n.val s t ∧ (t.axis n.val).load = load ∧
      (t.axis n.val).raise = (s.axis n.val).raise) ∧
  (∀ (n i : Fin 8) (s : State), s.Shaped → (s.axis n.val).ramping = true → s.axisRests n.val = true →
    ∃ t, exec (.axisStandstill n i) s = .next t ∧ State.AxisFrame n.val s t ∧ (t.axis n.val).ramping = false ∧
      (t.axis n.val).plan = none ∧ (t.axis n.val).pos = s.axisPos n.val ∧
      ((s.axis n.val).landing = .idle → (t.axis n.val).state = .idle ∧ (t.axis n.val).cause = 0) ∧
      ((s.axis n.val).landing = .unhomed → (t.axis n.val).state = .unhomed) ∧
      (∀ c, (s.axis n.val).landing = .fault c → (t.axis n.val).state = .fault ∧ (t.axis n.val).cause = c)) ∧
  (∀ (n i : Fin 8) (s : State), s.Shaped → (s.axis n.val).ramping = false → (s.axis n.val).phase = .decelerating →
    s.axisRests n.val = true → ∃ t p, exec (.axisStandstill n i) s = .next t ∧ State.AxisFrame n.val s t ∧
      (t.axis n.val).phase = .creep ∧ (t.axis n.val).plan = some p ∧ p.kind = .creep ∧
      p.speed = s.axisCfg n.val 0x10 * 10 ^ 9 ∧ p.origin = s.axisPos n.val ∧
      p.positive = !(s.axis n.val).plan.all Plan.positive) ∧
  (∀ (n i : Fin 8) (s : State), s.Shaped → s.axisRests n.val = false → ∃ t, exec (.axisStandstill n i) s = .next t ∧
    State.AxisFrame n.val s t ∧ t.axis n.val = { s.axis n.val with inputs := i.val })

/-! ### Metering (chapter 16) -/

/-- R499 to R504, R507, R717: a pulse of a channel that counts (enabled, in a mode in which it operates, and its ball not
just taken from another function) and that is not too soon counts, and is pending until CREEP_MIN pulses lie within the creep
window; then it and the pending pulses are credited to the accounts that take them. An entry write that no row of R507
refuses opens, changes, closes or deletes its account; a refused one is counted. -/
def Obligations.PulsesAndAccounts : Prop :=
  (∀ (k : Fin 32) (s : State), s.tallyCounts k.val = false →
    exec (.tallyPulse k) s = .next s) ∧
  (∀ (k : Fin 32) (s : State), s.tallyCounts k.val = true →
    tooSoon (s.cfg (tallyObj k.val 3)) (s.tally k.val).last s.now = true → ∃ t, exec (.tallyPulse k) s = .next t ∧
      t.counter (tallyObj k.val 0x0B) = s.counter (tallyObj k.val 0x0B) + 1 ∧
      { t with counters := s.counters, rcd := s.rcd } = s) ∧
  (∀ (k : Fin 32) (s : State), s.tallyCounts k.val = true →
    tooSoon (s.cfg (tallyObj k.val 3)) (s.tally k.val).last s.now = false → ∃ t, exec (.tallyPulse k) s = .next t ∧
      (t.tally k.val).last = some s.now ∧ t.settings = s.settings ∧ (∀ j, j ≠ k.val → t.tally j = s.tally j) ∧
      t.counter (tallyObj k.val 9) = s.counter (tallyObj k.val 9) + 1 ∧
      (countWithin (s.cfg (tallyObj k.val 7)) s.now (t.tally k.val).recent < s.cfg (tallyObj k.val 6) →
        t.meter.accounts = s.meter.accounts ∧
        (t.tally k.val).waiting.getLast? = some ⟨s.now, s.tariff s.now, s.cfg (tallyObj k.val 8)⟩ ∧
        (t.tally k.val).waiting.length < s.cfg (tallyObj k.val 6)) ∧
      (s.cfg (tallyObj k.val 6) ≤ countWithin (s.cfg (tallyObj k.val 7)) s.now (t.tally k.val).recent →
        (t.tally k.val).waiting = [] ∧
        (SMap.wf (fun _ => Account.blank) s.meter.accounts = true → (s.tally k.val).waiting = [] →
          ∀ a, t.account a =
            (if (s.account a).takes k.val ⟨s.now, s.tariff s.now, s.cfg (tallyObj k.val 8)⟩ = true then
              (s.account a).credit (s.cfg (tallyObj k.val 4)) (s.cfg (tallyObj k.val 5)) else s.account a)))) ∧
  (∀ (k : Fin 32) (s : State), ∃ t, exec (.pendingPulseExpired k) s = .next t ∧
    (t.tally k.val).waiting = (s.tally k.val).waiting.filter (fun p =>
      !FT.lt (FT.addNs p.stamp (s.cfg (tallyObj k.val 7) * 1000000000)) s.now) ∧
    t.counter (tallyObj k.val 0x0A) + BitVec.ofNat 64 (t.tally k.val).waiting.length =
      s.counter (tallyObj k.val 0x0A) + BitVec.ofNat 64 (s.tally k.val).waiting.length ∧
    (∀ j, j ≠ k.val → t.tally j = s.tally j) ∧ t.meter.accounts = s.meter.accounts ∧
    { t with meter := s.meter, counters := s.counters } = s) ∧
  (∀ (w : Writer) (v : List Byte) (s : State), s.accountCode (s.cfg 0x440000) (s.roleOf w) v = 0 →
    ∃ t, exec (.accountEntryWrite w v) s = .next t ∧ t.settings = s.settings ∧
      (∃ c, t.meter.saving = some c ∧ c.mask.testBit 4 = true ∧ c.accounts = t.meter.accounts) ∧
      (∃ l, t.out = .answer w.port.val w.sess.val 0x440100 0 :: l) ∧
      (∀ a, a ≠ s.cfg 0x440000 → t.account a = s.account a) ∧
      ((s.account (s.cfg 0x440000)).state = .empty → (Account.decode v).state = .open_ →
        t.account (s.cfg 0x440000) = { Account.decode v with acc := field v 8 8 }) ∧
      ((Account.decode v).state = .empty → t.account (s.cfg 0x440000) = Account.decode v) ∧
      ((s.account (s.cfg 0x440000)).state = .open_ → (Account.decode v).state = .closed →
        t.account (s.cfg 0x440000) = { Account.decode v with
          acc := (s.account (s.cfg 0x440000)).acc, rem := (s.account (s.cfg 0x440000)).rem,
          wraps := (s.account (s.cfg 0x440000)).wraps, pulses := (s.account (s.cfg 0x440000)).pulses })) ∧
  (∀ (w : Writer) (v : List Byte) (s : State), v.length = 16 → 1 < s.accountCode (s.cfg 0x440000) (s.roleOf w) v →
    s.accountCode (s.cfg 0x440000) (s.roleOf w) v ≠ 0x21 → ∃ t, exec (.accountEntryWrite w v) s = .next t ∧
      t.counter 0x3A5006 = s.counter 0x3A5006 + 1 ∧ { t with counters := s.counters, out := s.out } = s)

/-- R510 to R515: a save takes a copy of the metering state with the next sequence number; a complete one becomes the newest
good copy, a failed one is counted and the copy before it stands. A mains input becomes PRESENT after four crossings that
each follow the one before in time, and LOST at its deadline with no crossing waiting, which saves; before it nothing is
lost. -/
def Obligations.SavesAndMains : Prop :=
  (∀ s : State, s.meter.saving = none → exec .meteringSavePeriodic s = .next { s with meter := { s.meter with
    saving := some (s.saveCopy s.meter.next 1), started := s.ticks, next := s.meter.next + 1 } }) ∧
  (∀ (c : SaveCopy) (s : State), s.meter.saving = some c → s.meter.started ≠ s.ticks →
    exec .meteringSavePeriodic s = .next { s with
      meter := { s.meter with saving := some (s.saveCopy s.meter.next 1), started := s.ticks, next := s.meter.next + 1 },
      counters := bump 0x3A5007 1 s.counters }) ∧
  (∀ (c : SaveCopy) (s : State), s.meter.saving = some c → ∃ t, exec (.meteringSaveComplete true) s = .next t ∧
    t.meter = { s.meter with saving := none, copy := some c } ∧ t.counter 0x3A5001 = s.counter 0x3A5001 + 1 ∧
    t.counter 0x3A5002 = s.counter 0x3A5002 + (if c.mask.testBit 1 = true then 1 else 0) ∧
    t.settings = s.settings ∧ t.axes = s.axes ∧ (c.mask.testBit 1 = false → t.rcd = s.rcd) ∧
    (c.mask.testBit 1 = true → t.rcd.staged = [])) ∧
  (∀ (c : SaveCopy) (s : State), s.meter.saving = some c → ∃ t, exec (.meteringSaveComplete false) s = .next t ∧
    t.meter = { s.meter with saving := none } ∧ t.counter 0x3A5003 = s.counter 0x3A5003 + 1 ∧ t.settings = s.settings) ∧
  (∀ (ok : Bool) (s : State), s.meter.saving = none → exec (.meteringSaveComplete ok) s = .next s) ∧
  (∀ (i : Fin 2) (s : State), (s.cfg 0x3A0200).testBit i.val = false → exec (.mainsZeroCrossing i) s = .next s) ∧
  (∀ (i : Fin 2) (l : FT) (s : State), s.Shaped → (s.cfg 0x3A0200).testBit i.val = true →
    (s.mainsIn i.val).last = some l → ∃ t, exec (.mainsZeroCrossing i) s = .next t ∧
      (t.mainsIn i.val).last = some s.now ∧ (t.mainsIn i.val).times = (s.now :: (s.mainsIn i.val).times).take 16 ∧
      (∀ j, j ≠ i.val → t.mainsIn j = s.mainsIn j) ∧ t.settings = s.settings ∧
      (FT.le s.now (FT.addNs l (s.cfg 0x3A0300 * 1000000)) = true →
        (t.mainsIn i.val).run = (s.mainsIn i.val).run + 1 ∧
        (t.mainsIn i.val).present = ((s.mainsIn i.val).present || decide (4 ≤ (s.mainsIn i.val).run + 1))) ∧
      (FT.le s.now (FT.addNs l (s.cfg 0x3A0300 * 1000000)) = false →
        (t.mainsIn i.val).run = 0 ∧ (t.mainsIn i.val).present = (s.mainsIn i.val).present)) ∧
  (∀ (i : Fin 2) (l : FT) (s : State), s.Shaped → (s.cfg 0x3A0200).testBit i.val = true → (s.mainsIn i.val).present = true →
    (s.mainsIn i.val).last = some l → s.ripe l (s.cfg 0x3A0300 * 1000000) = true → s.arriving (crosses i.val) = false →
    ∃ t, exec (.mainsLost i) s = .next t ∧ (t.mainsIn i.val).present = false ∧ (t.mainsIn i.val).run = 0 ∧
      (t.mainsIn i.val).last = some l ∧ t.counter 0x3A5004 = s.counter 0x3A5004 + 1 ∧ t.settings = s.settings ∧
      (∀ j, j ≠ i.val → t.mainsIn j = s.mainsIn j) ∧ ∃ c, t.meter.saving = some c ∧ c.mask.testBit 1 = true) ∧
  (∀ (i : Fin 2) (l : FT) (s : State), (s.mainsIn i.val).last = some l →
    s.ripe l (s.cfg 0x3A0300 * 1000000) = false ∨ s.arriving (crosses i.val) = true → exec (.mainsLost i) s = .next s) ∧
  (∀ (i : Fin 2) (s : State), (s.mainsIn i.val).present = false → exec (.mainsLost i) s = .next s)

/-! ### The redundant pair (chapter 17) -/

/-- R519, R525 to R529, R531 to R533, R554 to R556: a qualified reading of the peer loop is kept; FREE makes a SYNCED standby
take over hot and a TRANSFER or ORPHAN one cold, with the latch set first; two OWN readings make POS B yield; heartbeats are
lost, A 0x3C04 after the last frame unless one waits, and return, and both lost make a standby an ORPHAN. -/
def Obligations.SeamAndHeartbeats : Prop :=
  (∀ (r : Fin 3) (s : State), s.inPair = false ∨ s.pair.peer = Reading.ofCode r.val →
    exec (.seamReadingChange r) s = .next s) ∧
  (∀ (r : Fin 3) (s : State), s.inPair = true → s.pair.peer ≠ Reading.ofCode r.val →
    ∃ t, exec (.seamReadingChange r) s = .next t ∧ t.pair.peer = Reading.ofCode r.val ∧ t.settings = s.settings ∧
      t.meter = s.meter ∧
      t.counter 0x3C2010 = s.counter 0x3C2010 + (if r.val = 0 then 1 else 0) ∧
      (s.pairLive = false → t.pair.drive = s.pair.drive ∧
        t.pair.output = outputNext true s.pair.drive (Reading.ofCode r.val) s.pair.output)) ∧
  (∀ s : State, s.pairLive = true → s.pair.state = .synced → s.pair.peer ≠ .free →
    ∃ t, exec (.seamReadingChange 1) s = .next t ∧ t.pair.drive = .own ∧ t.pair.output = true ∧ t.pair.state = .active ∧
      t.power.mode = .active ∧ t.stop.latch = s.stop.latch ∧ t.counter 0x3C2008 = s.counter 0x3C2008 + 1) ∧
  (∀ s : State, s.pairLive = true → s.pair.state = .transfer ∨ s.pair.state = .orphan → s.pair.peer ≠ .free →
    ∃ t, exec (.seamReadingChange 1) s = .next t ∧ t.pair.drive = .own ∧ t.pair.output = true ∧ t.pair.state = .active ∧
      t.power.mode = .active ∧ t.stop.latch = true ∧ t.counter 0x3C2009 = s.counter 0x3C2009 + 1) ∧
  (∀ s : State, s.pairLive = true → s.pair.state = .active → s.pair.drive = .own → s.pair.peer ≠ .own →
    s.pair.hbA = true ∨ s.pair.hbB = true → ∃ t, exec (.seamReadingChange 2) s = .next t ∧ t.pair.output = false ∧
      t.counter 0x3C200F = s.counter 0x3C200F + 1 ∧
      (s.pair.pos = 1 → t.pair.drive = .free ∧ t.pair.state = .transfer ∧ t.power.mode = .standby) ∧
      (s.pair.pos ≠ 1 → t.pair.drive = .own ∧ t.pair.state = .active)) ∧
  (∀ (c : Fin 3) (s : State), s.inPair = true → s.pair.compliance ≠ c.val → ∃ t, exec (.seamFault c) s = .next t ∧
    t.pair = { s.pair with compliance := c.val } ∧ t.counter 0x3C2010 = s.counter 0x3C2010 + 1 ∧
    { t with pair := s.pair, counters := s.counters, rcd := s.rcd } = s) ∧
  (∀ (c : Fin 3) (s : State), s.inPair = false ∨ s.pair.compliance = c.val → exec (.seamFault c) s = .next s) ∧
  (∀ s : State, exec .healthTimerExpired s = .next { s with pair.hbOut := false }) ∧
  (∀ s : State, s.inPair = true → s.pair.hbB = true → ∃ t, exec .hbBLost s = .next t ∧ t.pair.hbB = false ∧
    t.counter 0x3C200D = s.counter 0x3C200D + 1 ∧ t.settings = s.settings ∧
    (s.pairLive = true → s.pair.state = .synced → s.pair.hbA = false → s.pair.peer ≠ .free →
      t.pair.state = .orphan ∧ t.power.mode = .orphan ∧ t.stop.latch = true)) ∧
  (∀ s : State, s.inPair = true → s.pair.hbA = true → s.hbPassed s.pair.beatHb (s.cfg 0x3C0400 * 4000) = true →
    s.arriving isLinkFrame = false → ∃ t, exec .hbALost s = .next t ∧ t.pair.hbA = false ∧
    t.counter 0x3C200C = s.counter 0x3C200C + 1 ∧ t.settings = s.settings ∧
    (s.pair.lanes ≠ 0 → t.pair.downAt = s.ticks) ∧
    (s.pairLive = true → s.pair.state = .synced → s.pair.hbB = false → s.pair.peer ≠ .free →
      t.pair.state = .orphan ∧ t.power.mode = .orphan ∧ t.stop.latch = true)) ∧
  (∀ s : State, s.inPair = false ∨ s.pair.hbB = false → exec .hbBLost s = .next s) ∧
  (∀ s : State, s.inPair = false ∨ s.pair.hbA = false ∨ s.hbPassed s.pair.beatHb (s.cfg 0x3C0400 * 4000) = false ∨
    s.arriving isLinkFrame = true → exec .hbALost s = .next s) ∧
  (∀ s : State, s.inPair = true → s.pair.hbB = false → ∃ t, exec .hbBRestored s = .next t ∧ t.pair.hbB = true ∧
    t.pair.seenB = true ∧ t.settings = s.settings) ∧
  (∀ s : State, s.inPair = false ∨ s.pair.hbB = true → exec .hbBRestored s = .next s)

/-- R534 to R540: a frame with a wrong CRC is counted and lost, one out of order is lost, and from a peer whose HELLO
disagrees only HELLO and HEARTBEAT_A are delivered; frames leave numbered, on a lane with block lock, and the unacknowledged
ones again 100 µs after ACK last advanced; HELLO compares PAIR_ID, POS and DS_VERSION; a heartbeat brings the peer's state
and the time offset. -/
def Obligations.LinkTransport : Prop :=
  (∀ (c : Instr) (k : Nat) (f : List Byte) (s : State), frameOf c = some (k, f) → s.inPair = false ∨ s.pair.lanes = 0 →
    exec c s = .next s) ∧
  (∀ (c : Instr) (k : Nat) (f : List Byte) (s : State), frameOf c = some (k, f) → s.inPair = true → s.pair.lanes ≠ 0 →
    linkIntact f = false → ∃ t, exec c s = .next t ∧ t.counter 0x3C2003 = s.counter 0x3C2003 + 1 ∧
      { t with counters := s.counters, rcd := s.rcd } = s) ∧
  (∀ (c : Instr) (k : Nat) (f : List Byte) (s : State), frameOf c = some (k, f) → s.inPair = true → s.pair.lanes ≠ 0 →
    linkIntact f = true → field f 4 4 ≠ s.pair.rxSeq → ∃ t, exec c s = .next t ∧
      t.pair.unacked = s.pair.unacked.filter (fun x => !entryFrom x.lseq (field f 8 4)) ∧
      { t with pair := { t.pair with unacked := s.pair.unacked, ackAt := s.pair.ackAt } } = s) ∧
  (∀ (c : Instr) (k : Nat) (f : List Byte) (s : State), frameOf c = some (k, f) → s.Takes f →
    field f 0 1 ≠ k ∨ (s.pair.mismatch = true ∧ 2 < k) → ∃ t, exec c s = .next t ∧
      t.pair.unacked = s.pair.unacked.filter (fun x => !entryFrom x.lseq (field f 8 4)) ∧
      t.pair.rxSeq = (s.pair.rxSeq + 1) % 2 ^ 32 ∧ t.counter 0x3C2002 = s.counter 0x3C2002 + 1 ∧
      { t with pair := { t.pair with unacked := s.pair.unacked, ackAt := s.pair.ackAt, rxSeq := s.pair.rxSeq },
               counters := s.counters } = s) ∧
  (∀ (l : Fin 2) (locked : Bool) (s : State), s.inPair = true → ∃ t, exec (.akrisLaneLockChange l locked) s = .next t ∧
    t.pair.lanes = setBit s.pair.lanes l.val locked ∧ t.settings = s.settings ∧
    t.pair.rxSeq = (if s.pair.lanes = 0 ∧ setBit s.pair.lanes l.val locked ≠ 0 then 0 else s.pair.rxSeq)) ∧
  (∀ (l : Fin 2) (locked : Bool) (s : State), s.inPair = false → exec (.akrisLaneLockChange l locked) s = .next s) ∧
  (∀ s : State, s.inPair = true → s.pair.lanes ≠ 0 → ∃ t, exec .helloSend s = .next t ∧
    t.out = s.linkFrame s.linkAck 1
      (leBytes 4 (s.cfg 0x3C0100) ++ [byte s.pair.pos] ++ leBytes 2 s.dsVersion ++ leBytes 8 Config.serial) :: s.out ∧
    t.pair.txSeq = (s.pair.txSeq + 1) % 2 ^ 32 ∧ t.pair.lane = 1 - s.sendLane ∧
    (∃ f, t.pair.unacked.getLast? = some f ∧ f.lseq = s.pair.txSeq ∧ f.kind = 1) ∧
    (s.pair.unacked.length ≤ 256 → t.pair.unacked.length ≤ 256) ∧
    { t with pair := s.pair, out := s.out, counters := s.counters } = s) ∧
  (∀ s : State, s.inPair = false ∨ s.pair.lanes = 0 → exec .helloSend s = .next s ∧ exec .linkRetransmit s = .next s) ∧
  (∀ s : State, s.inPair = true → s.pair.lanes ≠ 0 → s.pair.faulted = false → ∃ t, exec .heartbeatASend s = .next t ∧
    t.out = s.linkFrame s.linkAck 2 (Heartbeat.octets ⟨s.pair.state.code, s.seamStatus % 256,
      b2n s.pair.hbB + b2n s.stop.latch * 2 + s.pair.pos * 4, FT.cycle s.now, s.now, s.pair.echoTx, s.pair.echoRx,
      s.logNext⟩) :: s.out ∧
    { t with pair := s.pair, out := s.out, counters := s.counters } = s) ∧
  (∀ s : State, s.pair.faulted = true → exec .heartbeatASend s = .next s) ∧
  (∀ s : State, s.inPair = true → s.pair.lanes ≠ 0 → s.pair.unacked ≠ [] → s.timedOut s.pair.ackAt 50000 isLinkFrame = true →
    ∃ t, exec .linkRetransmit s = .next t ∧ t.pair.ackAt = s.ticks ∧
      t.counter 0x3C2004 = s.counter 0x3C2004 + BitVec.ofNat 64 s.pair.unacked.length ∧
      t.out.length = s.out.length + s.pair.unacked.length ∧
      (∀ f ∈ s.pair.unacked, ∃ lane : Nat, lane < 2 ∧ .link lane (linkOctets true lane s.linkAck f) ∈ t.out) ∧
      { t with pair := { t.pair with ackAt := s.pair.ackAt, lane := s.pair.lane }, out := s.out, counters := s.counters,
               rcd := s.rcd } = s) ∧
  (∀ s : State, s.pair.unacked = [] ∨ s.timedOut s.pair.ackAt 50000 isLinkFrame = false → exec .linkRetransmit s = .next s) ∧
  (∀ (f : List Byte) (s : State), s.Takes f → field f 0 1 = 1 → ∃ t, exec (.hello f) s = .next t ∧
    t.pair.mismatch = decide (field (linkPayload f) 0 4 ≠ s.cfg 0x3C0100 ∨ field (linkPayload f) 4 1 = s.pair.pos ∨
      field (linkPayload f) 5 2 ≠ s.dsVersion) ∧ t.pair.peerDs = field (linkPayload f) 5 2 ∧
    t.pair.rxSeq = (s.pair.rxSeq + 1) % 2 ^ 32 ∧ t.settings = s.settings ∧
    (t.pair.mismatch = false → t.pair.state = s.pair.state) ∧
    (t.pair.mismatch = true → s.pairLive = true → s.pair.state = .synced → t.pair.state = .transfer)) ∧
  (∀ (f : List Byte) (s : State), s.Takes f → field f 0 1 = 2 → ∃ t, exec (.heartbeatA f) s = .next t ∧
    t.pair.hbA = true ∧ t.pair.beatHb = s.time.hb ∧ t.pair.peerState = field (linkPayload f) 0 1 % 8 ∧
    t.pair.peerFlags = field (linkPayload f) 2 1 ∧ t.pair.echoTx = FT.read (linkPayload f) 12 ∧
    t.pair.echoRx = s.now ∧ t.pair.offset = thetaPs s.now (Heartbeat.read (linkPayload f)) ∧ t.settings = s.settings ∧
    (2 * nsUnits (s.cfg 0x3C0800) < ((thetaTwice s.now (Heartbeat.read (linkPayload f))).natAbs : Int) →
      t.pair.apart = (s.pair.apart || decide (10 ≤ s.pair.apartRun + 1)) ∧ t.pair.nearRun = 0) ∧
    (((thetaTwice s.now (Heartbeat.read (linkPayload f))).natAbs : Int) ≤ 2 * nsUnits (s.cfg 0x3C0800) →
      t.pair.apart = (s.pair.apart && !decide (10 ≤ s.pair.nearRun + 1)) ∧ t.pair.apartRun = 0))

/-- R541 to R551: the holder sends what it has logged and COMPLETE, CONFIRMs and axis reports; the peer appends the entries
of a LOG to its own, keeps the base observables, drops the units that a CONFIRM places, follows the axes, and compares
digests; a mismatch or a digest that is late takes a SYNCED peer back to TRANSFER (with what is missing a free value,
assumption 5), and the first match after a load makes it SYNCED. -/
def Obligations.FollowingTheHolder : Prop :=
  (∀ (c : FT) (s : State), s.MaySend → s.pair.drive = .own → FT.le c s.now = true →
    (∀ e ∈ (takeEntries 8176 s.ingest.outbox).2 ++ s.ingest.held, FT.le c e.stamp = true) →
    (c = s.now ∨ ∃ e ∈ (takeEntries 8176 s.ingest.outbox).2 ++ s.ingest.held, e.stamp = c) →
    ∃ t, exec .logSend s = .next t ∧ t.ingest.outbox = (takeEntries 8176 s.ingest.outbox).2 ∧
    t.out = s.linkFrame s.linkAck 3 (FT.bytes (FT.addUnits c (-nsUnits 2)) ++
      (takeEntries 8176 s.ingest.outbox).1.flatMap LogEntry.encode) :: s.out ∧
    { t with ingest := s.ingest, pair := s.pair, out := s.out, counters := s.counters } = s) ∧
  (∀ s : State, s.pair.drive ≠ .own → exec .logSend s = .next s ∧ exec .axisReportSend s = .next s) ∧
  (∀ (f : List Byte) (l : List LinkEntry) (s : State), s.Brings 3 f → s.pairLive = true → s.follows = true →
    l = readEntries (linkPayload f).length ((linkPayload f).drop 16) → ∃ t, exec (.log f) s = .next t ∧
      t.ingest.unsorted = s.ingest.unsorted ++ l.map (fun e => ⟨e.num, e.source, e.stamp, e.data, 0⟩) ∧
      t.pair.complete = FT.read (linkPayload f) 0 ∧ t.settings = s.settings ∧
      t.counter 0x2C1002 = s.counter 0x2C1002 + BitVec.ofNat 64 l.length ∧
      (∀ e, l.getLast? = some e → t.pair.expect = (e.num + 1) % 2 ^ 32) ∧
      (s.pair.state = .transfer → t.pair.kept = s.pair.kept ++ l.map (fun e => ⟨e.num, e.source, e.stamp, e.data, 0⟩)) ∧
      (entriesSkip s.pair.expect l = true → s.pair.state = .synced → t.pair.state = .transfer) ∧
      (entriesSkip s.pair.expect l = false → t.pair.state = s.pair.state)) ∧
  (∀ (f : List Byte) (s : State), s.Takes f → s.follows = false →
    ∃ t, exec (.log f) s = .next t ∧ t.ingest = s.ingest ∧ t.stop = s.stop) ∧
  (∀ (f : List Byte) (s : State), s.Brings 4 f → ∃ t, exec (.baseObs f) s = .next t ∧
    t.pipe.bases = (if s.follows = true then (⟨field (linkPayload f) 0 8,
      readRecords (linkPayload f).length ((linkPayload f).drop 8)⟩ :: s.pipe.bases).take 10 else s.pipe.bases) ∧
    { t with pipe := { t.pipe with bases := s.pipe.bases }, pair := s.pair, counters := s.counters } = s) ∧
  (∀ s : State, s.MaySend → s.pair.drive = .own → ∃ t, exec .confirmSend s = .next t ∧ t.pair.placed = [] ∧
    (FT.slot s.now ≠ 0 ∨ s.pair.ownDigest = none → t.out = s.linkFrame s.linkAck 5 (confirmOctets (FT.cycle s.now) 0 0
      (s.pair.placed.map fun r => ⟨r.getD 0 0, r.getD 1 0, r.getD 2 0, r.getD 3 0, r.getD 4 0, r.getD 5 0⟩)) :: s.out) ∧
    (∀ d, s.pair.ownDigest = some d → FT.slot s.now = 0 → d.1 + 1 = FT.cycle s.now →
      t.out = s.linkFrame s.linkAck 5 (confirmOctets d.1 d.2 1
      (s.pair.placed.map fun r => ⟨r.getD 0 0, r.getD 1 0, r.getD 2 0, r.getD 3 0, r.getD 4 0, r.getD 5 0⟩)) :: s.out) ∧
    { t with pair := s.pair, out := s.out, counters := s.counters } = s) ∧
  (∀ (d : Nat × Nat) (s : State), s.MaySend → s.power.mode = .standby → s.pair.drive ≠ .own → s.pair.ownDigest = some d →
    ∃ t, exec .confirmSend s = .next t ∧ t.pair.digestSent = some d.1 ∧
      (s.pair.digestSent ≠ some d.1 → t.out = s.linkFrame s.linkAck 5 (confirmOctets d.1 d.2 1 []) :: s.out) ∧
      (s.pair.digestSent = some d.1 → t = s) ∧
      { t with pair := s.pair, out := s.out, counters := s.counters } = s) ∧
  (∀ s : State, s.inPair = false → exec .confirmSend s = .next s ∧ exec .digestForm s = .next s) ∧
  (∀ (f : List Byte) (s : State), s.Brings 5 f → s.follows = true → (field (linkPayload f) 16 1).testBit 0 = false →
    ∃ t, exec (.confirm f) s = .next t ∧
      t.pipe.launch = (readPlacements (linkPayload f).length ((linkPayload f).drop 20)).foldl
        (fun l r => if r.outcome ≤ 1 then modAt l r.port (removeUnit r) else l) s.pipe.launch ∧
      { t with pipe := { t.pipe with launch := s.pipe.launch }, pair := s.pair, counters := s.counters } = s) ∧
  (∀ (f : List Byte) (e : Nat) (s : State), s.Brings 5 f → (field (linkPayload f) 16 1).testBit 0 = true →
    s.pair.ownDigest = some (field (linkPayload f) 0 8, e) → s.pair.compared ≠ some (field (linkPayload f) 0 8) →
    ∃ t, exec (.confirm f) s = .next t ∧ t.pair.compared = some (field (linkPayload f) 0 8) ∧
      t.pair.peerDigest = some (field (linkPayload f) 0 8, field (linkPayload f) 8 8) ∧
      t.counter 0x3C2005 = s.counter 0x3C2005 + 1 ∧ t.settings = s.settings ∧
      (field (linkPayload f) 8 8 = e → t.upd.matchRun = s.upd.matchRun + 1) ∧
      (field (linkPayload f) 8 8 ≠ e → t.upd.matchRun = 0) ∧
      (field (linkPayload f) 8 8 ≠ e → s.follows = true → s.pair.state = .synced → t.pair.state = .transfer ∧
        t.counter 0x3C2006 = s.counter 0x3C2006 + 1) ∧
      (field (linkPayload f) 8 8 = e → s.follows = true → s.pair.state = .transfer → s.pair.loaded = true →
        s.pair.imageCycle < field (linkPayload f) 0 8 →
        t.pair.state = .synced ∧ t.counter 0x3C2007 = s.counter 0x3C2007 + 1)) ∧
  (∀ s : State, s.inPair = true → s.follows = true ∨ s.pair.drive = .own → ∃ t, exec .digestForm s = .next t ∧
    t.pair.ownDigest = some (FT.cycle s.pipe.snapAt, s.digest (FT.cycle s.pipe.snapAt)) ∧ t.settings = s.settings ∧
    t.tracks = s.tracks ∧ t.tasks = s.tasks ∧ t.machines = s.machines) ∧
  (∀ s : State, s.pairLive = true → s.pair.compared ≠ some (FT.cycle s.now - 2) → s.pair.state = .synced →
    s.arriving isLinkFrame = false →
    ∃ t, exec .digestLate s = .next t ∧ t.pair.compared = some (FT.cycle s.now - 2) ∧ t.pair.state = .transfer ∧
      t.counter 0x3C2006 = s.counter 0x3C2006 + 1 ∧ t.freeCount = s.freeCount + 1 ∧ t.settings = s.settings) ∧
  (∀ s : State, s.pair.compared = some (FT.cycle s.now - 2) ∨ s.arriving isLinkFrame = true → exec .digestLate s = .next s) ∧
  (∀ (f : List Byte) (r : AxisRec) (s : State), s.Shaped → s.Brings 7 f → s.follows = true →
    readAxes (linkPayload f).length (linkPayload f) = [r] → r.axis < 8 →
    ∃ t, exec (.axis f) s = .next t ∧ (∀ m, m ≠ r.axis → t.axis m = s.axis m) ∧ t.settings = s.settings ∧
      (r.kind = 1 → t.axis r.axis = { s.axis r.axis with start := some (r.at_, r.value) }) ∧
      (r.kind = 3 → (t.axis r.axis).diverged = decide (¬((s.axis r.axis).state.code = r.state ∧
        (s.axis r.axis).counter r.at_ (s.ticks - FT.nsSince r.at_ s.now / 2) = r.value)))) ∧
  (∀ (f : List Byte) (s : State), s.Takes f → s.follows = false → ∃ t, exec (.axis f) s = .next t ∧ t.axes = s.axes) ∧
  (∀ s : State, s.MaySend → s.pair.drive = .own → ((List.range 8).any fun n => s.axisCfg n 1 != 0) = true →
    ∃ t, exec .axisReportSend s = .next t ∧
      t.out = s.linkFrame s.linkAck 7 (((List.range 8).filter fun n => s.axisCfg n 1 != 0).flatMap fun n =>
        AxisRec.octets ⟨n, 3, (s.axis n).state.code, 0, s.axisPos n, s.now⟩) :: s.out ∧
      { t with pair := s.pair, out := s.out, counters := s.counters } = s)

/-- R549, R552 to R561, R669: a standby asks for a state transfer and loads the whole image; without a peer the unit becomes
ACTIVE when START ends; a handover is accepted and looks for the first slot start 20 ms ahead that the axes leave free, is
acknowledged, carried out at s, or abandoned; a yield waits for the next slot start; a unit of a pair that has faulted resets
100 ms later. What has a deadline does nothing before it. -/
def Obligations.TransferAndHandover : Prop :=
  (∀ s : State, s.pairLive = true → s.pair.state = .synced → s.pair.hbA = true ∨ s.pair.hbB = true →
    FT.lt (FT.addNs s.pair.complete (s.cfg 0x3C0600 * 1000000)) s.now = true → s.arriving isLinkFrame = false →
    ∃ t, exec .logLagExceeded s = .next t ∧ t.pair.state = .transfer ∧
      t.pair.transferId = (s.pair.transferId + 1) % 2 ^ 32 ∧ t.settings = s.settings) ∧
  (∀ s : State, s.pair.state ≠ .synced ∨ FT.lt (FT.addNs s.pair.complete (s.cfg 0x3C0600 * 1000000)) s.now = false ∨
    s.arriving isLinkFrame = true → exec .logLagExceeded s = .next s) ∧
  (∀ (f : List Byte) (s : State), s.Brings 6 f → s.pair.drive = .own → field (linkPayload f) 0 1 = 1 →
    ∃ t c, exec (.stateRequest f) s = .next t ∧ t.pair.freezing = some (field (linkPayload f) 1 4, c) ∧ FT.cycle s.now ≤ c ∧
      c ≤ FT.cycle s.now + 1 ∧ { t with pair := s.pair, counters := s.counters } = s) ∧
  (∀ (f : List Byte) (x : ImageRest) (s : State), s.Brings 6 f → s.pair.state = .transfer → s.pair.loaded = false →
    field (linkPayload f) 0 1 = 2 → field (linkPayload f) 1 4 = s.pair.transferId →
    field (linkPayload f) 5 4 = s.pair.image.length → ∃ t, exec (.state f x) s = .next t ∧ t.settings = s.settings ∧
      (s.pair.image.length + (linkPayload f).length - 13 < field (linkPayload f) 9 4 →
        t.pair.image = s.pair.image ++ (linkPayload f).drop 13 ∧ t.pair.loaded = false ∧
        t.tracks = s.tracks ∧ t.machines = s.machines) ∧
      (field (linkPayload f) 9 4 ≤ (s.pair.image ++ (linkPayload f).drop 13).length → t.pair.loaded = true ∧ t.pair.image = [] ∧
        t.pair.imageCycle = field (s.pair.image ++ (linkPayload f).drop 13) 8 8 ∧ t.machines.length = 128 ∧
        t.tracks.nodes =
          loadTable (fun _ => Node.blank) Node.decode (s.pair.image ++ (linkPayload f).drop 13) 16 16 2048 ∧
        t.stop.latch = (field (s.pair.image ++ (linkPayload f).drop 13) 496656 1 == 1))) ∧
  (∀ (k : Nat) (s : State), s.pairLive = true → s.pair.state = .transfer → s.pair.requested = some k →
    s.timedOut k (s.cfg 0x3C0700 * 500000000) isLinkFrame = true → ∃ t, exec .transferTimeout s = .next t ∧
    t.pair.transferId = (s.pair.transferId + 1) % 2 ^ 32 ∧ t.pair.image = [] ∧ t.pair.loaded = false ∧
    t.pair.state = .transfer ∧ t.pair.requested = some s.ticks ∧
    (s.MaySend → t.out = s.linkFrame s.linkAck 6 (1#8 :: leBytes 4 ((s.pair.transferId + 1) % 2 ^ 32)) :: s.out) ∧
    { t with pair := s.pair, out := s.out, counters := s.counters } = s) ∧
  (∀ (k : Nat) (s : State), s.pair.state ≠ .transfer ∨
    (s.pair.requested = some k ∧ s.timedOut k (s.cfg 0x3C0700 * 500000000) isLinkFrame = false) →
    exec .transferTimeout s = .next s) ∧
  (∀ s : State, s.pairLive = true → s.pair.state = .start → s.pair.peer = .free → s.linkIsUp = false →
    s.timedOut s.pair.downAt (s.cfg 0x3C0500 * 500000000) isLinkFrame = true →
    ∃ t, exec .startWaitExpired s = .next t ∧ t.pair.drive = .own ∧ t.pair.output = true ∧ t.pair.state = .active ∧
      t.power.mode = .active ∧ t.settings = s.settings) ∧
  (∀ s : State, s.linkIsUp = true ∨ s.timedOut s.pair.downAt (s.cfg 0x3C0500 * 500000000) isLinkFrame = false →
    exec .startWaitExpired s = .next s) ∧
  (∀ (w : Writer) (v : List Byte) (s : State), s.pairCommandCheck (s.roleOf w) v = 1 → leNat v = 1 →
    ∃ t, exec (.handoverRequest w v) s = .next t ∧ t.pair.state = .outgoing ∧
      t.pair.handover = some ⟨s.handoverSlot, s.ticks, s.ticks, false⟩ ∧ t.settings = s.settings ∧
      (∀ x, s.handoverSlot = some x → s.MaySend → s.linkFrame s.linkAck 8 (1#8 :: FT.bytes x) ∈ t.out) ∧
      (s.pair.state ≠ .outgoing → t.power.mode = .handover) ∧ ∃ l, t.out = .answer w.port.val w.sess.val 0x3C1000 1 :: l) ∧
  (∀ (x : FT) (s : State), s.now.sec + 20 < 2 ^ 64 → s.handoverSlot = some x →
    FT.le (FT.addNs s.now 20000000) x = true ∧ FT.le x (FT.addNs s.now 10000000000) = true ∧ FT.slotStart x = x ∧
      (∀ n, n < 8 → s.axisFree x n = true)) ∧
  (∀ (w : Writer) (v : List Byte) (s : State), 1 < s.pairCommandCheck (s.roleOf w) v →
    exec (.handoverRequest w v) s = .next { s with
      out := .answer w.port.val w.sess.val 0x3C1000 (s.pairCommandCheck (s.roleOf w) v) :: s.out,
      counters := bump 0x104003 1 s.counters }) ∧
  (∀ (w : Writer) (v : List Byte) (s : State), s.pairCommandCheck (s.roleOf w) v = 1 → leNat v = 2 →
    exec (.yieldRequest w v) s = .next { s with
      pair.yield := true, out := .answer w.port.val w.sess.val 0x3C1000 1 :: s.out,
      counters := bump 0x104002 1 s.counters }) ∧
  (∀ (f : List Byte) (s : State), s.Brings 8 f → field (linkPayload f) 0 1 = 1 → s.pairLive = true →
    s.pair.state = .synced → s.pair.hbA = true → s.pair.hbB = true → s.pair.apart = false →
    ∃ t, exec (.handoverGo f) s = .next t ∧ t.pair.state = .incoming ∧ t.pair.giveUp = some (FT.read (linkPayload f) 1) ∧
      t.out = s.linkFrame s.pair.rxSeq 8 (2#8 :: FT.bytes (FT.read (linkPayload f) 1)) :: s.out ∧
      t.pair.drive = s.pair.drive ∧ t.settings = s.settings) ∧
  (∀ (f : List Byte) (s : State), s.Brings 8 f → field (linkPayload f) 0 1 = 1 → s.pair.state ≠ .synced →
    ∃ t, exec (.handoverGo f) s = .next t ∧ t.pair.state = s.pair.state) ∧
  (∀ (f : List Byte) (y : Handover) (s : State), s.Brings 8 f → field (linkPayload f) 0 1 = 2 → s.pair.handover = some y →
    ∃ t, exec (.handoverAck f) s = .next t ∧ t.pair.handover =
      some (if y.at_ = some (FT.read (linkPayload f) 1) then { y with acked := true } else y) ∧
      { t with pair := s.pair, counters := s.counters } = s) ∧
  (∀ (f : List Byte) (s : State), s.Brings 8 f → field (linkPayload f) 0 1 = 3 → s.pair.state = .incoming →
    s.pair.hbA = true ∨ s.pair.hbB = true → ∃ t, exec (.handoverAbort f) s = .next t ∧ t.pair.state = .synced ∧
      t.pair.giveUp = none ∧ t.freeCount = s.freeCount + 1 ∧ t.pair.drive = s.pair.drive) ∧
  (∀ (y : Handover) (x : FT) (s : State), s.pair.state = .outgoing → s.pair.handover = some y → y.at_ = some x →
    FT.le x s.now = true → y.acked = true → s.handoverUnready = false → ∃ t, exec .handoverInstant s = .next t ∧
    t.pair.drive = .free ∧ t.pair.output = false ∧ t.pair.state = .synced ∧ t.power.mode = .standby ∧ t.pair.handover = none ∧
    t.ingest.held = [] ∧ (s.inPair = true → s.pair.drive = .own →
      (∀ e ∈ s.ingest.outbox ++ s.ingest.held, e.data.length ≤ 8152) → t.ingest.outbox = []) ∧
    t.counter 0x3C200A = s.counter 0x3C200A + 1 ∧ t.settings = s.settings) ∧
  (∀ (y : Handover) (x : FT) (s : State), s.pair.state ≠ .outgoing ∨ (s.pair.handover = some y ∧ y.at_ = some x ∧
    (FT.lt s.now x = true ∨ y.acked = false ∨ s.handoverUnready = true)) → exec .handoverInstant s = .next s) ∧
  (∀ (y : Handover) (s : State), s.pair.state = .outgoing → s.pair.handover = some y →
    s.handoverUnready = true ∨ (y.at_.isSome = true ∧ y.acked = false ∧ s.timedOut y.goAt 2500000 isLinkFrame = true) ∨
      (y.at_ = none ∧ s.passed y.since 5000000000 = true) → ∃ t, exec .handoverAbandoned s = .next t ∧
    t.pair.state = .active ∧ t.power.mode = .active ∧ t.pair.handover = none ∧ t.pair.drive = s.pair.drive ∧
    t.counter 0x3C200B = s.counter 0x3C200B + 1 ∧ t.settings = s.settings) ∧
  (∀ (y : Handover) (s : State), s.pair.state = .outgoing → s.pair.handover = some y → s.handoverUnready = false →
    s.passed y.since 5000000000 = false → s.timedOut y.goAt 2500000 isLinkFrame = false ∨ y.acked = true →
    exec .handoverAbandoned s = .next s) ∧
  (∀ (x : FT) (s : State), s.pair.state = .incoming → s.pair.giveUp = some x → s.pair.hbA = true ∨ s.pair.hbB = true →
    FT.lt (FT.addNs x 5000000) s.now = true → ∃ t, exec .handoverAbandoned s = .next t ∧ t.pair.state = .synced ∧
      t.pair.giveUp = none ∧ t.pair.drive = s.pair.drive ∧ t.settings = s.settings) ∧
  (∀ (x : FT) (s : State), s.pair.state = .incoming → s.pair.giveUp = some x → FT.lt (FT.addNs x 5000000) s.now = false →
    exec .handoverAbandoned s = .next s) ∧
  (∀ (k : Nat) (s : State), s.power.faultTick = some k → k + 50000000 ≤ s.ticks → ∃ t, exec .pairFaultReset s = .next t ∧
    t = s.enterReset 0x20 ∧ t.power.mode = .boot ∧ t.power.inReset = true ∧ t.stop.latch = true ∧ t.pair.drive = .free) ∧
  (∀ (k : Nat) (s : State), s.power.faultTick = none ∨ (s.power.faultTick = some k ∧ s.ticks < k + 50000000) →
    exec .pairFaultReset s = .next s)

/-! ### The object dictionary (chapters 18, 14 and 11) -/

/-- R572 to R577, R585 to R589: a message of no session does nothing; a repeated REQ_ID gets its response again; a READ
answers every object and changes no setting; a WRITE outside a group is one commit, which a refusal leaves without effect; a
write in a group is only staged; a group opens, commits and is dropped; a malformed request is answered BAD_TYPE. -/
def Obligations.DictionaryRequests : Prop :=
  (∀ (w : Writer) (m : List Byte) (i : CommitIn) (c : Instr) (s : State), c ∈ dictCommands w m i →
    s.sessionOf w.sess.val = none → exec c s = .next s) ∧
  (∀ (w : Writer) (m r : List Byte) (i : CommitIn) (x : Session) (c : Instr) (s : State), c ∈ dictCommands w m i →
    s.sessionOf w.sess.val = some x → x.port = w.port.val → x.last = some (field m 2 2, r) → 4 ≤ m.length →
    ∃ t, exec c s = .next t ∧ t.out = s.answered w r ∧
      t.counter 0x104006 = s.counter 0x104006 + 1 ∧ { t with dict := s.dict, net := s.net, out := s.out, counters := s.counters } = s) ∧
  (∀ (w : Writer) (m : List Byte) (i : CommitIn) (x : Session) (objs : List Nat) (s : State), s.Asks w m x →
    askOf m = .read objs → ∃ t items, exec (.dictRead w m i) s = .next t ∧ items.map (fun e => e.1) = objs ∧
      t.out = s.answered w (response m (field m 4 1) (firstNotDone (items.map fun e => e.2.1)) items) ∧
      (response m (field m 4 1) (firstNotDone (items.map fun e => e.2.1)) items).length ≤ 1200 ∧
      t.counter 0x104001 = s.counter 0x104001 + BitVec.ofNat 64 objs.length ∧ t.settings = s.settings ∧
      t.stop = s.stop ∧ t.axes = s.axes ∧ t.tracks = s.tracks) ∧
  (∀ (w : Writer) (m : List Byte) (i : CommitIn) (x : Session) (l : List (Nat × List Byte)) (v : Verdict) (s : State),
    s.Asks w m x → askOf m = .write l → field m 4 1 = 0 →
    (s.heard w).commitCheck w (s.roleOf w) i ((s.heard w).boundAll [] l) = v → passes v.codes = false →
    (∀ e ∈ l, e.1 ≠ 0x341000) → ∃ t, exec (.dictWrite w m i) s = .next t ∧ t.settings = s.settings ∧
      t.out = s.answered w (response m 0 (commitResult v.codes)
        (codeItems (((s.heard w).boundAll [] l).map fun y => y.obj) v.codes)) ∧
      t.counter 0x104003 = s.counter 0x104003 + 1 ∧ t.stop = s.stop ∧ t.axes = s.axes ∧ t.tracks = s.tracks) ∧
  (∀ (w : Writer) (m : List Byte) (i : CommitIn) (x : Session) (o : Nat) (b : List Byte) (v : Verdict) (s : State),
    s.Asks w m x → askOf m = .write [(o, b)] → field m 4 1 = 0 → isSetting o = true →
    (s.heard w).commitCheck w (s.roleOf w) i ((s.heard w).boundAll [] [(o, b)]) = v → passes v.codes = true →
    ∃ t, exec (.dictWrite w m i) s = .next t ∧ t.setting o = valueOf o b ∧ (∀ q, q ≠ o → t.setting q = s.setting q) ∧
      t.counter 0x104002 = s.counter 0x104002 + 1 ∧ t.pipe.commits = s.pipe.commits + 1) ∧
  (∀ (w : Writer) (m : List Byte) (i : CommitIn) (x : Session) (g : Group) (l : List (Nat × List Byte)) (s : State),
    s.Asks w m x → askOf m = .write l → field m 4 1 ≠ 0 → x.group = some g → g.ident = field m 4 1 →
    ∃ t, exec (.dictWrite w m i) s = .next t ∧
      t.out = s.answered w (response m g.ident (firstNotDone ((s.heard w).stageAll (s.roleOf w) l g).1)
        (codeItems (l.map Prod.fst) ((s.heard w).stageAll (s.roleOf w) l g).1)) ∧
      (∃ y, t.sessionOf w.sess.val = some y ∧ y.group = some ((s.heard w).stageAll (s.roleOf w) l g).2) ∧
      { t with dict := s.dict, net := s.net, out := s.out, counters := s.counters } = s) ∧
  (∀ (w : Writer) (m : List Byte) (i : CommitIn) (x : Session) (s : State), s.Asks w m x → askOf m = .groupOpen →
    ∃ t, exec (.groupOpen w m i) s = .next t ∧ { t with dict := s.dict, net := s.net, out := s.out, counters := s.counters } = s ∧
      (x.group = none → t.out = s.answered w (response m x.nextGroup 0 []) ∧
        ∃ y, t.sessionOf w.sess.val = some y ∧ y.group = some ⟨x.nextGroup, [], s.ticks⟩ ∧
          y.nextGroup = nextIdent x.nextGroup) ∧
      (x.group ≠ none → t.out = s.answered w (response m (field m 4 1) 0x10 []))) ∧
  (∀ (w : Writer) (m : List Byte) (i : CommitIn) (x : Session) (s : State), s.Asks w m x → askOf m = .groupCommit →
    (∀ g, x.group = some g → g.ident ≠ field m 4 1) → ∃ t, exec (.groupCommit w m i) s = .next t ∧
      t.out = s.answered w (response m (field m 4 1) 0x22 []) ∧
      { t with dict := s.dict, net := s.net, out := s.out, counters := s.counters } = s) ∧
  (∀ (w : Writer) (m : List Byte) (i : CommitIn) (x : Session) (g : Group) (s : State), s.Asks w m x →
    askOf m = .groupCommit → x.group = some g → g.ident = field m 4 1 → g.writes = [] →
    ∃ t, exec (.groupCommit w m i) s = .next t ∧ t.settings = s.settings ∧
      t.out = s.answered w (response m g.ident 0 []) ∧
      (∃ y, t.sessionOf w.sess.val = some y ∧ y.group = none) ∧ t.counter 0x104002 = s.counter 0x104002 + 1) ∧
  (∀ (w : Writer) (m : List Byte) (i : CommitIn) (x : Session) (g : Group) (v : Verdict) (s : State), s.Asks w m x →
    askOf m = .groupCommit → x.group = some g → g.ident = field m 4 1 → (∀ e ∈ g.writes, e.obj ≠ 0x341000) →
    ((s.heard w).modSession w.sess.val fun y => { y with group := none }).commitCheck w (s.roleOf w) i g.writes = v →
    passes v.codes = false → ∃ t, exec (.groupCommit w m i) s = .next t ∧ t.settings = s.settings ∧ t.stop = s.stop ∧
      t.axes = s.axes ∧ t.tracks = s.tracks ∧ t.out = s.answered w (response m g.ident (commitResult v.codes)
        (codeItems (g.writes.map fun y => y.obj) v.codes)) ∧
      (∃ y, t.sessionOf w.sess.val = some y ∧ y.group = none) ∧ t.counter 0x104003 = s.counter 0x104003 + 1) ∧
  (∀ (w : Writer) (m : List Byte) (i : CommitIn) (x : Session) (g : Group) (s : State), s.Asks w m x →
    askOf m = .groupAbort → x.group = some g → g.ident = field m 4 1 → ∃ t, exec (.groupAbort w m i) s = .next t ∧
      t.out = s.answered w (response m g.ident 0 []) ∧
      (∃ y, t.sessionOf w.sess.val = some y ∧ y.group = none) ∧ t.counter 0x104007 = s.counter 0x104007 + 1 ∧
      { t with dict := s.dict, net := s.net, out := s.out, counters := s.counters, rcd := s.rcd } = s) ∧
  (∀ (w : Writer) (m : List Byte) (i : CommitIn) (x : Session) (c : Instr) (s : State), c ∈ dictCommands w m i →
    s.Asks w m x → askOf m = .malformed → ∃ t, exec c s = .next t ∧ t.counter 0x104005 = s.counter 0x104005 + 1 ∧
      t.out = s.answered w (response m 0 0x21 []) ∧
      { t with dict := s.dict, net := s.net, out := s.out, counters := s.counters, rcd := s.rcd } = s) ∧
  (∀ (w : Writer) (x : Session) (g : Group) (s : State), 2 ≤ w.port.val → s.sessionOf w.sess.val = some x →
    x.group = some g → s.timedOut g.opened 30000000000 (closesGroup w) = true → ∃ t, exec (.groupTimeout w) s = .next t ∧
      (∃ y, t.sessionOf w.sess.val = some y ∧ y = { x with group := none }) ∧
      t.counter 0x104007 = s.counter 0x104007 + 1 ∧ { t with dict := s.dict, counters := s.counters, rcd := s.rcd } = s) ∧
  (∀ (w : Writer) (x : Session) (g : Group) (s : State), 2 ≤ w.port.val → s.sessionOf w.sess.val = some x →
    x.group = some g → s.timedOut g.opened 30000000000 (closesGroup w) = false → exec (.groupTimeout w) s = .next s)

/-- R583, R584, R692, R694: a handshake that fails is answered with an alert and counted; one that succeeds opens the lowest
free session with its role, of which OWNER is only the owner's credential; the end of a session, by its host or after 0x1021
without a message, drops its group and the update session it holds. -/
def Obligations.Sessions : Prop :=
  (∀ (p : Fin 4) (x : HandshakeIn) (c : Nat) (s : State), s.handshake x = .inr c → ∃ t, exec (.dtlsHandshake p x) s = .next t ∧
    t.out = s.offered p.val (.alert (p.val + 2) 0) ∧ t.counter 0x125001 = s.counter 0x125001 + 1 ∧
    { t with net := s.net, out := s.out, counters := s.counters, rcd := s.rcd } = s) ∧
  (∀ (p : Fin 4) (x : HandshakeIn) (role n : Nat) (s : State), s.handshake x = .inl role → 1 ≤ n → n ≤ 8 →
    s.sessionOf n = none → (∀ k, 1 ≤ k → k < n → s.sessionOf k ≠ none) →
    exec (.dtlsHandshake p x) s = .next
      { s with dict.sessions := s.dict.sessions ++ [⟨n, p.val + 2, role, x.onRole, none, none, 1, s.ticks⟩] }) ∧
  (∀ (p : Fin 4) (x : HandshakeIn) (role : Nat) (s : State), s.handshake x = .inl role →
    (∀ k, 1 ≤ k → k ≤ 8 → s.sessionOf k ≠ none) → ∃ t, exec (.dtlsHandshake p x) s = .next t ∧
      t.out = s.offered p.val (.alert (p.val + 2) 0) ∧ t.counter 0x104009 = s.counter 0x104009 + 1 ∧
      { t with net := s.net, out := s.out, counters := s.counters } = s) ∧
  (∀ (x : HandshakeIn) (s : State), s.sec.owner ≠ [] → s.handshake x = .inl 3 →
    x.wellFormed = true ∧ certOctets x.cert = certOctets s.sec.owner ∧ s.denied x.cert = false) ∧
  (∀ (x : HandshakeIn) (role : Nat) (s : State), s.sec.owner = [] → s.handshake x = .inl role →
    x.wellFormed = true ∧ (role = 3 → s.sec.tamper = true ∧ (s.power.mode = .boot ∨ s.power.mode = .maintain)) ∧
    (role ≠ 3 → role = 0)) ∧
  (∀ (told : Bool) (k : Fin 8) (x : Session) (s : State), s.sessionOf (k.val + 1) = some x →
    (told = true → s.timedOut x.since (s.cfg 0x102100 * 500000000) (ofSession (k.val + 1)) = true) →
    ∃ t, exec (if told = true then .sessionIdleExpired k else .sessionClosed k) s = .next t ∧
      t.dict.sessions = s.dict.sessions.filter (fun y => y.num != k.val + 1) ∧
      t.out = (if told = true then s.offered (x.port - 2) (.alert x.port (k.val + 1)) else s.out) ∧
      t.counter 0x104007 = s.counter 0x104007 + (if x.group = none then 0 else 1) ∧
      (s.upd.holder = some (x.port, k.val + 1) → s.upd.state = .receiving →
        t.upd.state = .idle ∧ t.upd.holder = none ∧ t.counter 0x3F2007 = s.counter 0x3F2007 + 1) ∧
      (s.upd.holder ≠ some (x.port, k.val + 1) → t.upd = s.upd) ∧ t.settings = s.settings ∧ t.stop = s.stop) ∧
  (∀ (k : Fin 8) (x : Session) (s : State), s.sessionOf (k.val + 1) = some x →
    s.timedOut x.since (s.cfg 0x102100 * 500000000) (ofSession (k.val + 1)) = false →
    exec (.sessionIdleExpired k) s = .next s) ∧
  (∀ (k : Fin 8) (s : State), s.sessionOf (k.val + 1) = none →
    exec (.sessionIdleExpired k) s = .next s ∧ exec (.sessionClosed k) s = .next s) ∧
  (∀ (w : Writer) (v : List Byte) (peerSpent verified : Bool) (y : Verdict) (s : State),
    s.commitCheck w (s.roleOf w) ⟨verified, peerSpent, true, true⟩ [s.bound [] 0x300200 v] = y → passes y.codes = true →
    ∃ t, exec (.radioRegionWrite w v peerSpent verified) s = .next t ∧ t.setting 0x300200 = valueOf 0x300200 v ∧
      (∀ q, q ≠ 0x300200 → t.setting q = s.setting q) ∧ t.counter 0x104002 = s.counter 0x104002 + 1 ∧
      s.dict.changes <+: t.dict.changes ∧ (∃ e, t.dict.changes.getLast? = some e ∧ e.param = 2)) ∧
  (∀ (w : Writer) (v : List Byte) (peerSpent verified : Bool) (y : Verdict) (s : State),
    s.commitCheck w (s.roleOf w) ⟨verified, peerSpent, true, true⟩ [s.bound [] 0x300200 v] = y →
    passes y.codes = false → ∃ t, exec (.radioRegionWrite w v peerSpent verified) s = .next t ∧ t.settings = s.settings ∧
      t.counter 0x104003 = s.counter 0x104003 + 1 ∧
      t.out = .answer w.port.val w.sess.val 0x300200 (commitResult y.codes) :: s.out)

/-- R434 to R436, R590 to R592: a CAN port that is off its bus does nothing; a READ answers an object's octets, 56 at a time
and then 60 a segment; a WRITE of up to 56 octets is a commit, a longer one takes its segments in turn; a repeated toggle
gets the previous answer; an ABORT or the timeout ends an open transfer; a group of the port opens and is dropped. -/
def Obligations.CanDictionary : Prop :=
  (∀ (c : Fin 2) (m : List Byte) (i : CommitIn) (x : Instr) (s : State), x ∈ canCommands c m i → s.canOn c.val = false →
    exec x s = .next s) ∧
  (∀ (c : Fin 2) (m : List Byte) (i : CommitIn) (k : Nat) (b : List Byte) (u s : State), s.canOn c.val = true →
    4 ≤ m.length → field m 0 1 = 1 → (s.canDict c.val).xfer = none →
    s.readItem (s.roleOf (canWriter c.val)) (canObj m) = (k, b, u) → b.length ≤ 56 →
    ∃ t, exec (.canRead c m i) s = .next t ∧ t.settings = s.settings ∧
      t.out = .can c.val (0x580 + (s.canPort c.val).node)
        (canPadded ([0x81#8] ++ objOctets (canObj m) ++ [byte k, 0#8] ++ leBytes 2 b.length ++ b)) :: u.out) ∧
  (∀ (c : Fin 2) (m : List Byte) (i : CommitIn) (k : Nat) (b : List Byte) (u s : State), s.Shaped → s.canOn c.val = true →
    4 ≤ m.length → field m 0 1 = 1 → (s.canDict c.val).xfer = none →
    s.readItem (s.roleOf (canWriter c.val)) (canObj m) = (k, b, u) → 56 < b.length →
    ∃ t y, exec (.canRead c m i) s = .next t ∧ (t.canDict c.val).xfer = some y ∧ y.write = false ∧ y.data = b.drop 56 ∧
      y.toggle = 0 ∧ t.settings = s.settings ∧
      t.out = .can c.val (0x580 + (s.canPort c.val).node)
        ([0x81#8] ++ objOctets (canObj m) ++ [byte k, 0#8] ++ leBytes 2 b.length ++ b.take 56) :: u.out) ∧
  (∀ (c : Fin 2) (m : List Byte) (i : CommitIn) (y : CanXfer) (s : State), s.Shaped → s.canOn c.val = true →
    field m 0 1 = 4 → (s.canDict c.val).xfer = some y → y.write = false → field m 1 1 % 2 = y.toggle → y.data ≠ [] →
    ∃ t z, exec (.segmentUpReq c m i) s = .next t ∧ (t.canDict c.val).xfer = some z ∧ z.data = y.data.drop 60 ∧
      z.toggle = 1 - y.toggle ∧ z.since = s.ticks ∧
      t.out = .can c.val (0x580 + (s.canPort c.val).node) (canPadded z.answer) :: s.out ∧
      z.answer = [0x84#8, byte (y.toggle + 2 * b2n (decide (y.data.length ≤ 60)))] ++
        leBytes 2 (min 60 y.data.length) ++ y.data.take 60 ∧ t.settings = s.settings) ∧
  (∀ (c : Fin 2) (m : List Byte) (i : CommitIn) (y : CanXfer) (q : Instr) (s : State), s.Shaped → s.canOn c.val = true →
    (s.canDict c.val).xfer = some y → field m 1 1 % 2 ≠ y.toggle →
    (field m 0 1 = 4 ∧ y.write = false ∧ q = .segmentUpReq c m i) ∨ (field m 0 1 = 3 ∧ y.write = true ∧ q = .segmentDown c m i) →
    ∃ t, exec q s = .next t ∧ t.out = .can c.val (0x580 + (s.canPort c.val).node) (canPadded y.answer) :: s.out ∧
      (t.canDict c.val).xfer = some { y with since := s.ticks } ∧
      { t with dict := s.dict, out := s.out, counters := s.counters } = s) ∧
  (∀ (c : Fin 2) (m : List Byte) (i : CommitIn) (s : State), s.Shaped → s.canOn c.val = true → field m 0 1 = 2 →
    8 + 56 ≤ m.length → 56 < field m 6 2 → field m 6 2 ≤ 1024 → (s.canDict c.val).xfer = none →
    ∃ t z, exec (.canWrite c m i) s = .next t ∧ (t.canDict c.val).xfer = some z ∧ z.write = true ∧ z.obj = canObj m ∧
      z.size = field m 6 2 ∧ z.data = (m.drop 8).take 56 ∧ z.toggle = 0 ∧
      t.out = .can c.val (0x580 + (s.canPort c.val).node) [0x83#8, 0#8] :: s.out ∧ t.settings = s.settings) ∧
  (∀ (c : Fin 2) (m : List Byte) (i : CommitIn) (v : Verdict) (s : State), s.canOn c.val = true → field m 0 1 = 2 →
    field m 4 1 = 0 → field m 6 2 ≤ 56 → 8 + field m 6 2 ≤ m.length → (s.canDict c.val).xfer = none →
    isSetting (canObj m) = true → windowSelect (canObj m) = none →
    ((s.xferEnds c.val).modCanDict c.val fun d => { d with wrote := s.ticks }).commitCheck (canWriter c.val) (s.roleOf (canWriter c.val)) i
      [⟨canObj m, (m.drop 8).take (field m 6 2), 0⟩] = v → passes v.codes = true →
    ∃ t, exec (.canWrite c m i) s = .next t ∧
      t.setting (canObj m) = valueOf (canObj m) ((m.drop 8).take (field m 6 2)) ∧
      (∀ q, q ≠ canObj m → t.setting q = s.setting q) ∧ t.counter 0x104002 = s.counter 0x104002 + 1) ∧
  (∀ (c : Fin 2) (m : List Byte) (i : CommitIn) (y : CanXfer) (s : State), s.Shaped → s.canOn c.val = true →
    field m 0 1 = 3 → (s.canDict c.val).xfer = some y → y.write = true → field m 1 1 % 2 = y.toggle →
    1 ≤ field m 2 2 → field m 2 2 ≤ 60 → 4 + field m 2 2 ≤ m.length → y.data.length + field m 2 2 < y.size →
    ∃ t z, exec (.segmentDown c m i) s = .next t ∧ (t.canDict c.val).xfer = some z ∧
      z.data = y.data ++ (m.drop 4).take (field m 2 2) ∧ z.toggle = 1 - y.toggle ∧ z.size = y.size ∧
      t.out = .can c.val (0x580 + (s.canPort c.val).node) [0x83#8, byte (1 - y.toggle)] :: s.out ∧
      t.settings = s.settings) ∧
  (∀ (c : Fin 2) (m : List Byte) (i : CommitIn) (y : CanXfer) (q : Instr) (s : State), s.Shaped →
    (s.canDict c.val).xfer = some y →
    (q = .canTransferTimeout c ∧ s.timedOut y.since 500000000 (ofTransfer c.val) = true) ∨
      (q = .canAbort c m i ∧ s.canOn c.val = true ∧ field m 0 1 = 0x7F) →
    ∃ t, exec q s = .next t ∧ (t.canDict c.val).xfer = none ∧
      t.counter 0x104008 = s.counter 0x104008 + (if y.isOpen = true then 1 else 0) ∧
      { t with dict := s.dict, counters := s.counters } = s) ∧
  (∀ (c : Fin 2) (y : CanXfer) (s : State), (s.canDict c.val).xfer = none ∨
    ((s.canDict c.val).xfer = some y ∧ s.timedOut y.since 500000000 (ofTransfer c.val) = false) →
    exec (.canTransferTimeout c) s = .next s) ∧
  (∀ (c : Fin 2) (m : List Byte) (i : CommitIn) (s : State), s.Shaped → s.canOn c.val = true → 3 ≤ m.length →
    field m 0 1 = 5 → field m 1 1 = 1 → (s.canDict c.val).group = none → ∃ t, exec (.canGroup c m i) s = .next t ∧
      (t.canDict c.val).group = some ⟨(s.canDict c.val).nextGroup, [], s.ticks⟩ ∧
      (t.canDict c.val).nextGroup = nextIdent (s.canDict c.val).nextGroup ∧ t.settings = s.settings ∧
      t.out = .can c.val (0x580 + (s.canPort c.val).node) [0x85#8, 1#8, byte (s.canDict c.val).nextGroup, 0#8, 0#8] :: s.out) ∧
  (∀ (c : Fin 2) (m : List Byte) (i : CommitIn) (g : Group) (s : State), s.Shaped → s.canOn c.val = true → 3 ≤ m.length →
    field m 0 1 = 5 → field m 1 1 = 3 → (s.canDict c.val).group = some g → g.ident = field m 2 1 →
    ∃ t, exec (.canGroup c m i) s = .next t ∧ (t.canDict c.val).group = none ∧
      t.counter 0x104007 = s.counter 0x104007 + 1 ∧ t.settings = s.settings) ∧
  (∀ (c : Fin 2) (w : Writer) (g : Group) (s : State), s.Shaped → w.port.val = c.val → (s.canDict c.val).group = some g →
    s.timedOut g.opened 30000000000 (closesGroup w) = true →
    ∃ t, exec (.groupTimeout w) s = .next t ∧ (t.canDict c.val).group = none ∧
      t.counter 0x104007 = s.counter 0x104007 + 1 ∧ { t with dict := s.dict, counters := s.counters, rcd := s.rcd } = s) ∧
  (∀ (c : Fin 2) (id : Nat) (m : List Byte) (f : CanIn) (i : CommitIn) (s : State), s.canOn c.val = false ∨ f.remote = true →
    exec (.canFrameReceived c id m f i) s = .next s) ∧
  (∀ (c : Fin 2) (id : Nat) (m : List Byte) (f : CanIn) (i : CommitIn) (s : State), s.canOn c.val = true → f.remote = false →
    f.extended = true ∨ (id ≠ 1 ∧ id ≠ 0x600 + (s.canPort c.val).node ∧ id ≠ 0x580 + (s.canPort c.val).node) →
    exec (.canFrameReceived c id m f i) s = .next { s with counters := bump ((0x3670 + c.val) * 256 + 3) 1 s.counters }) ∧
  (∀ (c : Fin 2) (m : List Byte) (f : CanIn) (i : CommitIn) (s : State), s.Shaped → s.canOn c.val = true →
    f.remote = false → f.extended = false → f.taken = 0 → 32 ≤ (s.canPort c.val).rx →
    ∃ t, exec (.canFrameReceived c (0x600 + (s.canPort c.val).node) m f i) s = .next t ∧
      t.counter ((0x3670 + c.val) * 256 + 7) = s.counter ((0x3670 + c.val) * 256 + 7) + 1 ∧
      { t with net := s.net, counters := s.counters } = s) ∧
  (∀ (c : Fin 2) (m : List Byte) (f : CanIn) (i : CommitIn) (s : State), s.Shaped → s.canOn c.val = true →
    f.remote = false → f.extended = false → (s.canPort c.val).rx < 32 + f.taken →
    ∃ t, exec (.canFrameReceived c (0x580 + (s.canPort c.val).node) m f i) s = .next t ∧
      (t.canPort c.val).rx = (s.canPort c.val).rx - f.taken + 1 ∧
      t.counter ((0x3670 + c.val) * 256 + 1) = s.counter ((0x3670 + c.val) * 256 + 1) + 1 ∧
      { t with net := s.net, counters := s.counters } = s) ∧
  (∀ (c : Fin 2) (w : Writer) (m : List Byte) (f : CanIn) (i : CommitIn) (s : State), s.canOn c.val = true →
    f.remote = false → f.extended = false → exec (.canFrameReceived c 1 m f i) s =
      exec (.stopCommandStop 1 w m) { s with counters := bump ((0x3670 + c.val) * 256 + 1) 1 s.counters }) ∧
  (∀ (c : Fin 2) (m : List Byte) (f : CanIn) (i : CommitIn) (u v : State), u.canOn c.val = true →
    f.remote = false → f.extended = false → (u.canPort c.val).rx < 32 + f.taken →
    v = (u.modCan c.val fun x => { x with rx := (u.canPort c.val).rx - f.taken + 1 }).countCan c.val 1 → ∃ t r,
      exec (.canFrameReceived c (0x600 + (u.canPort c.val).node) m f i) u = .next t ∧ exec (.canRead c m i) v = .next r ∧
      (f.classical = false → t = r) ∧ { t with out := r.out } = r ∧
      (f.classical = true → t.out = (r.out.take (r.out.length - v.out.length)).map Out.classically ++ v.out))

/-! ### The event recorder (chapter 19) -/

/-- R604 to R608, R611, R615: a flush that is due takes every staged record to its area, a SAFETY record to the SAFETY area
and any other to the sector being written while it has room; a failed page retires its sector; dropped records, and those
that the default limit withheld, are summed up; a datagram that is due takes whole records to every sink in use. -/
def Obligations.RecorderFlushAndStreams : Prop :=
  (∀ s : State, s.flushDue = true → ∃ t, exec (.recorderFlush none) s = .next t ∧ t.rcd.staged = [] ∧
    t.rcd.sectors = s.rcd.sectors ∧
    t.rcd.nextSeq = s.rcd.nextSeq ∧ { t with rcd := s.rcd, counters := s.counters } = s) ∧
  (∀ (x : Rec) (s : State), s.rcd.staged = [x] → x.sev = 7 → x.made + 10000000 ≤ s.ticks →
    recsLength s.rcd.safety + x.length ≤ sectorSize →
    ∃ t, exec (.recorderFlush none) s = .next t ∧ t.rcd.safety = s.rcd.safety ++ [x] ∧
      t.counter 0x3E2002 = s.counter 0x3E2002) ∧
  (∀ (x : Rec) (u : Nat) (l : List Rec) (s : State), s.rcd.staged = [x] → x.sev ≠ 7 → x.made + 10000000 ≤ s.ticks →
    s.rcd.ring.getLast? = some (u, l) → u + x.length ≤ sectorSize → ∃ t v, exec (.recorderFlush none) s = .next t ∧
      t.rcd.ring.getLast? = some (v, l ++ [x]) ∧ u + x.length ≤ v ∧ t.rcd.ring.length = s.rcd.ring.length ∧
      t.rcd.safety = s.rcd.safety) ∧
  (∀ (bad : Option (Fin 63)) (s : State), recsLength s.rcd.staged < 256 →
    (s.rcd.staged.all fun r => decide (s.ticks < r.made + 10000000)) = true → exec (.recorderFlush bad) s = .next s) ∧
  (∀ (k : Fin 63) (s : State), s.flushDue = true → ∃ t, exec (.recorderFlush (some k)) s = .next t ∧
    t.rcd.sectors = s.rcd.sectors - 1 ∧ t.counter 0x3E2007 = s.counter 0x3E2007 + 1 ∧
    { t with rcd := s.rcd, counters := s.counters } = s) ∧
  (∀ s : State, s.rcd.dropped = 0 → exec .recordsDropped s = .next s) ∧
  (∀ s : State, s.rcd.dropped ≠ 0 → s.cfg 0x3E0100 ≤ 3 →
    ∃ t, exec .recordsDropped s = .next t ∧ t.rcd.nextSeq = s.rcd.nextSeq + 1 ∧
      t.counter 0x3E2001 = s.counter 0x3E2001 + 1 ∧ { t with rcd := s.rcd, counters := s.counters } = s) ∧
  (∀ (c : Nat) (x : RateCell) (s : State), SMap.getD RateCell.fresh (rateKey c 0) s.rcd.rates = x →
    (x.prev = 0 ∧ (x.held = 0 ∨ s.ticks - x.start < 500000000)) ∨ (Catalog.event c).limit ≠ .default →
    exec (.recordsSuppressed c) s = .next s) ∧
  (∀ (c : Nat) (x : RateCell) (s : State), SMap.getD RateCell.fresh (rateKey c 0) s.rcd.rates = x →
    0 < x.prev ∨ (0 < x.held ∧ 500000000 ≤ s.ticks - x.start) → (Catalog.event c).limit = .default → s.cfg 0x3E0100 ≤ 2 →
    ∃ t, exec (.recordsSuppressed c) s = .next t ∧ t.rcd.nextSeq = s.rcd.nextSeq + 1 ∧
      t.counter 0x3E2001 = s.counter 0x3E2001 + 1 ∧
      (SMap.wf (fun _ => RateCell.fresh) s.rcd.rates = true → SMap.getD RateCell.fresh (rateKey c 0) t.rcd.rates =
        (if 0 < x.prev then { x with prev := 0 } else { x with held := 0 })) ∧
      { t with rcd := s.rcd, counters := s.counters } = s) ∧
  (∀ s : State, s.streaming = false ∨ (recsLength s.rcd.stream < 1000 ∧
    (s.rcd.stream.all fun r => decide (s.ticks < r.made + 500000000)) = true) → exec .recordStreamDatagram s = .next s) ∧
  (∀ (x : Rec) (l : List Rec) (s : State), s.streaming = true → s.rcd.streamDue s.ticks = true → s.rcd.stream = x :: l →
    x.length ≤ 1256 → (∀ o, o = 0x3E3001 ∨ o = 0x3E3002 → s.sinkUsed o = true → ∃ p hop mac, s.Reaches (s.cfgOct o) p hop mac) →
    ∃ t, exec .recordStreamDatagram s = .next t ∧ t.rcd.skipped = 0 ∧
      t.rcd.stream = s.rcd.stream.drop (takeRecords 1256 s.rcd.stream).length ∧ t.rcd.stream.length ≤ l.length ∧
      t.counter 0x3E2008 = s.counter 0x3E2008 + BitVec.ofNat 64 (s.sinksInUse 0x3E3000 2) ∧ t.settings = s.settings) ∧
  (∀ (x : Rec) (l : List Rec) (p : Nat) (hop mac : List Byte) (s : State), s.streaming = true →
    s.rcd.streamDue s.ticks = true → s.rcd.stream = x :: l → x.length ≤ 1256 → s.sinkUsed 0x3E3001 = true →
    s.sinkUsed 0x3E3002 = false → s.Reaches (s.cfgOct 0x3E3001) p hop mac → ∃ t, exec .recordStreamDatagram s = .next t ∧
      t.out = s.udpFrame p 0 false mac 4355 (s.cfgOct 0x3E3001)
        (leBytes 8 x.seq ++ leBytes 2 (takeRecords 1256 (x :: l)).length ++
          [1#8, byte (s.pair.pos + 2 * b2n (s.pair.drive == .own))] ++ leBytes 4 (min s.rcd.skipped 0xFFFFFFFF) ++
          (takeRecords 1256 (x :: l)).flatMap Rec.encode) :: s.out)

/-! ### Field update (chapter 20) -/

/-- R623 to R629: an accepted open takes the lock and empties the Hamper; a piece that no row of R625 refuses is appended; a
finish of the whole image starts its verification; an abort, 0x3F10 without a piece and a failed check end the session
without an image; a verified image is STAGED, or applied to the active bank's image and READY in the inactive bank. -/
def Obligations.UpdateSessionAndImages : Prop :=
  (∀ (w : Writer) (v : List Byte) (s : State), s.openCheck (s.roleOf w) v = 1 → ∃ t, exec (.updateOpen w v) s = .next t ∧
    t.upd = { s.upd with state := .receiving, holder := some (w.port.val, w.session), kind := field v 0 1,
                         total := field v 4 4, hamper := [], staged := none, pieceAt := s.ticks } ∧
    t.out = .answer w.port.val w.sess.val 0x3F0000 1 :: s.out ∧ t.counter 0x3F2001 = s.counter 0x3F2001 + 1 ∧
    { t with upd := s.upd, out := s.out, counters := s.counters, rcd := s.rcd } = s) ∧
  (∀ (w : Writer) (v : List Byte) (s : State), 1 < s.openCheck (s.roleOf w) v → s.openCheck (s.roleOf w) v ≠ 0x21 →
    ∃ t, exec (.updateOpen w v) s = .next t ∧ t.counter 0x3F2002 = s.counter 0x3F2002 + 1 ∧
      t.out = .answer w.port.val w.sess.val 0x3F0000 (s.openCheck (s.roleOf w) v) :: s.out ∧
      { t with out := s.out, counters := s.counters, rcd := s.rcd } = s) ∧
  (∀ (w : Writer) (v : List Byte) (s : State), s.pieceCheck (s.roleOf w) w.port.val w.session v = 0 →
    exec (.updateData w v) s = .next { s with
      upd := { s.upd with hamper := s.upd.hamper ++ v.drop 8, pieceAt := s.ticks },
      out := .answer w.port.val w.sess.val 0x3F0100 0 :: s.out,
      counters := bump 0x104002 1 s.counters }) ∧
  (∀ (w : Writer) (v : List Byte) (s : State), s.writeCheck (s.roleOf w) 0x3F0100 v = 0 → field v 4 4 = 0 →
    s.upd.holder = some (w.port.val, w.session) → s.upd.state = .receiving → field v 0 4 = s.upd.hamper.length →
    field v 0 4 + (v.length - 8) ≤ s.upd.total → s.pieceCheck (s.roleOf w) w.port.val w.session v = 0) ∧
  (∀ (w : Writer) (v : List Byte) (s : State), s.finishCheck (s.roleOf w) w.port.val w.session v = 1 →
    exec (.updateFinish w v) s = .next { s with
      upd.state := .verifying, out := .answer w.port.val w.sess.val 0x3F0200 1 :: s.out,
      counters := bump 0x104002 1 s.counters }) ∧
  (∀ (w : Writer) (v : List Byte) (s : State), s.finishCheck (s.roleOf w) w.port.val w.session v = 1 →
    s.upd.holder = some (w.port.val, w.session) ∧ s.upd.state = .receiving ∧ s.upd.hamper.length = s.upd.total) ∧
  (∀ (w : Writer) (v : List Byte) (s : State), s.abortCheck (s.roleOf w) w.port.val w.session v = 0 →
    ∃ t, exec (.updateAbort w v) s = .next t ∧ t.settings = s.settings ∧
      (s.upd.state = .receiving → t.upd = { s.upd with state := .idle, holder := none } ∧
        t.counter 0x3F2007 = s.counter 0x3F2007 + 1) ∧
      (s.upd.state = .staged → t.upd = { s.upd with state := .idle, hamper := [], staged := none }) ∧
      (s.upd.state = .ready → t.upd.state = .idle ∧ t.upd.active = s.upd.active ∧ t.spareImage = none)) ∧
  (∀ s : State, s.upd.state = .receiving → s.timedOut s.upd.pieceAt (s.cfg 0x3F1000 * 500000000) bringsPiece = true →
    ∃ t, exec .updateSessionLost s = .next t ∧
    t.upd = { s.upd with state := .idle, holder := none } ∧ t.counter 0x3F2007 = s.counter 0x3F2007 + 1 ∧
    { t with upd := s.upd, counters := s.counters, rcd := s.rcd } = s) ∧
  (∀ s : State, s.upd.state ≠ .receiving ∨ s.timedOut s.upd.pieceAt (s.cfg 0x3F1000 * 500000000) bringsPiece = false →
    exec .updateSessionLost s = .next s) ∧
  (∀ s : State, s.upd.state = .verifying → s.verifyCause ≠ 0 → ∃ t, exec .imageVerified s = .next t ∧
    t.upd = { s.upd with state := .idle, holder := none, hamper := [], cause := s.verifyCause } ∧
    t.counter 0x3F2003 = s.counter 0x3F2003 + 1 ∧ { t with upd := s.upd, counters := s.counters, rcd := s.rcd } = s) ∧
  (∀ s : State, s.upd.state = .verifying → s.verifyCause = 0 → ∃ t, exec .imageVerified s = .next t ∧
    (s.upd.kind = 3 → t = { s with upd.state := .applying }) ∧
    (s.upd.kind ≠ 3 → t.upd.state = .staged ∧ t.upd.holder = none ∧ t.upd.hamper = s.upd.hamper ∧
      t.upd.staged = some (headerImage (s.upd.hamper.take 256) (s.upd.hamper.drop 256)))) ∧
  (∀ s : State, s.upd.state ≠ .verifying → exec .imageVerified s = .next s) ∧
  (∀ (r : List Byte) (s : State), s.upd.state = .applying → s.upd.banks.length = 2 → s.upd.active < 2 →
    darn (((s.upd.banks.getD s.upd.active none).map fun i => i.content).getD []) (s.upd.hamper.drop 256).length
      (s.upd.hamper.drop 256) [] = some r → r.length = field (s.upd.hamper.take 256) 24 4 →
    Config.sha384 r = ((s.upd.hamper.take 256).drop 80).take 48 → ∃ t, exec .darnApplyComplete s = .next t ∧
      t.upd.state = .ready ∧ t.upd.holder = none ∧ t.upd.active = s.upd.active ∧
      t.spareImage = some (headerImage (s.upd.hamper.take 256) r)) ∧
  (∀ s : State, s.upd.state = .applying → s.upd.banks.length = 2 → s.upd.active < 2 →
    darn (((s.upd.banks.getD s.upd.active none).map fun i => i.content).getD []) (s.upd.hamper.drop 256).length
      (s.upd.hamper.drop 256) [] = none → ∃ t, exec .darnApplyComplete s = .next t ∧
      t.upd.state = .idle ∧ t.upd.cause = 8 ∧ t.spareImage = none ∧ t.counter 0x3F2003 = s.counter 0x3F2003 + 1) ∧
  (∀ s : State, s.upd.state ≠ .applying → exec .darnApplyComplete s = .next s)

/-- R631 to R640: an accepted activation copies the settings into a fresh area and hands over cluster by cluster where
DS_VERSION stays, or restarts; the fourth cluster begins TRIAL; a confirmed image that is healthy before the timer of 0x3F0C
ends becomes the active one; a fallback, asked for or at the timer's end, marks the image fallen and, after a restart,
restarts again. -/
def Obligations.UpdateActivationAndFallback : Prop :=
  (∀ (w : Writer) (saved : Bool) (a : Nat) (i : Image) (s : State), s.activateCheck (s.roleOf w) [1#8] = 1 →
    s.erasedArea = some a → s.spareImage = some i → i.ds = s.dsVersion → ∃ t, exec (.updateActivate w true saved) s = .next t ∧
      t.upd.state = .activating ∧ t.upd.method = 0 ∧ t.upd.area = a ∧ t.upd.oldArea = some s.upd.area ∧ t.upd.done = [] ∧
      t.counter 0x3F2004 = s.counter 0x3F2004 + 1 ∧ t.settings = s.settings ∧ t.power = s.power ∧
      ∃ l, t.out = .answer w.port.val w.sess.val 0x3F0400 1 :: l) ∧
  (∀ (w : Writer) (saved : Bool) (a : Nat) (i : Image) (s : State), s.activateCheck (s.roleOf w) [1#8] = 1 →
    s.erasedArea = some a → s.spareImage = some i → i.ds ≠ s.dsVersion → ∃ t, exec (.updateActivate w true saved) s = .next t ∧
      t.upd.state = .activating ∧ t.upd.method = 1 ∧ t.upd.area = a ∧ t.power.inReset = true ∧ t.power.mode = .boot) ∧
  (∀ (w : Writer) (migrated saved : Bool) (s : State), 1 < s.activateCheck (s.roleOf w) [1#8] →
    exec (.updateActivate w migrated saved) s = .next { s with
      out := .answer w.port.val w.sess.val 0x3F0400 (s.activateCheck (s.roleOf w) [1#8]) :: s.out,
      counters := bump 0x104003 1 s.counters }) ∧
  (∀ (w : Writer) (saved : Bool) (s : State), s.activateCheck (s.roleOf w) [2#8] = 1 →
    ∃ t, exec (.updateActivateStaged w saved) s = .next t ∧ t.power.inReset = true ∧ t.power.mode = .boot ∧
      t.upd.state = s.upd.state ∧ t.upd.staged = s.upd.staged ∧ t.settings = s.settings) ∧
  (∀ (k : Nat) (s : State), s.upd.out = none → s.upd.state = .activating → s.upd.method = 0 →
    [3, 2, 1, 0].find? (fun c => !s.upd.done.contains c) = some k → ∃ t, exec .clusterHandover s = .next t ∧
      t.upd = { s.upd with out := some k } ∧ t.settings = s.settings ∧ t.tracks = s.tracks) ∧
  (∀ (k : Nat) (s : State), s.upd.out = some k → s.upd.state = .activating → s.upd.method = 0 → s.upd.done.length < 3 →
    ∃ t, exec .clusterHandover s = .next t ∧ t.upd = { s.upd with out := none, done := k :: s.upd.done } ∧
      t.settings = s.settings) ∧
  (∀ (k : Nat) (s : State), s.upd.out = some k → s.upd.state = .activating → s.upd.method = 0 → 3 ≤ s.upd.done.length →
    ∃ t, exec .clusterHandover s = .next t ∧ t.upd.state = .trial ∧ t.upd.trialStart = s.ticks ∧ t.upd.out = none ∧
      t.upd.done = k :: s.upd.done) ∧
  (∀ (w : Writer) (v : List Byte) (s : State), s.writeCheck (s.roleOf w) 0x3F0500 v = 0 → s.upd.state = .trial →
    exec (.updateConfirm w v) s = .next { s with
      upd.confirmed := true, out := .answer w.port.val w.sess.val 0x3F0500 0 :: s.out,
      counters := bump 0x104002 1 s.counters }) ∧
  (∀ (w : Writer) (v : List Byte) (saved : Bool) (s : State), s.writeCheck (s.roleOf w) 0x3F0600 v = 0 →
    s.upd.state = .trial → s.upd.method = 0 → s.upd.oldArea = none → s.upd.banks.length = 2 → s.upd.active < 2 →
    ∃ t, exec (.updateFallback w v saved) s = .next t ∧ t.upd.state = .idle ∧ t.upd.active = s.upd.active ∧
      t.counter 0x3F2006 = s.counter 0x3F2006 + 1 ∧ t.settings = s.settings ∧
      t.spareImage = s.spareImage.map fun i => { i with fallen := true }) ∧
  (∀ (w : Writer) (v : List Byte) (saved : Bool) (s : State), s.writeCheck (s.roleOf w) 0x3F0600 v = 0 →
    s.upd.state ≠ .trial → exec (.updateFallback w v saved) s = .next { s with
      out := .answer w.port.val w.sess.val 0x3F0600 0x11 :: s.out, counters := bump 0x104003 1 s.counters }) ∧
  (∀ s : State, s.healthy = true → ∃ t, exec .healthConfirmation s = .next t ∧ t.upd.state = .idle ∧
    t.upd.active = 1 - s.upd.active ∧ t.upd.oldArea = none ∧ t.upd.done = [] ∧ t.upd.banks = s.upd.banks ∧
    t.counter 0x3F2005 = s.counter 0x3F2005 + 1 ∧ t.settings = s.settings ∧
    (s.sec.floors.length = 3 → t.sec.floors.getD 2 0 = max (s.sec.floors.getD 2 0) (major (versionOf s.spareImage)))) ∧
  (∀ s : State, s.healthy = false → exec .healthConfirmation s = .next s) ∧
  (∀ (saved : Bool) (s : State), s.upd.state = .trial → s.upd.method = 1 →
    s.timedOut s.upd.trialStart (s.cfg 0x3F0C00 * 500000000) confirmsHealth = true → ∃ t, exec (.healthTimeout saved) s = .next t ∧
    t.power.inReset = true ∧ t.power.mode = .boot ∧ t.upd.state = .idle ∧ t.upd.active = s.upd.active) ∧
  (∀ (saved : Bool) (s : State), s.upd.state = .trial → s.upd.method = 0 → s.upd.oldArea = none →
    s.timedOut s.upd.trialStart (s.cfg 0x3F0C00 * 500000000) confirmsHealth = true →
    ∃ t, exec (.healthTimeout saved) s = .next t ∧ t.upd.state = .idle ∧ t.settings = s.settings ∧
      t.counter 0x3F2006 = s.counter 0x3F2006 + 1) ∧
  (∀ (saved : Bool) (s : State), s.upd.state ≠ .trial ∨
    s.timedOut s.upd.trialStart (s.cfg 0x3F0C00 * 500000000) confirmsHealth = false → exec (.healthTimeout saved) s = .next s)

/-! ### Background work (chapter 21) -/

/-- R646 to R658: Rinse walks a powered memory burst by burst, counts what it corrects, reports a word that needed it in the
pass before, and hands what it cannot correct to the owner; a good calibration run takes effect, a third failure in a row
marks the activity stale; the oscillator model stands on the frozen frequency term; an erase is counted, and a worn or failed
sector gives place to a spare; a telemetry frame is kept and sent. -/
def Obligations.BackgroundWork : Prop :=
  (∀ (ddr : Bool) (f : List (Nat × Bool)) (b : List RinseBad) (s : State), s.domainOn (6 + b2n ddr) = false ∨ s.burstDue ddr = false →
    exec (.rinseBurst ddr f b) s = .next s) ∧
  (∀ (ddr : Bool) (s : State), s.domainOn (6 + b2n ddr) = true → s.burstDue ddr = true →
    (s.pass ddr).at_ + 1 < passBursts ddr →
    exec (.rinseBurst ddr [] []) s = .next (s.setPass ddr { s.pass ddr with at_ := (s.pass ddr).at_ + 1 })) ∧
  (∀ (ddr : Bool) (s : State), s.domainOn (6 + b2n ddr) = true → s.burstDue ddr = true →
    passBursts ddr ≤ (s.pass ddr).at_ + 1 →
    ∃ t, exec (.rinseBurst ddr [] []) s = .next t ∧
      t.pass ddr = ⟨s.now, s.ticks, 0, s.cfg (if ddr then 0x3F4100 else 0x3F4000), false, [], (s.pass ddr).corrected⟩ ∧
      t.pass (!ddr) = s.pass (!ddr) ∧ t.counter (0x3F5001 + b2n ddr) = s.counter (0x3F5001 + b2n ddr) + 1 ∧
      { t with bg := s.bg, counters := s.counters, shown := s.shown } = s) ∧
  (∀ (ddr dropped : Bool) (x : Nat) (s : State), s.domainOn (6 + b2n ddr) = true → s.burstDue ddr = true →
    (s.pass ddr).at_ + 1 < passBursts ddr →
    ∃ t, exec (.rinseBurst ddr [(x, dropped)] []) s = .next t ∧
      (t.pass ddr).corrected = x :: (s.pass ddr).corrected ∧ (t.pass ddr).at_ = (s.pass ddr).at_ + 1 ∧
      t.counter 0x3F5008 = s.counter 0x3F5008 + (if dropped = true then 1 else 0) ∧
      t.counter 0x3F5007 = s.counter 0x3F5007 + (if (s.pass ddr).previous.contains x = true then 1 else 0) ∧
      t.settings = s.settings ∧ t.stop = s.stop ∧ t.axes = s.axes ∧ t.tracks = s.tracks) ∧
  (∀ (ddr : Bool) (b : RinseBad) (s : State), s.domainOn (6 + b2n ddr) = true → s.burstDue ddr = true →
    (s.pass ddr).at_ + 1 < passBursts ddr →
    b.owner.val = 3 → ∃ t, exec (.rinseBurst ddr [] [b]) s = .next t ∧
      t.counter (0x3F5005 + b2n ddr) = s.counter (0x3F5005 + b2n ddr) + 1 ∧
      { t with bg := s.bg, counters := s.counters, rcd := s.rcd } = s) ∧
  (∀ (ddr : Bool) (b : RinseBad) (s : State), s.domainOn (6 + b2n ddr) = true → s.burstDue ddr = true →
    (s.pass ddr).at_ + 1 < passBursts ddr →
    b.owner.val = 2 → b.kind.val = 0 → ∃ t, exec (.rinseBurst ddr [] [b]) s = .next t ∧
      t.account (b.item % 256) = .blank ∧ (∀ a, a ≠ b.item % 256 → t.account a = s.account a) ∧
      t.settings = s.settings) ∧
  (∀ (ddr : Bool) (p dur : Nat) (s : State), (s.pass ddr).period = p → dur = 11 * p * 500000000 / 10 →
    (s.pass ddr).overdue = false → s.domainOn (6 + b2n ddr) = true →
    s.timedOut (s.pass ddr).tick dur (burstOf ddr) = true → ∃ t, exec (.rinsePassOverdue ddr) s = .next t ∧
    (t.pass ddr) = { s.pass ddr with overdue := true } ∧ t.pass (!ddr) = s.pass (!ddr) ∧
    t.counter 0x3F500E = s.counter 0x3F500E + 1 ∧ { t with bg := s.bg, counters := s.counters, rcd := s.rcd } = s) ∧
  (∀ (ddr : Bool) (s : State), (s.pass ddr).overdue = true ∨ s.domainOn (6 + b2n ddr) = false ∨
    s.timedOut (s.pass ddr).tick (11 * (s.pass ddr).period * 500000000 / 10) (burstOf ddr) = false →
    exec (.rinsePassOverdue ddr) s = .next s) ∧
  (∀ (a : Fin 6) (l : List Int) (s : State), s.Shaped → s.bg.calValues.length = 6 → a.val < 5 →
    ∃ t, exec (.calibrationRun a l none) s = .next t ∧ t.bg.calFails.getD a.val 0 = 0 ∧
      t.bg.calStale = setBit s.bg.calStale a.val false ∧ t.bg.calValues.getD a.val 0 = l.headD 0 ∧
      (a.val = 0 → l.length = 4 → t.bg.chainTarget = l) ∧ (a.val = 1 → l.length = 4 → t.bg.gloBias = l) ∧
      t.counter 0x3F5009 = s.counter 0x3F5009 + 1 ∧ { t with bg := s.bg, counters := s.counters } = s) ∧
  (∀ (l : List Int) (s : State), s.Shaped → s.time.state ≠ .holdover → s.time.state ≠ .free →
    ∃ t m, exec (.calibrationRun 5 l none) s = .next t ∧ t.bg.oscSamples = ⟨s.ticks, l.headD 0, s.time.freq⟩ :: m ∧
      (∀ x, x ∈ m ↔ x ∈ s.bg.oscSamples ∧ s.ticks ≤ x.tick + 604800 * 500000000) ∧
      t.bg.oscTref = Config.oscTref (t.bg.oscSamples.map fun x => x.temp) ∧
      (oscWide t.bg.oscSamples = false → t.bg.oscC1 = 0 ∧ t.bg.oscC2 = 0) ∧
      (oscWide t.bg.oscSamples = true → (t.bg.oscC1, t.bg.oscC2) = oscFit t.bg.oscTref t.bg.oscSamples) ∧
      t.bg.calFails.getD 5 0 = 0 ∧ t.bg.calStale = setBit s.bg.calStale 5 false ∧
      t.counter 0x3F5009 = s.counter 0x3F5009 + 1 ∧ { t with bg := s.bg, counters := s.counters } = s) ∧
  (∀ (l : List Int) (r : Option Int) (s : State), s.time.state = .holdover ∨ s.time.state = .free →
    exec (.calibrationRun 5 l r) s = .next s) ∧
  (∀ (a : Fin 6) (l : List Int) (v : Int) (s : State), s.Shaped → s.calRuns a.val = true →
    ∃ t, exec (.calibrationRun a l (some v)) s = .next t ∧
    t.bg.calFails.getD a.val 0 = s.bg.calFails.getD a.val 0 + 1 ∧ t.bg.calValues = s.bg.calValues ∧
    (2 ≤ s.bg.calFails.getD a.val 0 → t.bg.calStale.testBit a.val = true) ∧
    t.counter 0x3F500A = s.counter 0x3F500A + 1 ∧ { t with bg := s.bg, counters := s.counters, rcd := s.rcd } = s) ∧
  (∀ (x : Int) (s : State), s.time.state = .holdover → s.incrementHeld = false →
    s.time.nextTerms = none →
    exec (.oscillatorModelApply x) s = .next { s with
      bg := { s.bg with
        tempAnalog := x,
        oscApplied := clampFreq (s.time.freq - s.bg.oscApplied + oscDelta s.bg.oscC1 s.bg.oscC2 (x - s.bg.oscTref)) -
          (s.time.freq - s.bg.oscApplied) },
      time.nextTerms := some (clampFreq (s.time.freq - s.bg.oscApplied +
        oscDelta s.bg.oscC1 s.bg.oscC2 (x - s.bg.oscTref)), s.time.phase) }) ∧
  (∀ (x : Int) (s : State), s.time.state ≠ .holdover ∨ s.incrementHeld = true →
    exec (.oscillatorModelApply x) s = .next { s with bg.tempAnalog := x }) ∧
  (∀ (b : Fin 2) (k : Fin 160) (ok : Bool) (s : State), wearCounted b.val k.val = false →
    exec (.flashEraseComplete b k ok) s = .next { s with counters := bump 0x3F500B 1 s.counters }) ∧
  (∀ (b : Fin 2) (k : Fin 160) (s : State), wearCounted b.val k.val = true →
    SMap.getD 0 (s.flashSector (b.val * 0x10000 + k.val)) s.bg.erases + 1 < s.cfg 0x3F4A00 →
    ∃ t, exec (.flashEraseComplete b k true) s = .next t ∧
      SMap.getD 0 (s.flashSector (b.val * 0x10000 + k.val)) t.bg.erases =
        SMap.getD 0 (s.flashSector (b.val * 0x10000 + k.val)) s.bg.erases + 1 ∧
      t.bg.remap = s.bg.remap ∧ t.bg.spares = s.bg.spares ∧ { t with bg := s.bg, counters := s.counters } = s) ∧
  (∀ (b : Fin 2) (k : Fin 160) (s : State), wearCounted b.val k.val = true → wearRing b.val k.val = false →
    1 ≤ s.bg.spares → ∃ t, exec (.flashEraseComplete b k false) s = .next t ∧
      t.flashSector (b.val * 0x10000 + k.val) = 0x20000 + (64 - s.bg.spares) ∧ t.bg.spares = s.bg.spares - 1 ∧
      t.counter 0x3F500C = s.counter 0x3F500C + 1 ∧ { t with bg := s.bg, counters := s.counters, rcd := s.rcd } = s) ∧
  (∀ (b : Fin 2) (k : Fin 160) (s : State), wearCounted b.val k.val = true → wearRing b.val k.val = false →
    s.bg.spares = 0 → ∃ t, exec (.flashEraseComplete b k false) s = .next t ∧
      b.val * 0x10000 + k.val ∈ t.bg.retired ∧ t.bg.remap = s.bg.remap) ∧
  (∀ (x y : Int) (s : State), ∃ t f, exec (.telemetryFrame x y) s = .next t ∧ t.bg.telLatest = f ∧
    field f 0 4 = s.bg.telSeq % 2 ^ 32 ∧ field f 5 1 = s.power.mode.code ∧ field f 6 1 = s.time.state.code ∧
    t.bg.telSeq = (s.bg.telSeq + 1) % 2 ^ 32 ∧ t.bg.telSums = s.errorSums ∧ t.bg.tempLogic = x ∧ t.bg.tempAnalog = y ∧
    t.counter 0x3F500D = s.counter 0x3F500D + BitVec.ofNat 64 (s.sinksInUse 0x3F6000 4) ∧ t.settings = s.settings)

/-! ### Power, reset and modes (chapter 22) -/

/-- R663, R666 to R669, R677, R678, R681, R736: a supply below its threshold, SYS_RESET_L and a command reset the unit with
their bits of 0x1102: what is in flash, fuses and PD_BKP stays, the latch is set, the axes and the decision state start
again; without the main supplies the unit is in BACKUP; a shutdown leaves it in OFF; the output balls stand low in reset and
in OFF, and at high impedance in BACKUP; low VBAT and a hot die are recorded. -/
def Obligations.ResetAndShutdown : Prop :=
  (∀ (i : Fin 8) (mv : Nat) (s : State), s.power.mode ≠ .backup → ∃ t, exec (.supplyBelowThreshold i mv) s = .next t ∧
    t.power.inReset = true ∧ t.power.mode = .boot ∧ t.power.bootStep = 1 ∧ t.power.below = s.power.below ||| 2 ^ i.val ∧
    t.power.cause = (if s.power.inReset = true then s.power.cause ||| (if i.val = 1 then 1 else 4) else
      (if i.val = 1 then 1 else 4)) ∧
    t.settings = s.settings ∧ t.dict.changes = s.dict.changes ∧ t.stop.latch = true ∧ t.stop.mask = 0x20 ∧
    t.pair.drive = .free ∧ t.axes = State.reset.axes ∧ t.machines = State.reset.machines ∧ t.ingest = State.reset.ingest ∧
    t.tracks.nodes = s.tracks.nodes ∧ t.tracks.segs = s.tracks.segs ∧ t.tracks.res = [] ∧ t.dict.sessions = [] ∧
    t.sec.debug = false ∧ t.freeCount = s.freeCount ∧
    t.rcd.staged = (if i.val = 1 then [] else s.rcd.staged)) ∧
  (∀ (i : Fin 8) (mv : Nat) (s : State), s.power.mode = .backup → exec (.supplyBelowThreshold i mv) s = .next
    { s with power := { s.power with below := s.power.below ||| 2 ^ i.val, levels := setAt s.power.levels i.val mv } }) ∧
  (∀ s : State, s.power.mode ≠ .backup → ∃ t, exec .sysReset s = .next t ∧ t.power.inReset = true ∧
    t.power.resetPin = true ∧ t.power.mode = .boot ∧
    t.power.cause = (if s.power.inReset = true then s.power.cause ||| 2 else 2) ∧ t.stop.latch = true ∧
    t.settings = s.settings ∧ t.rcd.staged = s.rcd.staged ∧ t.PinsAt .low) ∧
  (∀ s : State, s.power.mode = .backup → exec .sysReset s = .next { s with power.resetPin := true }) ∧
  (∀ s : State, ∃ t, exec .backupEntry s = .next t ∧ t.power.mode = .backup ∧ t.power.domains = 2 ∧ t.power.below = 0xFF ∧
    t.pair.drive = .off ∧ t.settings = s.settings ∧ t.rcd.staged = [] ∧ t.sec.owner = s.sec.owner ∧
    t.PinsAt .highZ) ∧
  (∀ (w : Writer) (saved : Bool) (s : State), s.resetCheck (s.roleOf w) [1#8] = 1 →
    ∃ t, exec (.resetCommand w saved) s = .next t ∧ t.power.inReset = true ∧ t.power.mode = .boot ∧
      t.power.cause = (if s.power.inReset = true then s.power.cause ||| 8 else 8) ∧ t.settings = s.settings ∧
      t.out = .answer w.port.val w.sess.val 0x110300 1 :: s.out) ∧
  (∀ (w : Writer) (saved : Bool) (s : State), s.resetCheck (s.roleOf w) [1#8] = 0x12 →
    ∃ t, exec (.resetCommand w saved) s = .next t ∧ t.out = .answer w.port.val w.sess.val 0x110300 0x12 :: s.out ∧
      t.counter 0x112002 = s.counter 0x112002 + 1 ∧ { t with out := s.out, counters := s.counters } = s) ∧
  (∀ (w : Writer) (saved : Bool) (s : State), s.resetCheck (s.roleOf w) [2#8] = 1 →
    ∃ t, exec (.shutdownCommand w saved) s = .next t ∧ t.power.mode = .off ∧ t.power.domains = 0x103 ∧
      t.stop.latch = true ∧ t.pair.drive = .free ∧ t.pair.output = false ∧ t.pair.hbOut = false ∧ t.sec.debug = false ∧
      t.settings = s.settings ∧ t.stopoutPin = .low ∧ t.heartbeatPin = .low ∧ (∀ n : Nat, t.axisPins n = .all .low) ∧
      ((∀ n : Nat, s.AirBallsOwn n) → t.PinsAt .low)) ∧
  (∀ (w : Writer) (saved : Bool) (s : State), s.writeCheck (s.roleOf w) 0x110300 [2#8] = 0 → s.roleOf w < 3 →
    ∃ t, exec (.shutdownCommand w saved) s = .next t ∧ t.out = .answer w.port.val w.sess.val 0x110300 0x30 :: s.out ∧
      t.counter 0x112002 = s.counter 0x112002 + 1 ∧ { t with out := s.out, counters := s.counters } = s) ∧
  (∀ (mv : Nat) (s : State), mv < 2500 → ∃ t, exec (.vbatLow mv) s = .next t ∧
    t.power = { s.power with levels := setAt s.power.levels 8 mv } ∧ t.counter 0x112005 = s.counter 0x112005 + 1 ∧
    { t with power := s.power, counters := s.counters, rcd := s.rcd } = s) ∧
  (∀ (mv : Nat) (s : State), 2500 ≤ mv → exec (.vbatLow mv) s = .next
    { s with power := { s.power with levels := setAt s.power.levels 8 mv } }) ∧
  (∀ (x y : Int) (s : State), ∃ t, exec (.dieTempHigh x y) s = .next t ∧ t.bg = { s.bg with tempLogic := x, tempAnalog := y } ∧
    (x ≤ 1500 → y ≤ 1500 → t.rcd = s.rcd) ∧ { t with bg := s.bg, counters := s.counters, rcd := s.rcd } = s)

/-- R670 to R676, R684 to R686: a released unit waits for REF10, loads Field Time, tries every 10 s for a good copy of each
image, and goes on to step 6; leaving BOOT, with time or after 0x1107, it enters the mode that 0x1104 names, or START in a
pair; an accepted request waits for slot 0 and there takes effect, if it is still a row of R674. -/
def Obligations.StartAndModes : Prop :=
  (∀ (x : StartIn) (s : State), s.power.mode = .boot → s.power.bootStep = 1 → x.ref10 = false →
    ∃ t, exec (.resetRelease x) s = .next t ∧ t.power.bootStep = 2 ∧ t.power.inReset = false ∧ t.power.domains = 0x3CF ∧
      t.power.bkpValid = x.backup.isSome ∧ t.time = s.time ∧
      t.stop.counters = (if x.backup.isSome = true then s.stop.counters else s.stop.stored) ∧
      { t with power := s.power, stop := s.stop } = s) ∧
  (∀ (x : StartIn) (s : State), s.power.mode ≠ .boot → s.power.mode ≠ .backup → exec (.resetRelease x) s = .next s) ∧
  (∀ (x : StartIn) (s : State), s.power.mode = .boot → s.power.bootStep = 2 → x.ref10 = true →
    s.bestCopy 1 s.upd.boot x.boot = none → ∃ t, exec (.bootRef10Appears x) s = .next t ∧ t.power.bootStep = 3 ∧
      t.time.now = (match x.backup with | some b => ⟨b.sec, b.nsec, 0⟩ | none => ⟨0, 0, 0⟩) ∧ t.settings = s.settings) ∧
  (∀ (x : StartIn) (b c r : Nat) (s : State), s.power.mode = .boot → s.power.bootStep = 2 → x.ref10 = true →
    s.bestCopy 1 s.upd.boot x.boot = some b → s.bestCopy 2 s.upd.trim x.trim = some c → s.bankToRun x = some r →
    ∃ t, exec (.bootRef10Appears x) s = .next t ∧ t.power.bootStep = 6 ∧ t.power.domains = 0x3FF ∧ t.power.mode = .boot) ∧
  (∀ (x : StartIn) (s : State), s.power.bootStep ≠ 2 ∨ x.ref10 = false → exec (.bootRef10Appears x) s = .next s) ∧
  (∀ (x : StartIn) (b c r : Nat) (s : State), s.power.mode = .boot → s.power.bootStep = 3 →
    s.passed s.power.bootTried (10 * 500000000) = true →
    s.bestCopy 1 s.upd.boot x.boot = some b → s.bestCopy 2 s.upd.trim x.trim = some c → s.bankToRun x = some r →
    ∃ t, exec (.bootVerifyRetry x) s = .next t ∧ t.power.bootStep = 6 ∧ t.power.domains = 0x3FF ∧ t.power.mode = .boot ∧
      (s.upd.staged = none → s.upd.state = .idle → t.upd.bootUse = b ∧ t.upd.trimUse = c ∧ t.upd.active = r)) ∧
  (∀ (x : StartIn) (s : State), s.power.mode = .boot → s.power.bootStep = 3 →
    s.passed s.power.bootTried (10 * 500000000) = true → s.bankToRun x = none →
    exec (.bootVerifyRetry x) s = .next { s with power := { s.power with bootTried := s.ticks } }) ∧
  (∀ (x : StartIn) (s : State), s.power.bootStep ≠ 3 ∨ s.passed s.power.bootTried (10 * 500000000) = false →
    exec (.bootVerifyRetry x) s = .next s) ∧
  (∀ s : State, s.power.mode = .boot → s.power.bootStep = 6 →
    s.time.state ≠ .free ∨ s.passed s.power.bootWait (s.cfg 0x110700 * 500000000) = true → s.inPair = false → s.cfg 0x110400 = 8 →
    ∃ t, exec .unitStarted s = .next t ∧ t.power.mode = .maintain ∧ t.power.bootStep = 7 ∧ t.stop.latch = true ∧
      t.pair.drive = .free ∧ t.pair.output = false ∧ t.settings = s.settings ∧
      t.power.bootTime = (s.ticks - s.power.bootStart) / 500000) ∧
  (∀ s : State, s.power.mode = .boot → s.power.bootStep = 6 →
    s.time.state ≠ .free ∨ s.passed s.power.bootWait (s.cfg 0x110700 * 500000000) = true → s.inPair = false → s.cfg 0x110400 = 4 →
    ∃ t, exec .unitStarted s = .next t ∧ t.power.mode = .solo ∧ t.power.bootStep = 7 ∧ t.pair.drive = .own ∧
      t.pair.output = true ∧ t.stop.latch = s.stop.latch ∧ t.settings = s.settings) ∧
  (∀ s : State, s.power.mode = .boot → s.power.bootStep = 6 →
    s.time.state ≠ .free ∨ s.passed s.power.bootWait (s.cfg 0x110700 * 500000000) = true → s.inPair = true →
    ∃ t, exec .unitStarted s = .next t ∧ t.power.bootStep = 7 ∧ t.pair.hbOut = true ∧ t.settings = s.settings) ∧
  (∀ s : State, s.power.bootStep ≠ 6 ∨ (s.time.state = .free ∧ s.passed s.power.bootWait (s.cfg 0x110700 * 500000000) = false) →
    exec .unitStarted s = .next s) ∧
  (∀ (w : Writer) (v : List Byte) (s : State), s.modeCheck (s.roleOf w) v = 1 →
    exec (.modeRequest w v) s = .next { s with
      power.pendingMode := some (leNat v), out := .answer w.port.val w.sess.val 0x110100 1 :: s.out,
      counters := bump 0x104002 1 s.counters }) ∧
  (∀ (w : Writer) (v : List Byte) (s : State), s.writeCheck (s.roleOf w) 0x110100 v = 0 →
    s.power.mode.leads s.inPair (leNat v) = false → ¬(leNat v = 9 ∧ s.roleOf w < 3) →
    ∃ t, exec (.modeRequest w v) s = .next t ∧ t.out = .answer w.port.val w.sess.val 0x110100 0x11 :: s.out ∧
      t.counter 0x112002 = s.counter 0x112002 + 1 ∧ { t with out := s.out, counters := s.counters } = s) ∧
  (∀ s : State, s.power.pendingMode = none → exec .modeChanged s = .next s) ∧
  (∀ (k : Nat) (s : State), s.power.pendingMode = some k → s.power.mode.leads s.inPair k = false →
    exec .modeChanged s = .next { s with power.pendingMode := none }) ∧
  (∀ s : State, s.power.pendingMode = some 8 → s.power.mode.leads s.inPair 8 = true →
    ∃ t, exec .modeChanged s = .next t ∧ t.power.mode = .maintain ∧ t.stop.latch = true ∧ t.pair.drive = .free ∧
      t.pair.output = false ∧ t.pair.hbOut = false ∧ t.power.pendingMode = none ∧ t.settings = s.settings ∧
      (s.power.mode = .test → t.sec.debug = false)) ∧
  (∀ s : State, s.power.pendingMode = some 4 → s.power.mode.leads s.inPair 4 = true → s.inPair = false →
    ∃ t, exec .modeChanged s = .next t ∧ t.power.mode = .solo ∧ t.pair.drive = .own ∧ t.pair.output = true ∧
      t.stop.latch = s.stop.latch ∧ t.settings = s.settings) ∧
  (∀ s : State, s.power.pendingMode = some 9 → s.power.mode.leads s.inPair 9 = true →
    ∃ t, exec .modeChanged s = .next t ∧ t.power.mode = .test ∧ t.stop.latch = true ∧ t.pair.drive = .free)

/-! ### Security (chapter 23) -/

/-- R580, R693 to R698: a passed owner credential replaces the old one, takes an entry of the change record and ends every
other session; recovery, with the tamper input held and the key in stop in MAINTAIN, empties the credential, the lists and
the key slots and ends all sessions; the tamper input is counted and kept; a challenge draws a nonce, which any answer that
passes R570 uses up, and only a signed answer in TEST unlocks the debug port. -/
def Obligations.CredentialsTamperAndDebug : Prop :=
  (∀ (w : Writer) (v : List Byte) (ok : Bool) (s : State),
    passes (s.commitCheck w (s.roleOf w) ⟨ok, false, true, true⟩ [s.bound [] 0x121000 v]).codes = true →
    ∃ t, exec (.ownerCredential w v ok) s = .next t ∧ t.sec.owner = v ∧ (∀ y ∈ t.dict.sessions, y.num = w.session) ∧
      (∃ e, t.dict.changes = s.dict.changes ++ [e] ∧ e.param = 4 ∧ e.role = s.roleOf w ∧
        e.digest = (Config.sha384 v).take 8) ∧ t.settings = s.settings) ∧
  (∀ (w : Writer) (v : List Byte) (ok : Bool) (s : State),
    passes (s.commitCheck w (s.roleOf w) ⟨ok, false, true, true⟩ [s.bound [] 0x121000 v]).codes = false →
    ∃ t, exec (.ownerCredential w v ok) s = .next t ∧ t.sec = s.sec ∧ t.settings = s.settings ∧
      t.counter 0x104003 = s.counter 0x104003 + 1) ∧
  (∀ (w : Writer) (v : List Byte) (s : State),
    passes (s.commitCheck w (s.roleOf w) ⟨true, false, true, true⟩ [s.bound [] 0x123800 v]).codes = true →
    s.sec.tamperHeld = true ∧ s.stop.key = true ∧ s.power.mode = .maintain ∧
    ∃ t, exec (.ownerRecovery w v) s = .next t ∧ t.sec.owner = [] ∧ t.sec.stopKeys = [[], [], [], []] ∧
      t.dict.sessions = [] ∧ t.setting 0x121100 = Catalog.dflt 0x121100 ∧ t.setting 0x121200 = Catalog.dflt 0x121200 ∧
      ∃ e, t.dict.changes = s.dict.changes ++ [e] ∧ e.param = 0x86) ∧
  (∀ (w : Writer) (v : List Byte) (s : State),
    passes (s.commitCheck w (s.roleOf w) ⟨true, false, true, true⟩ [s.bound [] 0x123800 v]).codes = false →
    ∃ t, exec (.ownerRecovery w v) s = .next t ∧ t.sec = s.sec ∧ t.dict.changes = s.dict.changes ∧
      t.dict.sessions = s.dict.sessions ∧ t.settings = s.settings) ∧
  (∀ (on bkp : Bool) (s : State), ∃ t, exec (.tamper on bkp) s = .next t ∧
    t.sec = { s.sec with tamper := on, tamperHeld := if bkp then on else s.sec.tamperHeld && on,
                         tamperStatus := s.sec.tamperStatus ||| (2 + 4 * b2n bkp) } ∧
    t.counter 0x125002 = s.counter 0x125002 + 1 ∧ { t with sec := s.sec, counters := s.counters, rcd := s.rcd } = s) ∧
  (∀ (w : Writer) (s : State), s.powered 0x123000 = true → ∃ t, exec (.debugChallenge w) s = .next t ∧
    t.sec.nonce = some s.sec.nonces ∧ t.sec.nonces = s.sec.nonces + 1 ∧
    t.out = .value w.port.val w.sess.val 0x123000 0 (challenge s.sec.nonces) :: s.out ∧
    { t with sec := s.sec, out := s.out, counters := s.counters } = s) ∧
  (∀ (w : Writer) (v : List Byte) (s : State), s.writeCheck (s.roleOf w) 0x123100 v = 0 → s.debugRule v = 0 →
    passes (s.commitCheck w (s.roleOf w) ⟨true, false, true, true⟩ [s.bound [] 0x123100 v]).codes = true →
    s.power.mode = .test ∧ ∃ t, exec (.debugResponse w v) s = .next t ∧ t.sec.debug = true ∧ t.sec.nonce = none ∧
      ∃ e, t.dict.changes = s.dict.changes ++ [e] ∧ e.param = 0x85) ∧
  (∀ (w : Writer) (v : List Byte) (s : State), s.writeCheck (s.roleOf w) 0x123100 v = 0 → s.debugRule v ≠ 0 →
    ∃ t, exec (.debugResponse w v) s = .next t ∧ t.sec = { s.sec with nonce := none } ∧ t.dict = s.dict ∧
      t.settings = s.settings) ∧
  (∀ (v : List Byte) (s : State), s.debugRule v = 0 → s.power.mode = .test ∧ (s.cfg 0x121200).testBit 1 = false ∧
    s.dict.changes.length < 512 ∧ ∃ n k, s.sec.nonce = some n ∧ k < 4 ∧ s.sec.revoked.testBit k = false ∧
      Config.rootVerify k (Config.sha384 (challenge n)) v = true)

/-! ### Two rules whole -/

/-- R483: at the home point the counter is set so that the home point reads HOME_OFFSET, and steps taken after it, where the
method seeks a switch whose filter reports them (R473, R482), count on from that value; the axis then stands. -/
def Obligations.HomePointReadsTheOffset : Prop :=
  (∀ (n i : Fin 8) (after : Nat) (s : State), s.Shaped → s.homeFound n.val i.val = true →
    s.axisCfg n.val 0x0D = 1 ∨ s.axisCfg n.val 0x0D = 2 → ∃ t, exec (.axisHomed n after i) s = .next t ∧
      t.axisPos n.val = s.axisCfgI n.val 0x11 ∧ (t.axis n.val).state = .idle) ∧
  (∀ (n i : Fin 8) (after : Nat) (p : Plan) (s : State), s.Shaped → s.homeFound n.val i.val = true →
    s.axisCfg n.val 0x0D = 0 ∨ s.axisCfg n.val 0x0D = 3 → (s.axis n.val).plan = some p →
    after ≤ p.placed (p.elapsed s.now s.ticks) → ∃ t, exec (.axisHomed n after i) s = .next t ∧
      t.axisPos n.val = s.axisCfgI n.val 0x11 + (if p.positive = true then (after : Int) else -(after : Int)) ∧
      (t.axis n.val).state = .idle)

/-- R512: a save that cannot be written or verified is counted and recorded with severity ERROR, the good copy stays, and the
next save is written as usual. A save whose causes include the loss of mains also flushes the recorder (R604). -/
def Obligations.FailedSaveKeepsTheGoodCopy : Prop :=
  (∀ (c : SaveCopy) (s : State), s.meter.saving = some c → ∃ t u, exec (.meteringSaveComplete false) s = .next t ∧
    t.meter = { s.meter with saving := none } ∧ t.counter 0x3A5003 = s.counter 0x3A5003 + 1 ∧
    (c.mask.testBit 1 = false →
      t = (({ s with meter.saving := none } : State).count 0x3A5003).record 0xA005 [.u8 c.mask, .u64 c.seq]) ∧
    (c.mask.testBit 1 = true →
      t = ((({ s with meter.saving := none } : State).count 0x3A5003).record 0xA005 [.u8 c.mask, .u64 c.seq]).flush) ∧
    exec .meteringSavePeriodic t = .next u ∧ u.meter.copy = s.meter.copy ∧
    u.meter.saving = some (t.saveCopy s.meter.next 1)) ∧
  (Catalog.event 0xA005).sev = 4

/-! ### The whole block -/

/-- A step takes the command at the front of the queue and executes it on the state that holds the rest of the queue. -/
def Obligations.StepRunsTheCommand : Prop :=
  ∀ (c : Instr) (l : List Instr) (s : State), s.pending = c :: l → step s = exec c { s with pending := l }

/-- R385, R668, R670: right after reset the unit is in BOOT at step 1 with its latch set by mask bit 5, time FREE, the loop
FREE, no session, no pending command, every setting at its default, every counter zero, every machine ABSENT and every axis
DISABLED; that state has the shape, and its change record fits. (The values that the spec leaves to history are assumption
4.) -/
def Obligations.ResetState : Prop :=
  State.reset.power.mode = .boot ∧ State.reset.power.bootStep = 1 ∧ State.reset.stop.latch = true ∧
    State.reset.stop.mask = 0x20 ∧ State.reset.time.state = .free ∧ State.reset.time.refLost = false ∧
    State.reset.pair.drive = .free ∧ State.reset.pair.output = false ∧ State.reset.pending = [] ∧
    State.reset.dict.sessions = [] ∧ (∀ o, State.reset.setting o = Catalog.dflt o) ∧
    (∀ o, State.reset.counter o = 0) ∧ (∀ k, (State.reset.machine k).link = .absent) ∧
    (∀ n, (State.reset.axis n).state = .disabled) ∧ State.reset.Shaped ∧ State.reset.RecordFits

/-- Whatever a step does, each part of the unit stays as many as the unit has, and the queue loses its first command and
nothing else. -/
def Obligations.EveryStepKeepsShapeAndQueue : Prop :=
  ∀ s t : State, s.Shaped → step s = .next t → t.Shaped ∧ t.pending = s.pending.tail

/-- R580: the change record can neither be erased nor overfilled: whatever a step does, its entries stay, and it holds at
most 512. -/
def Obligations.EveryStepKeepsTheChangeRecord : Prop :=
  ∀ s t : State, s.RecordFits → step s = .next t → t.RecordFits ∧ s.KeepsChanges t
end

