-- ==== Sys2Proof/Laws/Map.lean ====
section
/-!
SUPPORT. Sparse tables: what a put leaves at every key, that it keeps the canonical form, and counters after a bump.
-/

namespace Sys2Proof.Machine

theorem SMap.getD_insert_same {α : Type} (d v : α) (k : Nat) (m : SMap α) : SMap.getD d k (SMap.insert k v m) = v := by
  induction m with
  | nil => simp [SMap.insert, SMap.getD]
  | cons e m ih =>
    simp only [SMap.insert]
    split
    · simp [SMap.getD]
    · split
      · simp [SMap.getD]
      · rename_i h; simp [SMap.getD, h, ih]

theorem SMap.getD_insert_other {α : Type} (d v : α) (j k : Nat) (h : j ≠ k) (m : SMap α) :
    SMap.getD d j (SMap.insert k v m) = SMap.getD d j m := by
  induction m with
  | nil => simp [SMap.insert, SMap.getD, Ne.symm h]
  | cons e m ih =>
    simp only [SMap.insert]
    split
    · simp [SMap.getD, Ne.symm h]
    · split
      · rename_i h'; simp [SMap.getD, h', Ne.symm h]
      · simp [SMap.getD, ih]

theorem SMap.getD_erase_same {α : Type} (d : α) (k : Nat) (m : SMap α) : SMap.getD d k (SMap.erase k m) = d := by
  induction m with
  | nil => rfl
  | cons e m ih =>
    simp only [SMap.erase]
    split
    · exact ih
    · rename_i h; simp [SMap.getD, h, ih]

theorem SMap.getD_erase_other {α : Type} (d : α) (j k : Nat) (h : j ≠ k) (m : SMap α) :
    SMap.getD d j (SMap.erase k m) = SMap.getD d j m := by
  induction m with
  | nil => rfl
  | cons e m ih =>
    simp only [SMap.erase]
    split
    · rename_i h'; simp [SMap.getD, h', Ne.symm h, ih]
    · simp [SMap.getD, ih]

/-- A put is read back. -/
theorem SMap.getD_put_same {α : Type} [DecidableEq α] (d : Nat → α) (k : Nat) (v : α) (m : SMap α) :
    SMap.getD (d k) k (SMap.put d k v m) = v := by
  simp only [SMap.put]
  split
  · rename_i h; rw [SMap.getD_erase_same, h]
  · exact SMap.getD_insert_same _ _ _ _

/-- A put leaves every other key. -/
theorem SMap.getD_put_other {α : Type} [DecidableEq α] (d : Nat → α) (e : α) (j k : Nat) (v : α) (h : j ≠ k) (m : SMap α) :
    SMap.getD e j (SMap.put d k v m) = SMap.getD e j m := by
  simp only [SMap.put]
  split
  · exact SMap.getD_erase_other _ _ _ h _
  · exact SMap.getD_insert_other _ _ _ _ h _

theorem SMap.wfFrom_mono {α : Type} [DecidableEq α] (d : Nat → α) (m : SMap α) (a b : Nat) (hab : a ≤ b) :
    SMap.wfFrom d b m = true → SMap.wfFrom d a m = true := by
  cases m with
  | nil => intro; rfl
  | cons e m =>
    simp only [SMap.wfFrom, Bool.and_eq_true, decide_eq_true_eq]
    exact fun h => ⟨⟨by omega, h.1.2⟩, h.2⟩

theorem SMap.wfFrom_insert {α : Type} [DecidableEq α] (d : Nat → α) (k : Nat) (v : α) (hv : v ≠ d k) (m : SMap α) :
    ∀ lo, lo ≤ k → SMap.wfFrom d lo m = true → SMap.wfFrom d lo (SMap.insert k v m) = true := by
  induction m with
  | nil => intro lo hk _; simp [SMap.insert, SMap.wfFrom, hk, hv]
  | cons e m ih =>
    intro lo hk h
    simp only [SMap.wfFrom, Bool.and_eq_true, decide_eq_true_eq] at h
    simp only [SMap.insert]
    split
    · rename_i hlt
      simp only [SMap.wfFrom, Bool.and_eq_true, decide_eq_true_eq]
      exact ⟨⟨hk, hv⟩, ⟨⟨by omega, h.1.2⟩, h.2⟩⟩
    · split
      · rename_i _ heq
        simp only [SMap.wfFrom, Bool.and_eq_true, decide_eq_true_eq]
        exact ⟨⟨hk, hv⟩, heq ▸ h.2⟩
      · rename_i h1 h2
        simp only [SMap.wfFrom, Bool.and_eq_true, decide_eq_true_eq]
        exact ⟨h.1, ih _ (by omega) h.2⟩

theorem SMap.wfFrom_erase {α : Type} [DecidableEq α] (d : Nat → α) (k : Nat) (m : SMap α) :
    ∀ lo, SMap.wfFrom d lo m = true → SMap.wfFrom d lo (SMap.erase k m) = true := by
  induction m with
  | nil => intro lo h; exact h
  | cons e m ih =>
    intro lo h
    simp only [SMap.wfFrom, Bool.and_eq_true, decide_eq_true_eq] at h
    simp only [SMap.erase]
    split
    · exact SMap.wfFrom_mono d _ _ _ (by omega) (ih _ h.2)
    · simp only [SMap.wfFrom, Bool.and_eq_true, decide_eq_true_eq]
      exact ⟨h.1, ih _ h.2⟩

/-- A put keeps the canonical form. -/
theorem SMap.wf_put {α : Type} [DecidableEq α] (d : Nat → α) (k : Nat) (v : α) (m : SMap α) (h : SMap.wf d m = true) :
    SMap.wf d (SMap.put d k v m) = true := by
  simp only [SMap.put, SMap.wf] at *
  split
  · exact SMap.wfFrom_erase d k m 0 h
  · rename_i hv; exact SMap.wfFrom_insert d k v hv m 0 (Nat.zero_le k) h

/-- A counter after it is raised. -/
theorem bumpOne_same (o n : Nat) (m : SMap U64) :
    SMap.getD 0#64 o (bumpOne o n m) = SMap.getD 0#64 o m + BitVec.ofNat 64 n :=
  SMap.getD_put_same (fun _ => 0#64) o _ m

/-- Raising a counter leaves the others. -/
theorem bumpOne_other (o p n : Nat) (h : p ≠ o) (m : SMap U64) :
    SMap.getD 0#64 p (bumpOne o n m) = SMap.getD 0#64 p m :=
  SMap.getD_put_other (fun _ => 0#64) _ _ _ _ h m

/-- A counter that adds into no sum, or whose sum is another object, after a bump. -/
theorem bump_same (o n : Nat) (m : SMap U64) (h : ∀ k, Catalog.errorNibble o = some k → o ≠ 0x500100 + k) :
    SMap.getD 0#64 o (bump o n m) = SMap.getD 0#64 o m + BitVec.ofNat 64 n := by
  simp only [bump]
  split
  · rename_i k hk; rw [bumpOne_other _ _ _ (h k hk), bumpOne_same]
  · exact bumpOne_same o n m

/-- A bump leaves every counter but its own and its sum. -/
theorem bump_other (o p n : Nat) (m : SMap U64) (h : p ≠ o) (hs : ∀ k, Catalog.errorNibble o = some k → p ≠ 0x500100 + k) :
    SMap.getD 0#64 p (bump o n m) = SMap.getD 0#64 p m := by
  simp only [bump]
  split
  · rename_i k hk; rw [bumpOne_other _ _ _ (hs k hk), bumpOne_other _ _ _ h]
  · exact bumpOne_other _ _ _ h m

end Sys2Proof.Machine
end

