-- ==== Sys2Proof/Laws/State.lean ====
section
/-!
SUPPORT. What each shared update leaves alone: one lemma per operation and field, each true by unfolding.
-/

namespace Sys2Proof.Machine

/-! ### State.setCfg -/

@[simp] theorem State.setCfg_pending (o : Nat) (v : Val) (s : State) :
    (State.setCfg o v s).pending = s.pending := rfl
@[simp] theorem State.setCfg_out (o : Nat) (v : Val) (s : State) :
    (State.setCfg o v s).out = s.out := rfl
@[simp] theorem State.setCfg_counters (o : Nat) (v : Val) (s : State) :
    (State.setCfg o v s).counters = s.counters := rfl
@[simp] theorem State.setCfg_effective (o : Nat) (v : Val) (s : State) :
    (State.setCfg o v s).effective = s.effective := rfl
@[simp] theorem State.setCfg_shown (o : Nat) (v : Val) (s : State) :
    (State.setCfg o v s).shown = s.shown := rfl
@[simp] theorem State.setCfg_rcd (o : Nat) (v : Val) (s : State) :
    (State.setCfg o v s).rcd = s.rcd := rfl
@[simp] theorem State.setCfg_time (o : Nat) (v : Val) (s : State) :
    (State.setCfg o v s).time = s.time := rfl
@[simp] theorem State.setCfg_ptp (o : Nat) (v : Val) (s : State) :
    (State.setCfg o v s).ptp = s.ptp := rfl
@[simp] theorem State.setCfg_dict (o : Nat) (v : Val) (s : State) :
    (State.setCfg o v s).dict = s.dict := rfl
@[simp] theorem State.setCfg_upd (o : Nat) (v : Val) (s : State) :
    (State.setCfg o v s).upd = s.upd := rfl
@[simp] theorem State.setCfg_bg (o : Nat) (v : Val) (s : State) :
    (State.setCfg o v s).bg = s.bg := rfl
@[simp] theorem State.setCfg_power (o : Nat) (v : Val) (s : State) :
    (State.setCfg o v s).power = s.power := rfl
@[simp] theorem State.setCfg_sec (o : Nat) (v : Val) (s : State) :
    (State.setCfg o v s).sec = s.sec := rfl
@[simp] theorem State.setCfg_freeCount (o : Nat) (v : Val) (s : State) :
    (State.setCfg o v s).freeCount = s.freeCount := rfl
@[simp] theorem State.setCfg_ingest (o : Nat) (v : Val) (s : State) :
    (State.setCfg o v s).ingest = s.ingest := rfl
@[simp] theorem State.setCfg_stop (o : Nat) (v : Val) (s : State) :
    (State.setCfg o v s).stop = s.stop := rfl
@[simp] theorem State.setCfg_axes (o : Nat) (v : Val) (s : State) :
    (State.setCfg o v s).axes = s.axes := rfl
@[simp] theorem State.setCfg_pair (o : Nat) (v : Val) (s : State) :
    (State.setCfg o v s).pair = s.pair := rfl
@[simp] theorem State.setCfg_net (o : Nat) (v : Val) (s : State) :
    (State.setCfg o v s).net = s.net := rfl
@[simp] theorem State.setCfg_sched (o : Nat) (v : Val) (s : State) :
    (State.setCfg o v s).sched = s.sched := rfl
@[simp] theorem State.setCfg_tracks (o : Nat) (v : Val) (s : State) :
    (State.setCfg o v s).tracks = s.tracks := rfl
@[simp] theorem State.setCfg_tasks (o : Nat) (v : Val) (s : State) :
    (State.setCfg o v s).tasks = s.tasks := rfl
@[simp] theorem State.setCfg_machines (o : Nat) (v : Val) (s : State) :
    (State.setCfg o v s).machines = s.machines := rfl
@[simp] theorem State.setCfg_pipe (o : Nat) (v : Val) (s : State) :
    (State.setCfg o v s).pipe = s.pipe := rfl
@[simp] theorem State.setCfg_air (o : Nat) (v : Val) (s : State) :
    (State.setCfg o v s).air = s.air := rfl
@[simp] theorem State.setCfg_corr (o : Nat) (v : Val) (s : State) :
    (State.setCfg o v s).corr = s.corr := rfl
@[simp] theorem State.setCfg_gnss (o : Nat) (v : Val) (s : State) :
    (State.setCfg o v s).gnss = s.gnss := rfl
@[simp] theorem State.setCfg_meter (o : Nat) (v : Val) (s : State) :
    (State.setCfg o v s).meter = s.meter := rfl

/-! ### State.adopt -/

@[simp] theorem State.adopt_pending (lo hi : Nat) (s : State) :
    (State.adopt lo hi s).pending = s.pending := rfl
@[simp] theorem State.adopt_out (lo hi : Nat) (s : State) :
    (State.adopt lo hi s).out = s.out := rfl
@[simp] theorem State.adopt_counters (lo hi : Nat) (s : State) :
    (State.adopt lo hi s).counters = s.counters := rfl
@[simp] theorem State.adopt_settings (lo hi : Nat) (s : State) :
    (State.adopt lo hi s).settings = s.settings := rfl
@[simp] theorem State.adopt_shown (lo hi : Nat) (s : State) :
    (State.adopt lo hi s).shown = s.shown := rfl
@[simp] theorem State.adopt_rcd (lo hi : Nat) (s : State) :
    (State.adopt lo hi s).rcd = s.rcd := rfl
@[simp] theorem State.adopt_time (lo hi : Nat) (s : State) :
    (State.adopt lo hi s).time = s.time := rfl
@[simp] theorem State.adopt_ptp (lo hi : Nat) (s : State) :
    (State.adopt lo hi s).ptp = s.ptp := rfl
@[simp] theorem State.adopt_dict (lo hi : Nat) (s : State) :
    (State.adopt lo hi s).dict = s.dict := rfl
@[simp] theorem State.adopt_upd (lo hi : Nat) (s : State) :
    (State.adopt lo hi s).upd = s.upd := rfl
@[simp] theorem State.adopt_bg (lo hi : Nat) (s : State) :
    (State.adopt lo hi s).bg = s.bg := rfl
@[simp] theorem State.adopt_power (lo hi : Nat) (s : State) :
    (State.adopt lo hi s).power = s.power := rfl
@[simp] theorem State.adopt_sec (lo hi : Nat) (s : State) :
    (State.adopt lo hi s).sec = s.sec := rfl
@[simp] theorem State.adopt_freeCount (lo hi : Nat) (s : State) :
    (State.adopt lo hi s).freeCount = s.freeCount := rfl
@[simp] theorem State.adopt_ingest (lo hi : Nat) (s : State) :
    (State.adopt lo hi s).ingest = s.ingest := rfl
@[simp] theorem State.adopt_stop (lo hi : Nat) (s : State) :
    (State.adopt lo hi s).stop = s.stop := rfl
@[simp] theorem State.adopt_axes (lo hi : Nat) (s : State) :
    (State.adopt lo hi s).axes = s.axes := rfl
@[simp] theorem State.adopt_pair (lo hi : Nat) (s : State) :
    (State.adopt lo hi s).pair = s.pair := rfl
@[simp] theorem State.adopt_net (lo hi : Nat) (s : State) :
    (State.adopt lo hi s).net = s.net := rfl
@[simp] theorem State.adopt_sched (lo hi : Nat) (s : State) :
    (State.adopt lo hi s).sched = s.sched := rfl
@[simp] theorem State.adopt_tracks (lo hi : Nat) (s : State) :
    (State.adopt lo hi s).tracks = s.tracks := rfl
@[simp] theorem State.adopt_tasks (lo hi : Nat) (s : State) :
    (State.adopt lo hi s).tasks = s.tasks := rfl
@[simp] theorem State.adopt_machines (lo hi : Nat) (s : State) :
    (State.adopt lo hi s).machines = s.machines := rfl
@[simp] theorem State.adopt_pipe (lo hi : Nat) (s : State) :
    (State.adopt lo hi s).pipe = s.pipe := rfl
@[simp] theorem State.adopt_air (lo hi : Nat) (s : State) :
    (State.adopt lo hi s).air = s.air := rfl
@[simp] theorem State.adopt_corr (lo hi : Nat) (s : State) :
    (State.adopt lo hi s).corr = s.corr := rfl
@[simp] theorem State.adopt_gnss (lo hi : Nat) (s : State) :
    (State.adopt lo hi s).gnss = s.gnss := rfl
@[simp] theorem State.adopt_meter (lo hi : Nat) (s : State) :
    (State.adopt lo hi s).meter = s.meter := rfl

/-! ### State.setShown -/

@[simp] theorem State.setShown_pending (o : Nat) (v : Val) (s : State) :
    (State.setShown o v s).pending = s.pending := rfl
@[simp] theorem State.setShown_out (o : Nat) (v : Val) (s : State) :
    (State.setShown o v s).out = s.out := rfl
@[simp] theorem State.setShown_counters (o : Nat) (v : Val) (s : State) :
    (State.setShown o v s).counters = s.counters := rfl
@[simp] theorem State.setShown_settings (o : Nat) (v : Val) (s : State) :
    (State.setShown o v s).settings = s.settings := rfl
@[simp] theorem State.setShown_effective (o : Nat) (v : Val) (s : State) :
    (State.setShown o v s).effective = s.effective := rfl
@[simp] theorem State.setShown_rcd (o : Nat) (v : Val) (s : State) :
    (State.setShown o v s).rcd = s.rcd := rfl
@[simp] theorem State.setShown_time (o : Nat) (v : Val) (s : State) :
    (State.setShown o v s).time = s.time := rfl
@[simp] theorem State.setShown_ptp (o : Nat) (v : Val) (s : State) :
    (State.setShown o v s).ptp = s.ptp := rfl
@[simp] theorem State.setShown_dict (o : Nat) (v : Val) (s : State) :
    (State.setShown o v s).dict = s.dict := rfl
@[simp] theorem State.setShown_upd (o : Nat) (v : Val) (s : State) :
    (State.setShown o v s).upd = s.upd := rfl
@[simp] theorem State.setShown_bg (o : Nat) (v : Val) (s : State) :
    (State.setShown o v s).bg = s.bg := rfl
@[simp] theorem State.setShown_power (o : Nat) (v : Val) (s : State) :
    (State.setShown o v s).power = s.power := rfl
@[simp] theorem State.setShown_sec (o : Nat) (v : Val) (s : State) :
    (State.setShown o v s).sec = s.sec := rfl
@[simp] theorem State.setShown_freeCount (o : Nat) (v : Val) (s : State) :
    (State.setShown o v s).freeCount = s.freeCount := rfl
@[simp] theorem State.setShown_ingest (o : Nat) (v : Val) (s : State) :
    (State.setShown o v s).ingest = s.ingest := rfl
@[simp] theorem State.setShown_stop (o : Nat) (v : Val) (s : State) :
    (State.setShown o v s).stop = s.stop := rfl
@[simp] theorem State.setShown_axes (o : Nat) (v : Val) (s : State) :
    (State.setShown o v s).axes = s.axes := rfl
@[simp] theorem State.setShown_pair (o : Nat) (v : Val) (s : State) :
    (State.setShown o v s).pair = s.pair := rfl
@[simp] theorem State.setShown_net (o : Nat) (v : Val) (s : State) :
    (State.setShown o v s).net = s.net := rfl
@[simp] theorem State.setShown_sched (o : Nat) (v : Val) (s : State) :
    (State.setShown o v s).sched = s.sched := rfl
@[simp] theorem State.setShown_tracks (o : Nat) (v : Val) (s : State) :
    (State.setShown o v s).tracks = s.tracks := rfl
@[simp] theorem State.setShown_tasks (o : Nat) (v : Val) (s : State) :
    (State.setShown o v s).tasks = s.tasks := rfl
@[simp] theorem State.setShown_machines (o : Nat) (v : Val) (s : State) :
    (State.setShown o v s).machines = s.machines := rfl
@[simp] theorem State.setShown_pipe (o : Nat) (v : Val) (s : State) :
    (State.setShown o v s).pipe = s.pipe := rfl
@[simp] theorem State.setShown_air (o : Nat) (v : Val) (s : State) :
    (State.setShown o v s).air = s.air := rfl
@[simp] theorem State.setShown_corr (o : Nat) (v : Val) (s : State) :
    (State.setShown o v s).corr = s.corr := rfl
@[simp] theorem State.setShown_gnss (o : Nat) (v : Val) (s : State) :
    (State.setShown o v s).gnss = s.gnss := rfl
@[simp] theorem State.setShown_meter (o : Nat) (v : Val) (s : State) :
    (State.setShown o v s).meter = s.meter := rfl

/-! ### State.show -/

@[simp] theorem State.show_pending (o : Nat) (n : Int) (s : State) :
    (State.show o n s).pending = s.pending := rfl
@[simp] theorem State.show_out (o : Nat) (n : Int) (s : State) :
    (State.show o n s).out = s.out := rfl
@[simp] theorem State.show_counters (o : Nat) (n : Int) (s : State) :
    (State.show o n s).counters = s.counters := rfl
@[simp] theorem State.show_settings (o : Nat) (n : Int) (s : State) :
    (State.show o n s).settings = s.settings := rfl
@[simp] theorem State.show_effective (o : Nat) (n : Int) (s : State) :
    (State.show o n s).effective = s.effective := rfl
@[simp] theorem State.show_rcd (o : Nat) (n : Int) (s : State) :
    (State.show o n s).rcd = s.rcd := rfl
@[simp] theorem State.show_time (o : Nat) (n : Int) (s : State) :
    (State.show o n s).time = s.time := rfl
@[simp] theorem State.show_ptp (o : Nat) (n : Int) (s : State) :
    (State.show o n s).ptp = s.ptp := rfl
@[simp] theorem State.show_dict (o : Nat) (n : Int) (s : State) :
    (State.show o n s).dict = s.dict := rfl
@[simp] theorem State.show_upd (o : Nat) (n : Int) (s : State) :
    (State.show o n s).upd = s.upd := rfl
@[simp] theorem State.show_bg (o : Nat) (n : Int) (s : State) :
    (State.show o n s).bg = s.bg := rfl
@[simp] theorem State.show_power (o : Nat) (n : Int) (s : State) :
    (State.show o n s).power = s.power := rfl
@[simp] theorem State.show_sec (o : Nat) (n : Int) (s : State) :
    (State.show o n s).sec = s.sec := rfl
@[simp] theorem State.show_freeCount (o : Nat) (n : Int) (s : State) :
    (State.show o n s).freeCount = s.freeCount := rfl
@[simp] theorem State.show_ingest (o : Nat) (n : Int) (s : State) :
    (State.show o n s).ingest = s.ingest := rfl
@[simp] theorem State.show_stop (o : Nat) (n : Int) (s : State) :
    (State.show o n s).stop = s.stop := rfl
@[simp] theorem State.show_axes (o : Nat) (n : Int) (s : State) :
    (State.show o n s).axes = s.axes := rfl
@[simp] theorem State.show_pair (o : Nat) (n : Int) (s : State) :
    (State.show o n s).pair = s.pair := rfl
@[simp] theorem State.show_net (o : Nat) (n : Int) (s : State) :
    (State.show o n s).net = s.net := rfl
@[simp] theorem State.show_sched (o : Nat) (n : Int) (s : State) :
    (State.show o n s).sched = s.sched := rfl
@[simp] theorem State.show_tracks (o : Nat) (n : Int) (s : State) :
    (State.show o n s).tracks = s.tracks := rfl
@[simp] theorem State.show_tasks (o : Nat) (n : Int) (s : State) :
    (State.show o n s).tasks = s.tasks := rfl
@[simp] theorem State.show_machines (o : Nat) (n : Int) (s : State) :
    (State.show o n s).machines = s.machines := rfl
@[simp] theorem State.show_pipe (o : Nat) (n : Int) (s : State) :
    (State.show o n s).pipe = s.pipe := rfl
@[simp] theorem State.show_air (o : Nat) (n : Int) (s : State) :
    (State.show o n s).air = s.air := rfl
@[simp] theorem State.show_corr (o : Nat) (n : Int) (s : State) :
    (State.show o n s).corr = s.corr := rfl
@[simp] theorem State.show_gnss (o : Nat) (n : Int) (s : State) :
    (State.show o n s).gnss = s.gnss := rfl
@[simp] theorem State.show_meter (o : Nat) (n : Int) (s : State) :
    (State.show o n s).meter = s.meter := rfl

/-! ### State.countN -/

@[simp] theorem State.countN_pending (o n : Nat) (s : State) :
    (State.countN o n s).pending = s.pending := rfl
@[simp] theorem State.countN_out (o n : Nat) (s : State) :
    (State.countN o n s).out = s.out := rfl
@[simp] theorem State.countN_settings (o n : Nat) (s : State) :
    (State.countN o n s).settings = s.settings := rfl
@[simp] theorem State.countN_effective (o n : Nat) (s : State) :
    (State.countN o n s).effective = s.effective := rfl
@[simp] theorem State.countN_shown (o n : Nat) (s : State) :
    (State.countN o n s).shown = s.shown := rfl
@[simp] theorem State.countN_rcd (o n : Nat) (s : State) :
    (State.countN o n s).rcd = s.rcd := rfl
@[simp] theorem State.countN_time (o n : Nat) (s : State) :
    (State.countN o n s).time = s.time := rfl
@[simp] theorem State.countN_ptp (o n : Nat) (s : State) :
    (State.countN o n s).ptp = s.ptp := rfl
@[simp] theorem State.countN_dict (o n : Nat) (s : State) :
    (State.countN o n s).dict = s.dict := rfl
@[simp] theorem State.countN_upd (o n : Nat) (s : State) :
    (State.countN o n s).upd = s.upd := rfl
@[simp] theorem State.countN_bg (o n : Nat) (s : State) :
    (State.countN o n s).bg = s.bg := rfl
@[simp] theorem State.countN_power (o n : Nat) (s : State) :
    (State.countN o n s).power = s.power := rfl
@[simp] theorem State.countN_sec (o n : Nat) (s : State) :
    (State.countN o n s).sec = s.sec := rfl
@[simp] theorem State.countN_freeCount (o n : Nat) (s : State) :
    (State.countN o n s).freeCount = s.freeCount := rfl
@[simp] theorem State.countN_ingest (o n : Nat) (s : State) :
    (State.countN o n s).ingest = s.ingest := rfl
@[simp] theorem State.countN_stop (o n : Nat) (s : State) :
    (State.countN o n s).stop = s.stop := rfl
@[simp] theorem State.countN_axes (o n : Nat) (s : State) :
    (State.countN o n s).axes = s.axes := rfl
@[simp] theorem State.countN_pair (o n : Nat) (s : State) :
    (State.countN o n s).pair = s.pair := rfl
@[simp] theorem State.countN_net (o n : Nat) (s : State) :
    (State.countN o n s).net = s.net := rfl
@[simp] theorem State.countN_sched (o n : Nat) (s : State) :
    (State.countN o n s).sched = s.sched := rfl
@[simp] theorem State.countN_tracks (o n : Nat) (s : State) :
    (State.countN o n s).tracks = s.tracks := rfl
@[simp] theorem State.countN_tasks (o n : Nat) (s : State) :
    (State.countN o n s).tasks = s.tasks := rfl
@[simp] theorem State.countN_machines (o n : Nat) (s : State) :
    (State.countN o n s).machines = s.machines := rfl
@[simp] theorem State.countN_pipe (o n : Nat) (s : State) :
    (State.countN o n s).pipe = s.pipe := rfl
@[simp] theorem State.countN_air (o n : Nat) (s : State) :
    (State.countN o n s).air = s.air := rfl
@[simp] theorem State.countN_corr (o n : Nat) (s : State) :
    (State.countN o n s).corr = s.corr := rfl
@[simp] theorem State.countN_gnss (o n : Nat) (s : State) :
    (State.countN o n s).gnss = s.gnss := rfl
@[simp] theorem State.countN_meter (o n : Nat) (s : State) :
    (State.countN o n s).meter = s.meter := rfl

/-! ### State.count -/

@[simp] theorem State.count_pending (o : Nat) (s : State) :
    (State.count o s).pending = s.pending := rfl
@[simp] theorem State.count_out (o : Nat) (s : State) :
    (State.count o s).out = s.out := rfl
@[simp] theorem State.count_settings (o : Nat) (s : State) :
    (State.count o s).settings = s.settings := rfl
@[simp] theorem State.count_effective (o : Nat) (s : State) :
    (State.count o s).effective = s.effective := rfl
@[simp] theorem State.count_shown (o : Nat) (s : State) :
    (State.count o s).shown = s.shown := rfl
@[simp] theorem State.count_rcd (o : Nat) (s : State) :
    (State.count o s).rcd = s.rcd := rfl
@[simp] theorem State.count_time (o : Nat) (s : State) :
    (State.count o s).time = s.time := rfl
@[simp] theorem State.count_ptp (o : Nat) (s : State) :
    (State.count o s).ptp = s.ptp := rfl
@[simp] theorem State.count_dict (o : Nat) (s : State) :
    (State.count o s).dict = s.dict := rfl
@[simp] theorem State.count_upd (o : Nat) (s : State) :
    (State.count o s).upd = s.upd := rfl
@[simp] theorem State.count_bg (o : Nat) (s : State) :
    (State.count o s).bg = s.bg := rfl
@[simp] theorem State.count_power (o : Nat) (s : State) :
    (State.count o s).power = s.power := rfl
@[simp] theorem State.count_sec (o : Nat) (s : State) :
    (State.count o s).sec = s.sec := rfl
@[simp] theorem State.count_freeCount (o : Nat) (s : State) :
    (State.count o s).freeCount = s.freeCount := rfl
@[simp] theorem State.count_ingest (o : Nat) (s : State) :
    (State.count o s).ingest = s.ingest := rfl
@[simp] theorem State.count_stop (o : Nat) (s : State) :
    (State.count o s).stop = s.stop := rfl
@[simp] theorem State.count_axes (o : Nat) (s : State) :
    (State.count o s).axes = s.axes := rfl
@[simp] theorem State.count_pair (o : Nat) (s : State) :
    (State.count o s).pair = s.pair := rfl
@[simp] theorem State.count_net (o : Nat) (s : State) :
    (State.count o s).net = s.net := rfl
@[simp] theorem State.count_sched (o : Nat) (s : State) :
    (State.count o s).sched = s.sched := rfl
@[simp] theorem State.count_tracks (o : Nat) (s : State) :
    (State.count o s).tracks = s.tracks := rfl
@[simp] theorem State.count_tasks (o : Nat) (s : State) :
    (State.count o s).tasks = s.tasks := rfl
@[simp] theorem State.count_machines (o : Nat) (s : State) :
    (State.count o s).machines = s.machines := rfl
@[simp] theorem State.count_pipe (o : Nat) (s : State) :
    (State.count o s).pipe = s.pipe := rfl
@[simp] theorem State.count_air (o : Nat) (s : State) :
    (State.count o s).air = s.air := rfl
@[simp] theorem State.count_corr (o : Nat) (s : State) :
    (State.count o s).corr = s.corr := rfl
@[simp] theorem State.count_gnss (o : Nat) (s : State) :
    (State.count o s).gnss = s.gnss := rfl
@[simp] theorem State.count_meter (o : Nat) (s : State) :
    (State.count o s).meter = s.meter := rfl

/-! ### State.recordAt -/

@[simp] theorem State.recordAt_pending (x : FT) (code scope : Nat) (mk : Nat → List Item) (s : State) :
    (State.recordAt x code scope mk s).pending = s.pending := rfl
@[simp] theorem State.recordAt_out (x : FT) (code scope : Nat) (mk : Nat → List Item) (s : State) :
    (State.recordAt x code scope mk s).out = s.out := rfl
@[simp] theorem State.recordAt_settings (x : FT) (code scope : Nat) (mk : Nat → List Item) (s : State) :
    (State.recordAt x code scope mk s).settings = s.settings := rfl
@[simp] theorem State.recordAt_effective (x : FT) (code scope : Nat) (mk : Nat → List Item) (s : State) :
    (State.recordAt x code scope mk s).effective = s.effective := rfl
@[simp] theorem State.recordAt_shown (x : FT) (code scope : Nat) (mk : Nat → List Item) (s : State) :
    (State.recordAt x code scope mk s).shown = s.shown := rfl
@[simp] theorem State.recordAt_time (x : FT) (code scope : Nat) (mk : Nat → List Item) (s : State) :
    (State.recordAt x code scope mk s).time = s.time := rfl
@[simp] theorem State.recordAt_ptp (x : FT) (code scope : Nat) (mk : Nat → List Item) (s : State) :
    (State.recordAt x code scope mk s).ptp = s.ptp := rfl
@[simp] theorem State.recordAt_dict (x : FT) (code scope : Nat) (mk : Nat → List Item) (s : State) :
    (State.recordAt x code scope mk s).dict = s.dict := rfl
@[simp] theorem State.recordAt_upd (x : FT) (code scope : Nat) (mk : Nat → List Item) (s : State) :
    (State.recordAt x code scope mk s).upd = s.upd := rfl
@[simp] theorem State.recordAt_bg (x : FT) (code scope : Nat) (mk : Nat → List Item) (s : State) :
    (State.recordAt x code scope mk s).bg = s.bg := rfl
@[simp] theorem State.recordAt_power (x : FT) (code scope : Nat) (mk : Nat → List Item) (s : State) :
    (State.recordAt x code scope mk s).power = s.power := rfl
@[simp] theorem State.recordAt_sec (x : FT) (code scope : Nat) (mk : Nat → List Item) (s : State) :
    (State.recordAt x code scope mk s).sec = s.sec := rfl
@[simp] theorem State.recordAt_freeCount (x : FT) (code scope : Nat) (mk : Nat → List Item) (s : State) :
    (State.recordAt x code scope mk s).freeCount = s.freeCount := rfl
@[simp] theorem State.recordAt_ingest (x : FT) (code scope : Nat) (mk : Nat → List Item) (s : State) :
    (State.recordAt x code scope mk s).ingest = s.ingest := rfl
@[simp] theorem State.recordAt_stop (x : FT) (code scope : Nat) (mk : Nat → List Item) (s : State) :
    (State.recordAt x code scope mk s).stop = s.stop := rfl
@[simp] theorem State.recordAt_axes (x : FT) (code scope : Nat) (mk : Nat → List Item) (s : State) :
    (State.recordAt x code scope mk s).axes = s.axes := rfl
@[simp] theorem State.recordAt_pair (x : FT) (code scope : Nat) (mk : Nat → List Item) (s : State) :
    (State.recordAt x code scope mk s).pair = s.pair := rfl
@[simp] theorem State.recordAt_net (x : FT) (code scope : Nat) (mk : Nat → List Item) (s : State) :
    (State.recordAt x code scope mk s).net = s.net := rfl
@[simp] theorem State.recordAt_sched (x : FT) (code scope : Nat) (mk : Nat → List Item) (s : State) :
    (State.recordAt x code scope mk s).sched = s.sched := rfl
@[simp] theorem State.recordAt_tracks (x : FT) (code scope : Nat) (mk : Nat → List Item) (s : State) :
    (State.recordAt x code scope mk s).tracks = s.tracks := rfl
@[simp] theorem State.recordAt_tasks (x : FT) (code scope : Nat) (mk : Nat → List Item) (s : State) :
    (State.recordAt x code scope mk s).tasks = s.tasks := rfl
@[simp] theorem State.recordAt_machines (x : FT) (code scope : Nat) (mk : Nat → List Item) (s : State) :
    (State.recordAt x code scope mk s).machines = s.machines := rfl
@[simp] theorem State.recordAt_pipe (x : FT) (code scope : Nat) (mk : Nat → List Item) (s : State) :
    (State.recordAt x code scope mk s).pipe = s.pipe := rfl
@[simp] theorem State.recordAt_air (x : FT) (code scope : Nat) (mk : Nat → List Item) (s : State) :
    (State.recordAt x code scope mk s).air = s.air := rfl
@[simp] theorem State.recordAt_corr (x : FT) (code scope : Nat) (mk : Nat → List Item) (s : State) :
    (State.recordAt x code scope mk s).corr = s.corr := rfl
@[simp] theorem State.recordAt_gnss (x : FT) (code scope : Nat) (mk : Nat → List Item) (s : State) :
    (State.recordAt x code scope mk s).gnss = s.gnss := rfl
@[simp] theorem State.recordAt_meter (x : FT) (code scope : Nat) (mk : Nat → List Item) (s : State) :
    (State.recordAt x code scope mk s).meter = s.meter := rfl

/-! ### State.record -/

@[simp] theorem State.record_pending (code : Nat) (l : List Item) (s : State) :
    (State.record code l s).pending = s.pending := rfl
@[simp] theorem State.record_out (code : Nat) (l : List Item) (s : State) :
    (State.record code l s).out = s.out := rfl
@[simp] theorem State.record_settings (code : Nat) (l : List Item) (s : State) :
    (State.record code l s).settings = s.settings := rfl
@[simp] theorem State.record_effective (code : Nat) (l : List Item) (s : State) :
    (State.record code l s).effective = s.effective := rfl
@[simp] theorem State.record_shown (code : Nat) (l : List Item) (s : State) :
    (State.record code l s).shown = s.shown := rfl
@[simp] theorem State.record_time (code : Nat) (l : List Item) (s : State) :
    (State.record code l s).time = s.time := rfl
@[simp] theorem State.record_ptp (code : Nat) (l : List Item) (s : State) :
    (State.record code l s).ptp = s.ptp := rfl
@[simp] theorem State.record_dict (code : Nat) (l : List Item) (s : State) :
    (State.record code l s).dict = s.dict := rfl
@[simp] theorem State.record_upd (code : Nat) (l : List Item) (s : State) :
    (State.record code l s).upd = s.upd := rfl
@[simp] theorem State.record_bg (code : Nat) (l : List Item) (s : State) :
    (State.record code l s).bg = s.bg := rfl
@[simp] theorem State.record_power (code : Nat) (l : List Item) (s : State) :
    (State.record code l s).power = s.power := rfl
@[simp] theorem State.record_sec (code : Nat) (l : List Item) (s : State) :
    (State.record code l s).sec = s.sec := rfl
@[simp] theorem State.record_freeCount (code : Nat) (l : List Item) (s : State) :
    (State.record code l s).freeCount = s.freeCount := rfl
@[simp] theorem State.record_ingest (code : Nat) (l : List Item) (s : State) :
    (State.record code l s).ingest = s.ingest := rfl
@[simp] theorem State.record_stop (code : Nat) (l : List Item) (s : State) :
    (State.record code l s).stop = s.stop := rfl
@[simp] theorem State.record_axes (code : Nat) (l : List Item) (s : State) :
    (State.record code l s).axes = s.axes := rfl
@[simp] theorem State.record_pair (code : Nat) (l : List Item) (s : State) :
    (State.record code l s).pair = s.pair := rfl
@[simp] theorem State.record_net (code : Nat) (l : List Item) (s : State) :
    (State.record code l s).net = s.net := rfl
@[simp] theorem State.record_sched (code : Nat) (l : List Item) (s : State) :
    (State.record code l s).sched = s.sched := rfl
@[simp] theorem State.record_tracks (code : Nat) (l : List Item) (s : State) :
    (State.record code l s).tracks = s.tracks := rfl
@[simp] theorem State.record_tasks (code : Nat) (l : List Item) (s : State) :
    (State.record code l s).tasks = s.tasks := rfl
@[simp] theorem State.record_machines (code : Nat) (l : List Item) (s : State) :
    (State.record code l s).machines = s.machines := rfl
@[simp] theorem State.record_pipe (code : Nat) (l : List Item) (s : State) :
    (State.record code l s).pipe = s.pipe := rfl
@[simp] theorem State.record_air (code : Nat) (l : List Item) (s : State) :
    (State.record code l s).air = s.air := rfl
@[simp] theorem State.record_corr (code : Nat) (l : List Item) (s : State) :
    (State.record code l s).corr = s.corr := rfl
@[simp] theorem State.record_gnss (code : Nat) (l : List Item) (s : State) :
    (State.record code l s).gnss = s.gnss := rfl
@[simp] theorem State.record_meter (code : Nat) (l : List Item) (s : State) :
    (State.record code l s).meter = s.meter := rfl

/-! ### State.recordIn -/

@[simp] theorem State.recordIn_pending (scope code : Nat) (l : List Item) (s : State) :
    (State.recordIn scope code l s).pending = s.pending := rfl
@[simp] theorem State.recordIn_out (scope code : Nat) (l : List Item) (s : State) :
    (State.recordIn scope code l s).out = s.out := rfl
@[simp] theorem State.recordIn_settings (scope code : Nat) (l : List Item) (s : State) :
    (State.recordIn scope code l s).settings = s.settings := rfl
@[simp] theorem State.recordIn_effective (scope code : Nat) (l : List Item) (s : State) :
    (State.recordIn scope code l s).effective = s.effective := rfl
@[simp] theorem State.recordIn_shown (scope code : Nat) (l : List Item) (s : State) :
    (State.recordIn scope code l s).shown = s.shown := rfl
@[simp] theorem State.recordIn_time (scope code : Nat) (l : List Item) (s : State) :
    (State.recordIn scope code l s).time = s.time := rfl
@[simp] theorem State.recordIn_ptp (scope code : Nat) (l : List Item) (s : State) :
    (State.recordIn scope code l s).ptp = s.ptp := rfl
@[simp] theorem State.recordIn_dict (scope code : Nat) (l : List Item) (s : State) :
    (State.recordIn scope code l s).dict = s.dict := rfl
@[simp] theorem State.recordIn_upd (scope code : Nat) (l : List Item) (s : State) :
    (State.recordIn scope code l s).upd = s.upd := rfl
@[simp] theorem State.recordIn_bg (scope code : Nat) (l : List Item) (s : State) :
    (State.recordIn scope code l s).bg = s.bg := rfl
@[simp] theorem State.recordIn_power (scope code : Nat) (l : List Item) (s : State) :
    (State.recordIn scope code l s).power = s.power := rfl
@[simp] theorem State.recordIn_sec (scope code : Nat) (l : List Item) (s : State) :
    (State.recordIn scope code l s).sec = s.sec := rfl
@[simp] theorem State.recordIn_freeCount (scope code : Nat) (l : List Item) (s : State) :
    (State.recordIn scope code l s).freeCount = s.freeCount := rfl
@[simp] theorem State.recordIn_ingest (scope code : Nat) (l : List Item) (s : State) :
    (State.recordIn scope code l s).ingest = s.ingest := rfl
@[simp] theorem State.recordIn_stop (scope code : Nat) (l : List Item) (s : State) :
    (State.recordIn scope code l s).stop = s.stop := rfl
@[simp] theorem State.recordIn_axes (scope code : Nat) (l : List Item) (s : State) :
    (State.recordIn scope code l s).axes = s.axes := rfl
@[simp] theorem State.recordIn_pair (scope code : Nat) (l : List Item) (s : State) :
    (State.recordIn scope code l s).pair = s.pair := rfl
@[simp] theorem State.recordIn_net (scope code : Nat) (l : List Item) (s : State) :
    (State.recordIn scope code l s).net = s.net := rfl
@[simp] theorem State.recordIn_sched (scope code : Nat) (l : List Item) (s : State) :
    (State.recordIn scope code l s).sched = s.sched := rfl
@[simp] theorem State.recordIn_tracks (scope code : Nat) (l : List Item) (s : State) :
    (State.recordIn scope code l s).tracks = s.tracks := rfl
@[simp] theorem State.recordIn_tasks (scope code : Nat) (l : List Item) (s : State) :
    (State.recordIn scope code l s).tasks = s.tasks := rfl
@[simp] theorem State.recordIn_machines (scope code : Nat) (l : List Item) (s : State) :
    (State.recordIn scope code l s).machines = s.machines := rfl
@[simp] theorem State.recordIn_pipe (scope code : Nat) (l : List Item) (s : State) :
    (State.recordIn scope code l s).pipe = s.pipe := rfl
@[simp] theorem State.recordIn_air (scope code : Nat) (l : List Item) (s : State) :
    (State.recordIn scope code l s).air = s.air := rfl
@[simp] theorem State.recordIn_corr (scope code : Nat) (l : List Item) (s : State) :
    (State.recordIn scope code l s).corr = s.corr := rfl
@[simp] theorem State.recordIn_gnss (scope code : Nat) (l : List Item) (s : State) :
    (State.recordIn scope code l s).gnss = s.gnss := rfl
@[simp] theorem State.recordIn_meter (scope code : Nat) (l : List Item) (s : State) :
    (State.recordIn scope code l s).meter = s.meter := rfl

/-! ### State.recordSince -/

@[simp] theorem State.recordSince_pending (scope code n : Nat) (l : List Item) (s : State) :
    (State.recordSince scope code n l s).pending = s.pending := rfl
@[simp] theorem State.recordSince_out (scope code n : Nat) (l : List Item) (s : State) :
    (State.recordSince scope code n l s).out = s.out := rfl
@[simp] theorem State.recordSince_settings (scope code n : Nat) (l : List Item) (s : State) :
    (State.recordSince scope code n l s).settings = s.settings := rfl
@[simp] theorem State.recordSince_effective (scope code n : Nat) (l : List Item) (s : State) :
    (State.recordSince scope code n l s).effective = s.effective := rfl
@[simp] theorem State.recordSince_shown (scope code n : Nat) (l : List Item) (s : State) :
    (State.recordSince scope code n l s).shown = s.shown := rfl
@[simp] theorem State.recordSince_time (scope code n : Nat) (l : List Item) (s : State) :
    (State.recordSince scope code n l s).time = s.time := rfl
@[simp] theorem State.recordSince_ptp (scope code n : Nat) (l : List Item) (s : State) :
    (State.recordSince scope code n l s).ptp = s.ptp := rfl
@[simp] theorem State.recordSince_dict (scope code n : Nat) (l : List Item) (s : State) :
    (State.recordSince scope code n l s).dict = s.dict := rfl
@[simp] theorem State.recordSince_upd (scope code n : Nat) (l : List Item) (s : State) :
    (State.recordSince scope code n l s).upd = s.upd := rfl
@[simp] theorem State.recordSince_bg (scope code n : Nat) (l : List Item) (s : State) :
    (State.recordSince scope code n l s).bg = s.bg := rfl
@[simp] theorem State.recordSince_power (scope code n : Nat) (l : List Item) (s : State) :
    (State.recordSince scope code n l s).power = s.power := rfl
@[simp] theorem State.recordSince_sec (scope code n : Nat) (l : List Item) (s : State) :
    (State.recordSince scope code n l s).sec = s.sec := rfl
@[simp] theorem State.recordSince_freeCount (scope code n : Nat) (l : List Item) (s : State) :
    (State.recordSince scope code n l s).freeCount = s.freeCount := rfl
@[simp] theorem State.recordSince_ingest (scope code n : Nat) (l : List Item) (s : State) :
    (State.recordSince scope code n l s).ingest = s.ingest := rfl
@[simp] theorem State.recordSince_stop (scope code n : Nat) (l : List Item) (s : State) :
    (State.recordSince scope code n l s).stop = s.stop := rfl
@[simp] theorem State.recordSince_axes (scope code n : Nat) (l : List Item) (s : State) :
    (State.recordSince scope code n l s).axes = s.axes := rfl
@[simp] theorem State.recordSince_pair (scope code n : Nat) (l : List Item) (s : State) :
    (State.recordSince scope code n l s).pair = s.pair := rfl
@[simp] theorem State.recordSince_net (scope code n : Nat) (l : List Item) (s : State) :
    (State.recordSince scope code n l s).net = s.net := rfl
@[simp] theorem State.recordSince_sched (scope code n : Nat) (l : List Item) (s : State) :
    (State.recordSince scope code n l s).sched = s.sched := rfl
@[simp] theorem State.recordSince_tracks (scope code n : Nat) (l : List Item) (s : State) :
    (State.recordSince scope code n l s).tracks = s.tracks := rfl
@[simp] theorem State.recordSince_tasks (scope code n : Nat) (l : List Item) (s : State) :
    (State.recordSince scope code n l s).tasks = s.tasks := rfl
@[simp] theorem State.recordSince_machines (scope code n : Nat) (l : List Item) (s : State) :
    (State.recordSince scope code n l s).machines = s.machines := rfl
@[simp] theorem State.recordSince_pipe (scope code n : Nat) (l : List Item) (s : State) :
    (State.recordSince scope code n l s).pipe = s.pipe := rfl
@[simp] theorem State.recordSince_air (scope code n : Nat) (l : List Item) (s : State) :
    (State.recordSince scope code n l s).air = s.air := rfl
@[simp] theorem State.recordSince_corr (scope code n : Nat) (l : List Item) (s : State) :
    (State.recordSince scope code n l s).corr = s.corr := rfl
@[simp] theorem State.recordSince_gnss (scope code n : Nat) (l : List Item) (s : State) :
    (State.recordSince scope code n l s).gnss = s.gnss := rfl
@[simp] theorem State.recordSince_meter (scope code n : Nat) (l : List Item) (s : State) :
    (State.recordSince scope code n l s).meter = s.meter := rfl

/-! ### State.recordRows -/

@[simp] theorem State.recordRows_pending (scope code : Nat) (l : List Item) (adds : List Nat) (s : State) :
    (State.recordRows scope code l adds s).pending = s.pending := rfl
@[simp] theorem State.recordRows_out (scope code : Nat) (l : List Item) (adds : List Nat) (s : State) :
    (State.recordRows scope code l adds s).out = s.out := rfl
@[simp] theorem State.recordRows_settings (scope code : Nat) (l : List Item) (adds : List Nat) (s : State) :
    (State.recordRows scope code l adds s).settings = s.settings := rfl
@[simp] theorem State.recordRows_effective (scope code : Nat) (l : List Item) (adds : List Nat) (s : State) :
    (State.recordRows scope code l adds s).effective = s.effective := rfl
@[simp] theorem State.recordRows_shown (scope code : Nat) (l : List Item) (adds : List Nat) (s : State) :
    (State.recordRows scope code l adds s).shown = s.shown := rfl
@[simp] theorem State.recordRows_time (scope code : Nat) (l : List Item) (adds : List Nat) (s : State) :
    (State.recordRows scope code l adds s).time = s.time := rfl
@[simp] theorem State.recordRows_ptp (scope code : Nat) (l : List Item) (adds : List Nat) (s : State) :
    (State.recordRows scope code l adds s).ptp = s.ptp := rfl
@[simp] theorem State.recordRows_dict (scope code : Nat) (l : List Item) (adds : List Nat) (s : State) :
    (State.recordRows scope code l adds s).dict = s.dict := rfl
@[simp] theorem State.recordRows_upd (scope code : Nat) (l : List Item) (adds : List Nat) (s : State) :
    (State.recordRows scope code l adds s).upd = s.upd := rfl
@[simp] theorem State.recordRows_bg (scope code : Nat) (l : List Item) (adds : List Nat) (s : State) :
    (State.recordRows scope code l adds s).bg = s.bg := rfl
@[simp] theorem State.recordRows_power (scope code : Nat) (l : List Item) (adds : List Nat) (s : State) :
    (State.recordRows scope code l adds s).power = s.power := rfl
@[simp] theorem State.recordRows_sec (scope code : Nat) (l : List Item) (adds : List Nat) (s : State) :
    (State.recordRows scope code l adds s).sec = s.sec := rfl
@[simp] theorem State.recordRows_freeCount (scope code : Nat) (l : List Item) (adds : List Nat) (s : State) :
    (State.recordRows scope code l adds s).freeCount = s.freeCount := rfl
@[simp] theorem State.recordRows_ingest (scope code : Nat) (l : List Item) (adds : List Nat) (s : State) :
    (State.recordRows scope code l adds s).ingest = s.ingest := rfl
@[simp] theorem State.recordRows_stop (scope code : Nat) (l : List Item) (adds : List Nat) (s : State) :
    (State.recordRows scope code l adds s).stop = s.stop := rfl
@[simp] theorem State.recordRows_axes (scope code : Nat) (l : List Item) (adds : List Nat) (s : State) :
    (State.recordRows scope code l adds s).axes = s.axes := rfl
@[simp] theorem State.recordRows_pair (scope code : Nat) (l : List Item) (adds : List Nat) (s : State) :
    (State.recordRows scope code l adds s).pair = s.pair := rfl
@[simp] theorem State.recordRows_net (scope code : Nat) (l : List Item) (adds : List Nat) (s : State) :
    (State.recordRows scope code l adds s).net = s.net := rfl
@[simp] theorem State.recordRows_sched (scope code : Nat) (l : List Item) (adds : List Nat) (s : State) :
    (State.recordRows scope code l adds s).sched = s.sched := rfl
@[simp] theorem State.recordRows_tracks (scope code : Nat) (l : List Item) (adds : List Nat) (s : State) :
    (State.recordRows scope code l adds s).tracks = s.tracks := rfl
@[simp] theorem State.recordRows_tasks (scope code : Nat) (l : List Item) (adds : List Nat) (s : State) :
    (State.recordRows scope code l adds s).tasks = s.tasks := rfl
@[simp] theorem State.recordRows_machines (scope code : Nat) (l : List Item) (adds : List Nat) (s : State) :
    (State.recordRows scope code l adds s).machines = s.machines := rfl
@[simp] theorem State.recordRows_pipe (scope code : Nat) (l : List Item) (adds : List Nat) (s : State) :
    (State.recordRows scope code l adds s).pipe = s.pipe := rfl
@[simp] theorem State.recordRows_air (scope code : Nat) (l : List Item) (adds : List Nat) (s : State) :
    (State.recordRows scope code l adds s).air = s.air := rfl
@[simp] theorem State.recordRows_corr (scope code : Nat) (l : List Item) (adds : List Nat) (s : State) :
    (State.recordRows scope code l adds s).corr = s.corr := rfl
@[simp] theorem State.recordRows_gnss (scope code : Nat) (l : List Item) (adds : List Nat) (s : State) :
    (State.recordRows scope code l adds s).gnss = s.gnss := rfl
@[simp] theorem State.recordRows_meter (scope code : Nat) (l : List Item) (adds : List Nat) (s : State) :
    (State.recordRows scope code l adds s).meter = s.meter := rfl

/-! ### State.noteSince -/

@[simp] theorem State.noteSince_pending (scope code : Nat) (adds : List Nat) (s : State) :
    (State.noteSince scope code adds s).pending = s.pending := rfl
@[simp] theorem State.noteSince_out (scope code : Nat) (adds : List Nat) (s : State) :
    (State.noteSince scope code adds s).out = s.out := rfl
@[simp] theorem State.noteSince_counters (scope code : Nat) (adds : List Nat) (s : State) :
    (State.noteSince scope code adds s).counters = s.counters := rfl
@[simp] theorem State.noteSince_settings (scope code : Nat) (adds : List Nat) (s : State) :
    (State.noteSince scope code adds s).settings = s.settings := rfl
@[simp] theorem State.noteSince_effective (scope code : Nat) (adds : List Nat) (s : State) :
    (State.noteSince scope code adds s).effective = s.effective := rfl
@[simp] theorem State.noteSince_shown (scope code : Nat) (adds : List Nat) (s : State) :
    (State.noteSince scope code adds s).shown = s.shown := rfl
@[simp] theorem State.noteSince_time (scope code : Nat) (adds : List Nat) (s : State) :
    (State.noteSince scope code adds s).time = s.time := rfl
@[simp] theorem State.noteSince_ptp (scope code : Nat) (adds : List Nat) (s : State) :
    (State.noteSince scope code adds s).ptp = s.ptp := rfl
@[simp] theorem State.noteSince_dict (scope code : Nat) (adds : List Nat) (s : State) :
    (State.noteSince scope code adds s).dict = s.dict := rfl
@[simp] theorem State.noteSince_upd (scope code : Nat) (adds : List Nat) (s : State) :
    (State.noteSince scope code adds s).upd = s.upd := rfl
@[simp] theorem State.noteSince_bg (scope code : Nat) (adds : List Nat) (s : State) :
    (State.noteSince scope code adds s).bg = s.bg := rfl
@[simp] theorem State.noteSince_power (scope code : Nat) (adds : List Nat) (s : State) :
    (State.noteSince scope code adds s).power = s.power := rfl
@[simp] theorem State.noteSince_sec (scope code : Nat) (adds : List Nat) (s : State) :
    (State.noteSince scope code adds s).sec = s.sec := rfl
@[simp] theorem State.noteSince_freeCount (scope code : Nat) (adds : List Nat) (s : State) :
    (State.noteSince scope code adds s).freeCount = s.freeCount := rfl
@[simp] theorem State.noteSince_ingest (scope code : Nat) (adds : List Nat) (s : State) :
    (State.noteSince scope code adds s).ingest = s.ingest := rfl
@[simp] theorem State.noteSince_stop (scope code : Nat) (adds : List Nat) (s : State) :
    (State.noteSince scope code adds s).stop = s.stop := rfl
@[simp] theorem State.noteSince_axes (scope code : Nat) (adds : List Nat) (s : State) :
    (State.noteSince scope code adds s).axes = s.axes := rfl
@[simp] theorem State.noteSince_pair (scope code : Nat) (adds : List Nat) (s : State) :
    (State.noteSince scope code adds s).pair = s.pair := rfl
@[simp] theorem State.noteSince_net (scope code : Nat) (adds : List Nat) (s : State) :
    (State.noteSince scope code adds s).net = s.net := rfl
@[simp] theorem State.noteSince_sched (scope code : Nat) (adds : List Nat) (s : State) :
    (State.noteSince scope code adds s).sched = s.sched := rfl
@[simp] theorem State.noteSince_tracks (scope code : Nat) (adds : List Nat) (s : State) :
    (State.noteSince scope code adds s).tracks = s.tracks := rfl
@[simp] theorem State.noteSince_tasks (scope code : Nat) (adds : List Nat) (s : State) :
    (State.noteSince scope code adds s).tasks = s.tasks := rfl
@[simp] theorem State.noteSince_machines (scope code : Nat) (adds : List Nat) (s : State) :
    (State.noteSince scope code adds s).machines = s.machines := rfl
@[simp] theorem State.noteSince_pipe (scope code : Nat) (adds : List Nat) (s : State) :
    (State.noteSince scope code adds s).pipe = s.pipe := rfl
@[simp] theorem State.noteSince_air (scope code : Nat) (adds : List Nat) (s : State) :
    (State.noteSince scope code adds s).air = s.air := rfl
@[simp] theorem State.noteSince_corr (scope code : Nat) (adds : List Nat) (s : State) :
    (State.noteSince scope code adds s).corr = s.corr := rfl
@[simp] theorem State.noteSince_gnss (scope code : Nat) (adds : List Nat) (s : State) :
    (State.noteSince scope code adds s).gnss = s.gnss := rfl
@[simp] theorem State.noteSince_meter (scope code : Nat) (adds : List Nat) (s : State) :
    (State.noteSince scope code adds s).meter = s.meter := rfl

/-! ### State.emit -/

@[simp] theorem State.emit_pending (o : Out) (s : State) :
    (State.emit o s).pending = s.pending := rfl
@[simp] theorem State.emit_counters (o : Out) (s : State) :
    (State.emit o s).counters = s.counters := rfl
@[simp] theorem State.emit_settings (o : Out) (s : State) :
    (State.emit o s).settings = s.settings := rfl
@[simp] theorem State.emit_effective (o : Out) (s : State) :
    (State.emit o s).effective = s.effective := rfl
@[simp] theorem State.emit_shown (o : Out) (s : State) :
    (State.emit o s).shown = s.shown := rfl
@[simp] theorem State.emit_rcd (o : Out) (s : State) :
    (State.emit o s).rcd = s.rcd := rfl
@[simp] theorem State.emit_time (o : Out) (s : State) :
    (State.emit o s).time = s.time := rfl
@[simp] theorem State.emit_ptp (o : Out) (s : State) :
    (State.emit o s).ptp = s.ptp := rfl
@[simp] theorem State.emit_dict (o : Out) (s : State) :
    (State.emit o s).dict = s.dict := rfl
@[simp] theorem State.emit_upd (o : Out) (s : State) :
    (State.emit o s).upd = s.upd := rfl
@[simp] theorem State.emit_bg (o : Out) (s : State) :
    (State.emit o s).bg = s.bg := rfl
@[simp] theorem State.emit_power (o : Out) (s : State) :
    (State.emit o s).power = s.power := rfl
@[simp] theorem State.emit_sec (o : Out) (s : State) :
    (State.emit o s).sec = s.sec := rfl
@[simp] theorem State.emit_freeCount (o : Out) (s : State) :
    (State.emit o s).freeCount = s.freeCount := rfl
@[simp] theorem State.emit_ingest (o : Out) (s : State) :
    (State.emit o s).ingest = s.ingest := rfl
@[simp] theorem State.emit_stop (o : Out) (s : State) :
    (State.emit o s).stop = s.stop := rfl
@[simp] theorem State.emit_axes (o : Out) (s : State) :
    (State.emit o s).axes = s.axes := rfl
@[simp] theorem State.emit_pair (o : Out) (s : State) :
    (State.emit o s).pair = s.pair := rfl
@[simp] theorem State.emit_net (o : Out) (s : State) :
    (State.emit o s).net = s.net := rfl
@[simp] theorem State.emit_sched (o : Out) (s : State) :
    (State.emit o s).sched = s.sched := rfl
@[simp] theorem State.emit_tracks (o : Out) (s : State) :
    (State.emit o s).tracks = s.tracks := rfl
@[simp] theorem State.emit_tasks (o : Out) (s : State) :
    (State.emit o s).tasks = s.tasks := rfl
@[simp] theorem State.emit_machines (o : Out) (s : State) :
    (State.emit o s).machines = s.machines := rfl
@[simp] theorem State.emit_pipe (o : Out) (s : State) :
    (State.emit o s).pipe = s.pipe := rfl
@[simp] theorem State.emit_air (o : Out) (s : State) :
    (State.emit o s).air = s.air := rfl
@[simp] theorem State.emit_corr (o : Out) (s : State) :
    (State.emit o s).corr = s.corr := rfl
@[simp] theorem State.emit_gnss (o : Out) (s : State) :
    (State.emit o s).gnss = s.gnss := rfl
@[simp] theorem State.emit_meter (o : Out) (s : State) :
    (State.emit o s).meter = s.meter := rfl

/-! ### State.answer -/

@[simp] theorem State.answer_pending (w : Writer) (obj code : Nat) (s : State) :
    (State.answer w obj code s).pending = s.pending := rfl
@[simp] theorem State.answer_settings (w : Writer) (obj code : Nat) (s : State) :
    (State.answer w obj code s).settings = s.settings := rfl
@[simp] theorem State.answer_effective (w : Writer) (obj code : Nat) (s : State) :
    (State.answer w obj code s).effective = s.effective := rfl
@[simp] theorem State.answer_shown (w : Writer) (obj code : Nat) (s : State) :
    (State.answer w obj code s).shown = s.shown := rfl
@[simp] theorem State.answer_rcd (w : Writer) (obj code : Nat) (s : State) :
    (State.answer w obj code s).rcd = s.rcd := rfl
@[simp] theorem State.answer_time (w : Writer) (obj code : Nat) (s : State) :
    (State.answer w obj code s).time = s.time := rfl
@[simp] theorem State.answer_ptp (w : Writer) (obj code : Nat) (s : State) :
    (State.answer w obj code s).ptp = s.ptp := rfl
@[simp] theorem State.answer_dict (w : Writer) (obj code : Nat) (s : State) :
    (State.answer w obj code s).dict = s.dict := rfl
@[simp] theorem State.answer_upd (w : Writer) (obj code : Nat) (s : State) :
    (State.answer w obj code s).upd = s.upd := rfl
@[simp] theorem State.answer_bg (w : Writer) (obj code : Nat) (s : State) :
    (State.answer w obj code s).bg = s.bg := rfl
@[simp] theorem State.answer_power (w : Writer) (obj code : Nat) (s : State) :
    (State.answer w obj code s).power = s.power := rfl
@[simp] theorem State.answer_sec (w : Writer) (obj code : Nat) (s : State) :
    (State.answer w obj code s).sec = s.sec := rfl
@[simp] theorem State.answer_freeCount (w : Writer) (obj code : Nat) (s : State) :
    (State.answer w obj code s).freeCount = s.freeCount := rfl
@[simp] theorem State.answer_ingest (w : Writer) (obj code : Nat) (s : State) :
    (State.answer w obj code s).ingest = s.ingest := rfl
@[simp] theorem State.answer_stop (w : Writer) (obj code : Nat) (s : State) :
    (State.answer w obj code s).stop = s.stop := rfl
@[simp] theorem State.answer_axes (w : Writer) (obj code : Nat) (s : State) :
    (State.answer w obj code s).axes = s.axes := rfl
@[simp] theorem State.answer_pair (w : Writer) (obj code : Nat) (s : State) :
    (State.answer w obj code s).pair = s.pair := rfl
@[simp] theorem State.answer_net (w : Writer) (obj code : Nat) (s : State) :
    (State.answer w obj code s).net = s.net := rfl
@[simp] theorem State.answer_sched (w : Writer) (obj code : Nat) (s : State) :
    (State.answer w obj code s).sched = s.sched := rfl
@[simp] theorem State.answer_tracks (w : Writer) (obj code : Nat) (s : State) :
    (State.answer w obj code s).tracks = s.tracks := rfl
@[simp] theorem State.answer_tasks (w : Writer) (obj code : Nat) (s : State) :
    (State.answer w obj code s).tasks = s.tasks := rfl
@[simp] theorem State.answer_machines (w : Writer) (obj code : Nat) (s : State) :
    (State.answer w obj code s).machines = s.machines := rfl
@[simp] theorem State.answer_pipe (w : Writer) (obj code : Nat) (s : State) :
    (State.answer w obj code s).pipe = s.pipe := rfl
@[simp] theorem State.answer_air (w : Writer) (obj code : Nat) (s : State) :
    (State.answer w obj code s).air = s.air := rfl
@[simp] theorem State.answer_corr (w : Writer) (obj code : Nat) (s : State) :
    (State.answer w obj code s).corr = s.corr := rfl
@[simp] theorem State.answer_gnss (w : Writer) (obj code : Nat) (s : State) :
    (State.answer w obj code s).gnss = s.gnss := rfl
@[simp] theorem State.answer_meter (w : Writer) (obj code : Nat) (s : State) :
    (State.answer w obj code s).meter = s.meter := rfl

/-! ### State.drawn -/

@[simp] theorem State.drawn_pending (s : State) :
    (State.drawn s).pending = s.pending := rfl
@[simp] theorem State.drawn_out (s : State) :
    (State.drawn s).out = s.out := rfl
@[simp] theorem State.drawn_counters (s : State) :
    (State.drawn s).counters = s.counters := rfl
@[simp] theorem State.drawn_settings (s : State) :
    (State.drawn s).settings = s.settings := rfl
@[simp] theorem State.drawn_effective (s : State) :
    (State.drawn s).effective = s.effective := rfl
@[simp] theorem State.drawn_shown (s : State) :
    (State.drawn s).shown = s.shown := rfl
@[simp] theorem State.drawn_rcd (s : State) :
    (State.drawn s).rcd = s.rcd := rfl
@[simp] theorem State.drawn_time (s : State) :
    (State.drawn s).time = s.time := rfl
@[simp] theorem State.drawn_ptp (s : State) :
    (State.drawn s).ptp = s.ptp := rfl
@[simp] theorem State.drawn_dict (s : State) :
    (State.drawn s).dict = s.dict := rfl
@[simp] theorem State.drawn_upd (s : State) :
    (State.drawn s).upd = s.upd := rfl
@[simp] theorem State.drawn_bg (s : State) :
    (State.drawn s).bg = s.bg := rfl
@[simp] theorem State.drawn_power (s : State) :
    (State.drawn s).power = s.power := rfl
@[simp] theorem State.drawn_sec (s : State) :
    (State.drawn s).sec = s.sec := rfl
@[simp] theorem State.drawn_ingest (s : State) :
    (State.drawn s).ingest = s.ingest := rfl
@[simp] theorem State.drawn_stop (s : State) :
    (State.drawn s).stop = s.stop := rfl
@[simp] theorem State.drawn_axes (s : State) :
    (State.drawn s).axes = s.axes := rfl
@[simp] theorem State.drawn_pair (s : State) :
    (State.drawn s).pair = s.pair := rfl
@[simp] theorem State.drawn_net (s : State) :
    (State.drawn s).net = s.net := rfl
@[simp] theorem State.drawn_sched (s : State) :
    (State.drawn s).sched = s.sched := rfl
@[simp] theorem State.drawn_tracks (s : State) :
    (State.drawn s).tracks = s.tracks := rfl
@[simp] theorem State.drawn_tasks (s : State) :
    (State.drawn s).tasks = s.tasks := rfl
@[simp] theorem State.drawn_machines (s : State) :
    (State.drawn s).machines = s.machines := rfl
@[simp] theorem State.drawn_pipe (s : State) :
    (State.drawn s).pipe = s.pipe := rfl
@[simp] theorem State.drawn_air (s : State) :
    (State.drawn s).air = s.air := rfl
@[simp] theorem State.drawn_corr (s : State) :
    (State.drawn s).corr = s.corr := rfl
@[simp] theorem State.drawn_gnss (s : State) :
    (State.drawn s).gnss = s.gnss := rfl
@[simp] theorem State.drawn_meter (s : State) :
    (State.drawn s).meter = s.meter := rfl

/-! ### State.modComparator -/

@[simp] theorem State.modComparator_pending (k : Nat) (f : Comparator → Comparator) (s : State) :
    (State.modComparator k f s).pending = s.pending := rfl
@[simp] theorem State.modComparator_out (k : Nat) (f : Comparator → Comparator) (s : State) :
    (State.modComparator k f s).out = s.out := rfl
@[simp] theorem State.modComparator_counters (k : Nat) (f : Comparator → Comparator) (s : State) :
    (State.modComparator k f s).counters = s.counters := rfl
@[simp] theorem State.modComparator_settings (k : Nat) (f : Comparator → Comparator) (s : State) :
    (State.modComparator k f s).settings = s.settings := rfl
@[simp] theorem State.modComparator_effective (k : Nat) (f : Comparator → Comparator) (s : State) :
    (State.modComparator k f s).effective = s.effective := rfl
@[simp] theorem State.modComparator_shown (k : Nat) (f : Comparator → Comparator) (s : State) :
    (State.modComparator k f s).shown = s.shown := rfl
@[simp] theorem State.modComparator_rcd (k : Nat) (f : Comparator → Comparator) (s : State) :
    (State.modComparator k f s).rcd = s.rcd := rfl
@[simp] theorem State.modComparator_ptp (k : Nat) (f : Comparator → Comparator) (s : State) :
    (State.modComparator k f s).ptp = s.ptp := rfl
@[simp] theorem State.modComparator_dict (k : Nat) (f : Comparator → Comparator) (s : State) :
    (State.modComparator k f s).dict = s.dict := rfl
@[simp] theorem State.modComparator_upd (k : Nat) (f : Comparator → Comparator) (s : State) :
    (State.modComparator k f s).upd = s.upd := rfl
@[simp] theorem State.modComparator_bg (k : Nat) (f : Comparator → Comparator) (s : State) :
    (State.modComparator k f s).bg = s.bg := rfl
@[simp] theorem State.modComparator_power (k : Nat) (f : Comparator → Comparator) (s : State) :
    (State.modComparator k f s).power = s.power := rfl
@[simp] theorem State.modComparator_sec (k : Nat) (f : Comparator → Comparator) (s : State) :
    (State.modComparator k f s).sec = s.sec := rfl
@[simp] theorem State.modComparator_freeCount (k : Nat) (f : Comparator → Comparator) (s : State) :
    (State.modComparator k f s).freeCount = s.freeCount := rfl
@[simp] theorem State.modComparator_ingest (k : Nat) (f : Comparator → Comparator) (s : State) :
    (State.modComparator k f s).ingest = s.ingest := rfl
@[simp] theorem State.modComparator_stop (k : Nat) (f : Comparator → Comparator) (s : State) :
    (State.modComparator k f s).stop = s.stop := rfl
@[simp] theorem State.modComparator_axes (k : Nat) (f : Comparator → Comparator) (s : State) :
    (State.modComparator k f s).axes = s.axes := rfl
@[simp] theorem State.modComparator_pair (k : Nat) (f : Comparator → Comparator) (s : State) :
    (State.modComparator k f s).pair = s.pair := rfl
@[simp] theorem State.modComparator_net (k : Nat) (f : Comparator → Comparator) (s : State) :
    (State.modComparator k f s).net = s.net := rfl
@[simp] theorem State.modComparator_sched (k : Nat) (f : Comparator → Comparator) (s : State) :
    (State.modComparator k f s).sched = s.sched := rfl
@[simp] theorem State.modComparator_tracks (k : Nat) (f : Comparator → Comparator) (s : State) :
    (State.modComparator k f s).tracks = s.tracks := rfl
@[simp] theorem State.modComparator_tasks (k : Nat) (f : Comparator → Comparator) (s : State) :
    (State.modComparator k f s).tasks = s.tasks := rfl
@[simp] theorem State.modComparator_machines (k : Nat) (f : Comparator → Comparator) (s : State) :
    (State.modComparator k f s).machines = s.machines := rfl
@[simp] theorem State.modComparator_pipe (k : Nat) (f : Comparator → Comparator) (s : State) :
    (State.modComparator k f s).pipe = s.pipe := rfl
@[simp] theorem State.modComparator_air (k : Nat) (f : Comparator → Comparator) (s : State) :
    (State.modComparator k f s).air = s.air := rfl
@[simp] theorem State.modComparator_corr (k : Nat) (f : Comparator → Comparator) (s : State) :
    (State.modComparator k f s).corr = s.corr := rfl
@[simp] theorem State.modComparator_gnss (k : Nat) (f : Comparator → Comparator) (s : State) :
    (State.modComparator k f s).gnss = s.gnss := rfl
@[simp] theorem State.modComparator_meter (k : Nat) (f : Comparator → Comparator) (s : State) :
    (State.modComparator k f s).meter = s.meter := rfl

/-! ### State.modAxis -/

@[simp] theorem State.modAxis_pending (n : Nat) (f : Axis → Axis) (s : State) :
    (State.modAxis n f s).pending = s.pending := rfl
@[simp] theorem State.modAxis_out (n : Nat) (f : Axis → Axis) (s : State) :
    (State.modAxis n f s).out = s.out := rfl
@[simp] theorem State.modAxis_counters (n : Nat) (f : Axis → Axis) (s : State) :
    (State.modAxis n f s).counters = s.counters := rfl
@[simp] theorem State.modAxis_settings (n : Nat) (f : Axis → Axis) (s : State) :
    (State.modAxis n f s).settings = s.settings := rfl
@[simp] theorem State.modAxis_effective (n : Nat) (f : Axis → Axis) (s : State) :
    (State.modAxis n f s).effective = s.effective := rfl
@[simp] theorem State.modAxis_shown (n : Nat) (f : Axis → Axis) (s : State) :
    (State.modAxis n f s).shown = s.shown := rfl
@[simp] theorem State.modAxis_rcd (n : Nat) (f : Axis → Axis) (s : State) :
    (State.modAxis n f s).rcd = s.rcd := rfl
@[simp] theorem State.modAxis_time (n : Nat) (f : Axis → Axis) (s : State) :
    (State.modAxis n f s).time = s.time := rfl
@[simp] theorem State.modAxis_ptp (n : Nat) (f : Axis → Axis) (s : State) :
    (State.modAxis n f s).ptp = s.ptp := rfl
@[simp] theorem State.modAxis_dict (n : Nat) (f : Axis → Axis) (s : State) :
    (State.modAxis n f s).dict = s.dict := rfl
@[simp] theorem State.modAxis_upd (n : Nat) (f : Axis → Axis) (s : State) :
    (State.modAxis n f s).upd = s.upd := rfl
@[simp] theorem State.modAxis_bg (n : Nat) (f : Axis → Axis) (s : State) :
    (State.modAxis n f s).bg = s.bg := rfl
@[simp] theorem State.modAxis_power (n : Nat) (f : Axis → Axis) (s : State) :
    (State.modAxis n f s).power = s.power := rfl
@[simp] theorem State.modAxis_sec (n : Nat) (f : Axis → Axis) (s : State) :
    (State.modAxis n f s).sec = s.sec := rfl
@[simp] theorem State.modAxis_freeCount (n : Nat) (f : Axis → Axis) (s : State) :
    (State.modAxis n f s).freeCount = s.freeCount := rfl
@[simp] theorem State.modAxis_ingest (n : Nat) (f : Axis → Axis) (s : State) :
    (State.modAxis n f s).ingest = s.ingest := rfl
@[simp] theorem State.modAxis_stop (n : Nat) (f : Axis → Axis) (s : State) :
    (State.modAxis n f s).stop = s.stop := rfl
@[simp] theorem State.modAxis_pair (n : Nat) (f : Axis → Axis) (s : State) :
    (State.modAxis n f s).pair = s.pair := rfl
@[simp] theorem State.modAxis_net (n : Nat) (f : Axis → Axis) (s : State) :
    (State.modAxis n f s).net = s.net := rfl
@[simp] theorem State.modAxis_sched (n : Nat) (f : Axis → Axis) (s : State) :
    (State.modAxis n f s).sched = s.sched := rfl
@[simp] theorem State.modAxis_tracks (n : Nat) (f : Axis → Axis) (s : State) :
    (State.modAxis n f s).tracks = s.tracks := rfl
@[simp] theorem State.modAxis_tasks (n : Nat) (f : Axis → Axis) (s : State) :
    (State.modAxis n f s).tasks = s.tasks := rfl
@[simp] theorem State.modAxis_machines (n : Nat) (f : Axis → Axis) (s : State) :
    (State.modAxis n f s).machines = s.machines := rfl
@[simp] theorem State.modAxis_pipe (n : Nat) (f : Axis → Axis) (s : State) :
    (State.modAxis n f s).pipe = s.pipe := rfl
@[simp] theorem State.modAxis_air (n : Nat) (f : Axis → Axis) (s : State) :
    (State.modAxis n f s).air = s.air := rfl
@[simp] theorem State.modAxis_corr (n : Nat) (f : Axis → Axis) (s : State) :
    (State.modAxis n f s).corr = s.corr := rfl
@[simp] theorem State.modAxis_gnss (n : Nat) (f : Axis → Axis) (s : State) :
    (State.modAxis n f s).gnss = s.gnss := rfl
@[simp] theorem State.modAxis_meter (n : Nat) (f : Axis → Axis) (s : State) :
    (State.modAxis n f s).meter = s.meter := rfl

/-! ### State.modTio -/

@[simp] theorem State.modTio_pending (k : Nat) (f : TioPin → TioPin) (s : State) :
    (State.modTio k f s).pending = s.pending := rfl
@[simp] theorem State.modTio_out (k : Nat) (f : TioPin → TioPin) (s : State) :
    (State.modTio k f s).out = s.out := rfl
@[simp] theorem State.modTio_counters (k : Nat) (f : TioPin → TioPin) (s : State) :
    (State.modTio k f s).counters = s.counters := rfl
@[simp] theorem State.modTio_settings (k : Nat) (f : TioPin → TioPin) (s : State) :
    (State.modTio k f s).settings = s.settings := rfl
@[simp] theorem State.modTio_effective (k : Nat) (f : TioPin → TioPin) (s : State) :
    (State.modTio k f s).effective = s.effective := rfl
@[simp] theorem State.modTio_shown (k : Nat) (f : TioPin → TioPin) (s : State) :
    (State.modTio k f s).shown = s.shown := rfl
@[simp] theorem State.modTio_rcd (k : Nat) (f : TioPin → TioPin) (s : State) :
    (State.modTio k f s).rcd = s.rcd := rfl
@[simp] theorem State.modTio_time (k : Nat) (f : TioPin → TioPin) (s : State) :
    (State.modTio k f s).time = s.time := rfl
@[simp] theorem State.modTio_dict (k : Nat) (f : TioPin → TioPin) (s : State) :
    (State.modTio k f s).dict = s.dict := rfl
@[simp] theorem State.modTio_upd (k : Nat) (f : TioPin → TioPin) (s : State) :
    (State.modTio k f s).upd = s.upd := rfl
@[simp] theorem State.modTio_bg (k : Nat) (f : TioPin → TioPin) (s : State) :
    (State.modTio k f s).bg = s.bg := rfl
@[simp] theorem State.modTio_power (k : Nat) (f : TioPin → TioPin) (s : State) :
    (State.modTio k f s).power = s.power := rfl
@[simp] theorem State.modTio_sec (k : Nat) (f : TioPin → TioPin) (s : State) :
    (State.modTio k f s).sec = s.sec := rfl
@[simp] theorem State.modTio_freeCount (k : Nat) (f : TioPin → TioPin) (s : State) :
    (State.modTio k f s).freeCount = s.freeCount := rfl
@[simp] theorem State.modTio_ingest (k : Nat) (f : TioPin → TioPin) (s : State) :
    (State.modTio k f s).ingest = s.ingest := rfl
@[simp] theorem State.modTio_stop (k : Nat) (f : TioPin → TioPin) (s : State) :
    (State.modTio k f s).stop = s.stop := rfl
@[simp] theorem State.modTio_axes (k : Nat) (f : TioPin → TioPin) (s : State) :
    (State.modTio k f s).axes = s.axes := rfl
@[simp] theorem State.modTio_pair (k : Nat) (f : TioPin → TioPin) (s : State) :
    (State.modTio k f s).pair = s.pair := rfl
@[simp] theorem State.modTio_net (k : Nat) (f : TioPin → TioPin) (s : State) :
    (State.modTio k f s).net = s.net := rfl
@[simp] theorem State.modTio_sched (k : Nat) (f : TioPin → TioPin) (s : State) :
    (State.modTio k f s).sched = s.sched := rfl
@[simp] theorem State.modTio_tracks (k : Nat) (f : TioPin → TioPin) (s : State) :
    (State.modTio k f s).tracks = s.tracks := rfl
@[simp] theorem State.modTio_tasks (k : Nat) (f : TioPin → TioPin) (s : State) :
    (State.modTio k f s).tasks = s.tasks := rfl
@[simp] theorem State.modTio_machines (k : Nat) (f : TioPin → TioPin) (s : State) :
    (State.modTio k f s).machines = s.machines := rfl
@[simp] theorem State.modTio_pipe (k : Nat) (f : TioPin → TioPin) (s : State) :
    (State.modTio k f s).pipe = s.pipe := rfl
@[simp] theorem State.modTio_air (k : Nat) (f : TioPin → TioPin) (s : State) :
    (State.modTio k f s).air = s.air := rfl
@[simp] theorem State.modTio_corr (k : Nat) (f : TioPin → TioPin) (s : State) :
    (State.modTio k f s).corr = s.corr := rfl
@[simp] theorem State.modTio_gnss (k : Nat) (f : TioPin → TioPin) (s : State) :
    (State.modTio k f s).gnss = s.gnss := rfl
@[simp] theorem State.modTio_meter (k : Nat) (f : TioPin → TioPin) (s : State) :
    (State.modTio k f s).meter = s.meter := rfl

/-! ### State.modEth -/

@[simp] theorem State.modEth_pending (p : Nat) (f : EthPort → EthPort) (s : State) :
    (State.modEth p f s).pending = s.pending := rfl
@[simp] theorem State.modEth_out (p : Nat) (f : EthPort → EthPort) (s : State) :
    (State.modEth p f s).out = s.out := rfl
@[simp] theorem State.modEth_counters (p : Nat) (f : EthPort → EthPort) (s : State) :
    (State.modEth p f s).counters = s.counters := rfl
@[simp] theorem State.modEth_settings (p : Nat) (f : EthPort → EthPort) (s : State) :
    (State.modEth p f s).settings = s.settings := rfl
@[simp] theorem State.modEth_effective (p : Nat) (f : EthPort → EthPort) (s : State) :
    (State.modEth p f s).effective = s.effective := rfl
@[simp] theorem State.modEth_shown (p : Nat) (f : EthPort → EthPort) (s : State) :
    (State.modEth p f s).shown = s.shown := rfl
@[simp] theorem State.modEth_rcd (p : Nat) (f : EthPort → EthPort) (s : State) :
    (State.modEth p f s).rcd = s.rcd := rfl
@[simp] theorem State.modEth_time (p : Nat) (f : EthPort → EthPort) (s : State) :
    (State.modEth p f s).time = s.time := rfl
@[simp] theorem State.modEth_ptp (p : Nat) (f : EthPort → EthPort) (s : State) :
    (State.modEth p f s).ptp = s.ptp := rfl
@[simp] theorem State.modEth_dict (p : Nat) (f : EthPort → EthPort) (s : State) :
    (State.modEth p f s).dict = s.dict := rfl
@[simp] theorem State.modEth_upd (p : Nat) (f : EthPort → EthPort) (s : State) :
    (State.modEth p f s).upd = s.upd := rfl
@[simp] theorem State.modEth_bg (p : Nat) (f : EthPort → EthPort) (s : State) :
    (State.modEth p f s).bg = s.bg := rfl
@[simp] theorem State.modEth_power (p : Nat) (f : EthPort → EthPort) (s : State) :
    (State.modEth p f s).power = s.power := rfl
@[simp] theorem State.modEth_sec (p : Nat) (f : EthPort → EthPort) (s : State) :
    (State.modEth p f s).sec = s.sec := rfl
@[simp] theorem State.modEth_freeCount (p : Nat) (f : EthPort → EthPort) (s : State) :
    (State.modEth p f s).freeCount = s.freeCount := rfl
@[simp] theorem State.modEth_ingest (p : Nat) (f : EthPort → EthPort) (s : State) :
    (State.modEth p f s).ingest = s.ingest := rfl
@[simp] theorem State.modEth_stop (p : Nat) (f : EthPort → EthPort) (s : State) :
    (State.modEth p f s).stop = s.stop := rfl
@[simp] theorem State.modEth_axes (p : Nat) (f : EthPort → EthPort) (s : State) :
    (State.modEth p f s).axes = s.axes := rfl
@[simp] theorem State.modEth_pair (p : Nat) (f : EthPort → EthPort) (s : State) :
    (State.modEth p f s).pair = s.pair := rfl
@[simp] theorem State.modEth_sched (p : Nat) (f : EthPort → EthPort) (s : State) :
    (State.modEth p f s).sched = s.sched := rfl
@[simp] theorem State.modEth_tracks (p : Nat) (f : EthPort → EthPort) (s : State) :
    (State.modEth p f s).tracks = s.tracks := rfl
@[simp] theorem State.modEth_tasks (p : Nat) (f : EthPort → EthPort) (s : State) :
    (State.modEth p f s).tasks = s.tasks := rfl
@[simp] theorem State.modEth_machines (p : Nat) (f : EthPort → EthPort) (s : State) :
    (State.modEth p f s).machines = s.machines := rfl
@[simp] theorem State.modEth_pipe (p : Nat) (f : EthPort → EthPort) (s : State) :
    (State.modEth p f s).pipe = s.pipe := rfl
@[simp] theorem State.modEth_air (p : Nat) (f : EthPort → EthPort) (s : State) :
    (State.modEth p f s).air = s.air := rfl
@[simp] theorem State.modEth_corr (p : Nat) (f : EthPort → EthPort) (s : State) :
    (State.modEth p f s).corr = s.corr := rfl
@[simp] theorem State.modEth_gnss (p : Nat) (f : EthPort → EthPort) (s : State) :
    (State.modEth p f s).gnss = s.gnss := rfl
@[simp] theorem State.modEth_meter (p : Nat) (f : EthPort → EthPort) (s : State) :
    (State.modEth p f s).meter = s.meter := rfl

/-! ### State.modCan -/

@[simp] theorem State.modCan_pending (c : Nat) (f : CanPort → CanPort) (s : State) :
    (State.modCan c f s).pending = s.pending := rfl
@[simp] theorem State.modCan_out (c : Nat) (f : CanPort → CanPort) (s : State) :
    (State.modCan c f s).out = s.out := rfl
@[simp] theorem State.modCan_counters (c : Nat) (f : CanPort → CanPort) (s : State) :
    (State.modCan c f s).counters = s.counters := rfl
@[simp] theorem State.modCan_settings (c : Nat) (f : CanPort → CanPort) (s : State) :
    (State.modCan c f s).settings = s.settings := rfl
@[simp] theorem State.modCan_effective (c : Nat) (f : CanPort → CanPort) (s : State) :
    (State.modCan c f s).effective = s.effective := rfl
@[simp] theorem State.modCan_shown (c : Nat) (f : CanPort → CanPort) (s : State) :
    (State.modCan c f s).shown = s.shown := rfl
@[simp] theorem State.modCan_rcd (c : Nat) (f : CanPort → CanPort) (s : State) :
    (State.modCan c f s).rcd = s.rcd := rfl
@[simp] theorem State.modCan_time (c : Nat) (f : CanPort → CanPort) (s : State) :
    (State.modCan c f s).time = s.time := rfl
@[simp] theorem State.modCan_ptp (c : Nat) (f : CanPort → CanPort) (s : State) :
    (State.modCan c f s).ptp = s.ptp := rfl
@[simp] theorem State.modCan_dict (c : Nat) (f : CanPort → CanPort) (s : State) :
    (State.modCan c f s).dict = s.dict := rfl
@[simp] theorem State.modCan_upd (c : Nat) (f : CanPort → CanPort) (s : State) :
    (State.modCan c f s).upd = s.upd := rfl
@[simp] theorem State.modCan_bg (c : Nat) (f : CanPort → CanPort) (s : State) :
    (State.modCan c f s).bg = s.bg := rfl
@[simp] theorem State.modCan_power (c : Nat) (f : CanPort → CanPort) (s : State) :
    (State.modCan c f s).power = s.power := rfl
@[simp] theorem State.modCan_sec (c : Nat) (f : CanPort → CanPort) (s : State) :
    (State.modCan c f s).sec = s.sec := rfl
@[simp] theorem State.modCan_freeCount (c : Nat) (f : CanPort → CanPort) (s : State) :
    (State.modCan c f s).freeCount = s.freeCount := rfl
@[simp] theorem State.modCan_ingest (c : Nat) (f : CanPort → CanPort) (s : State) :
    (State.modCan c f s).ingest = s.ingest := rfl
@[simp] theorem State.modCan_stop (c : Nat) (f : CanPort → CanPort) (s : State) :
    (State.modCan c f s).stop = s.stop := rfl
@[simp] theorem State.modCan_axes (c : Nat) (f : CanPort → CanPort) (s : State) :
    (State.modCan c f s).axes = s.axes := rfl
@[simp] theorem State.modCan_pair (c : Nat) (f : CanPort → CanPort) (s : State) :
    (State.modCan c f s).pair = s.pair := rfl
@[simp] theorem State.modCan_sched (c : Nat) (f : CanPort → CanPort) (s : State) :
    (State.modCan c f s).sched = s.sched := rfl
@[simp] theorem State.modCan_tracks (c : Nat) (f : CanPort → CanPort) (s : State) :
    (State.modCan c f s).tracks = s.tracks := rfl
@[simp] theorem State.modCan_tasks (c : Nat) (f : CanPort → CanPort) (s : State) :
    (State.modCan c f s).tasks = s.tasks := rfl
@[simp] theorem State.modCan_machines (c : Nat) (f : CanPort → CanPort) (s : State) :
    (State.modCan c f s).machines = s.machines := rfl
@[simp] theorem State.modCan_pipe (c : Nat) (f : CanPort → CanPort) (s : State) :
    (State.modCan c f s).pipe = s.pipe := rfl
@[simp] theorem State.modCan_air (c : Nat) (f : CanPort → CanPort) (s : State) :
    (State.modCan c f s).air = s.air := rfl
@[simp] theorem State.modCan_corr (c : Nat) (f : CanPort → CanPort) (s : State) :
    (State.modCan c f s).corr = s.corr := rfl
@[simp] theorem State.modCan_gnss (c : Nat) (f : CanPort → CanPort) (s : State) :
    (State.modCan c f s).gnss = s.gnss := rfl
@[simp] theorem State.modCan_meter (c : Nat) (f : CanPort → CanPort) (s : State) :
    (State.modCan c f s).meter = s.meter := rfl

/-! ### State.modPort -/

@[simp] theorem State.modPort_pending (n : Nat) (f : AirPort → AirPort) (s : State) :
    (State.modPort n f s).pending = s.pending := rfl
@[simp] theorem State.modPort_out (n : Nat) (f : AirPort → AirPort) (s : State) :
    (State.modPort n f s).out = s.out := rfl
@[simp] theorem State.modPort_counters (n : Nat) (f : AirPort → AirPort) (s : State) :
    (State.modPort n f s).counters = s.counters := rfl
@[simp] theorem State.modPort_settings (n : Nat) (f : AirPort → AirPort) (s : State) :
    (State.modPort n f s).settings = s.settings := rfl
@[simp] theorem State.modPort_effective (n : Nat) (f : AirPort → AirPort) (s : State) :
    (State.modPort n f s).effective = s.effective := rfl
@[simp] theorem State.modPort_shown (n : Nat) (f : AirPort → AirPort) (s : State) :
    (State.modPort n f s).shown = s.shown := rfl
@[simp] theorem State.modPort_rcd (n : Nat) (f : AirPort → AirPort) (s : State) :
    (State.modPort n f s).rcd = s.rcd := rfl
@[simp] theorem State.modPort_time (n : Nat) (f : AirPort → AirPort) (s : State) :
    (State.modPort n f s).time = s.time := rfl
@[simp] theorem State.modPort_ptp (n : Nat) (f : AirPort → AirPort) (s : State) :
    (State.modPort n f s).ptp = s.ptp := rfl
@[simp] theorem State.modPort_dict (n : Nat) (f : AirPort → AirPort) (s : State) :
    (State.modPort n f s).dict = s.dict := rfl
@[simp] theorem State.modPort_upd (n : Nat) (f : AirPort → AirPort) (s : State) :
    (State.modPort n f s).upd = s.upd := rfl
@[simp] theorem State.modPort_bg (n : Nat) (f : AirPort → AirPort) (s : State) :
    (State.modPort n f s).bg = s.bg := rfl
@[simp] theorem State.modPort_power (n : Nat) (f : AirPort → AirPort) (s : State) :
    (State.modPort n f s).power = s.power := rfl
@[simp] theorem State.modPort_sec (n : Nat) (f : AirPort → AirPort) (s : State) :
    (State.modPort n f s).sec = s.sec := rfl
@[simp] theorem State.modPort_freeCount (n : Nat) (f : AirPort → AirPort) (s : State) :
    (State.modPort n f s).freeCount = s.freeCount := rfl
@[simp] theorem State.modPort_ingest (n : Nat) (f : AirPort → AirPort) (s : State) :
    (State.modPort n f s).ingest = s.ingest := rfl
@[simp] theorem State.modPort_stop (n : Nat) (f : AirPort → AirPort) (s : State) :
    (State.modPort n f s).stop = s.stop := rfl
@[simp] theorem State.modPort_axes (n : Nat) (f : AirPort → AirPort) (s : State) :
    (State.modPort n f s).axes = s.axes := rfl
@[simp] theorem State.modPort_pair (n : Nat) (f : AirPort → AirPort) (s : State) :
    (State.modPort n f s).pair = s.pair := rfl
@[simp] theorem State.modPort_net (n : Nat) (f : AirPort → AirPort) (s : State) :
    (State.modPort n f s).net = s.net := rfl
@[simp] theorem State.modPort_sched (n : Nat) (f : AirPort → AirPort) (s : State) :
    (State.modPort n f s).sched = s.sched := rfl
@[simp] theorem State.modPort_tracks (n : Nat) (f : AirPort → AirPort) (s : State) :
    (State.modPort n f s).tracks = s.tracks := rfl
@[simp] theorem State.modPort_tasks (n : Nat) (f : AirPort → AirPort) (s : State) :
    (State.modPort n f s).tasks = s.tasks := rfl
@[simp] theorem State.modPort_machines (n : Nat) (f : AirPort → AirPort) (s : State) :
    (State.modPort n f s).machines = s.machines := rfl
@[simp] theorem State.modPort_pipe (n : Nat) (f : AirPort → AirPort) (s : State) :
    (State.modPort n f s).pipe = s.pipe := rfl
@[simp] theorem State.modPort_corr (n : Nat) (f : AirPort → AirPort) (s : State) :
    (State.modPort n f s).corr = s.corr := rfl
@[simp] theorem State.modPort_gnss (n : Nat) (f : AirPort → AirPort) (s : State) :
    (State.modPort n f s).gnss = s.gnss := rfl
@[simp] theorem State.modPort_meter (n : Nat) (f : AirPort → AirPort) (s : State) :
    (State.modPort n f s).meter = s.meter := rfl

/-! ### State.modChain -/

@[simp] theorem State.modChain_pending (c : Nat) (f : Chain → Chain) (s : State) :
    (State.modChain c f s).pending = s.pending := rfl
@[simp] theorem State.modChain_out (c : Nat) (f : Chain → Chain) (s : State) :
    (State.modChain c f s).out = s.out := rfl
@[simp] theorem State.modChain_counters (c : Nat) (f : Chain → Chain) (s : State) :
    (State.modChain c f s).counters = s.counters := rfl
@[simp] theorem State.modChain_settings (c : Nat) (f : Chain → Chain) (s : State) :
    (State.modChain c f s).settings = s.settings := rfl
@[simp] theorem State.modChain_effective (c : Nat) (f : Chain → Chain) (s : State) :
    (State.modChain c f s).effective = s.effective := rfl
@[simp] theorem State.modChain_shown (c : Nat) (f : Chain → Chain) (s : State) :
    (State.modChain c f s).shown = s.shown := rfl
@[simp] theorem State.modChain_rcd (c : Nat) (f : Chain → Chain) (s : State) :
    (State.modChain c f s).rcd = s.rcd := rfl
@[simp] theorem State.modChain_time (c : Nat) (f : Chain → Chain) (s : State) :
    (State.modChain c f s).time = s.time := rfl
@[simp] theorem State.modChain_ptp (c : Nat) (f : Chain → Chain) (s : State) :
    (State.modChain c f s).ptp = s.ptp := rfl
@[simp] theorem State.modChain_dict (c : Nat) (f : Chain → Chain) (s : State) :
    (State.modChain c f s).dict = s.dict := rfl
@[simp] theorem State.modChain_upd (c : Nat) (f : Chain → Chain) (s : State) :
    (State.modChain c f s).upd = s.upd := rfl
@[simp] theorem State.modChain_bg (c : Nat) (f : Chain → Chain) (s : State) :
    (State.modChain c f s).bg = s.bg := rfl
@[simp] theorem State.modChain_power (c : Nat) (f : Chain → Chain) (s : State) :
    (State.modChain c f s).power = s.power := rfl
@[simp] theorem State.modChain_sec (c : Nat) (f : Chain → Chain) (s : State) :
    (State.modChain c f s).sec = s.sec := rfl
@[simp] theorem State.modChain_freeCount (c : Nat) (f : Chain → Chain) (s : State) :
    (State.modChain c f s).freeCount = s.freeCount := rfl
@[simp] theorem State.modChain_ingest (c : Nat) (f : Chain → Chain) (s : State) :
    (State.modChain c f s).ingest = s.ingest := rfl
@[simp] theorem State.modChain_stop (c : Nat) (f : Chain → Chain) (s : State) :
    (State.modChain c f s).stop = s.stop := rfl
@[simp] theorem State.modChain_axes (c : Nat) (f : Chain → Chain) (s : State) :
    (State.modChain c f s).axes = s.axes := rfl
@[simp] theorem State.modChain_pair (c : Nat) (f : Chain → Chain) (s : State) :
    (State.modChain c f s).pair = s.pair := rfl
@[simp] theorem State.modChain_net (c : Nat) (f : Chain → Chain) (s : State) :
    (State.modChain c f s).net = s.net := rfl
@[simp] theorem State.modChain_sched (c : Nat) (f : Chain → Chain) (s : State) :
    (State.modChain c f s).sched = s.sched := rfl
@[simp] theorem State.modChain_tracks (c : Nat) (f : Chain → Chain) (s : State) :
    (State.modChain c f s).tracks = s.tracks := rfl
@[simp] theorem State.modChain_tasks (c : Nat) (f : Chain → Chain) (s : State) :
    (State.modChain c f s).tasks = s.tasks := rfl
@[simp] theorem State.modChain_machines (c : Nat) (f : Chain → Chain) (s : State) :
    (State.modChain c f s).machines = s.machines := rfl
@[simp] theorem State.modChain_pipe (c : Nat) (f : Chain → Chain) (s : State) :
    (State.modChain c f s).pipe = s.pipe := rfl
@[simp] theorem State.modChain_air (c : Nat) (f : Chain → Chain) (s : State) :
    (State.modChain c f s).air = s.air := rfl
@[simp] theorem State.modChain_corr (c : Nat) (f : Chain → Chain) (s : State) :
    (State.modChain c f s).corr = s.corr := rfl
@[simp] theorem State.modChain_meter (c : Nat) (f : Chain → Chain) (s : State) :
    (State.modChain c f s).meter = s.meter := rfl

/-! ### State.modAnt -/

@[simp] theorem State.modAnt_pending (p : Nat) (f : AntPort → AntPort) (s : State) :
    (State.modAnt p f s).pending = s.pending := rfl
@[simp] theorem State.modAnt_out (p : Nat) (f : AntPort → AntPort) (s : State) :
    (State.modAnt p f s).out = s.out := rfl
@[simp] theorem State.modAnt_counters (p : Nat) (f : AntPort → AntPort) (s : State) :
    (State.modAnt p f s).counters = s.counters := rfl
@[simp] theorem State.modAnt_settings (p : Nat) (f : AntPort → AntPort) (s : State) :
    (State.modAnt p f s).settings = s.settings := rfl
@[simp] theorem State.modAnt_effective (p : Nat) (f : AntPort → AntPort) (s : State) :
    (State.modAnt p f s).effective = s.effective := rfl
@[simp] theorem State.modAnt_shown (p : Nat) (f : AntPort → AntPort) (s : State) :
    (State.modAnt p f s).shown = s.shown := rfl
@[simp] theorem State.modAnt_rcd (p : Nat) (f : AntPort → AntPort) (s : State) :
    (State.modAnt p f s).rcd = s.rcd := rfl
@[simp] theorem State.modAnt_time (p : Nat) (f : AntPort → AntPort) (s : State) :
    (State.modAnt p f s).time = s.time := rfl
@[simp] theorem State.modAnt_ptp (p : Nat) (f : AntPort → AntPort) (s : State) :
    (State.modAnt p f s).ptp = s.ptp := rfl
@[simp] theorem State.modAnt_dict (p : Nat) (f : AntPort → AntPort) (s : State) :
    (State.modAnt p f s).dict = s.dict := rfl
@[simp] theorem State.modAnt_upd (p : Nat) (f : AntPort → AntPort) (s : State) :
    (State.modAnt p f s).upd = s.upd := rfl
@[simp] theorem State.modAnt_bg (p : Nat) (f : AntPort → AntPort) (s : State) :
    (State.modAnt p f s).bg = s.bg := rfl
@[simp] theorem State.modAnt_power (p : Nat) (f : AntPort → AntPort) (s : State) :
    (State.modAnt p f s).power = s.power := rfl
@[simp] theorem State.modAnt_sec (p : Nat) (f : AntPort → AntPort) (s : State) :
    (State.modAnt p f s).sec = s.sec := rfl
@[simp] theorem State.modAnt_freeCount (p : Nat) (f : AntPort → AntPort) (s : State) :
    (State.modAnt p f s).freeCount = s.freeCount := rfl
@[simp] theorem State.modAnt_ingest (p : Nat) (f : AntPort → AntPort) (s : State) :
    (State.modAnt p f s).ingest = s.ingest := rfl
@[simp] theorem State.modAnt_stop (p : Nat) (f : AntPort → AntPort) (s : State) :
    (State.modAnt p f s).stop = s.stop := rfl
@[simp] theorem State.modAnt_axes (p : Nat) (f : AntPort → AntPort) (s : State) :
    (State.modAnt p f s).axes = s.axes := rfl
@[simp] theorem State.modAnt_pair (p : Nat) (f : AntPort → AntPort) (s : State) :
    (State.modAnt p f s).pair = s.pair := rfl
@[simp] theorem State.modAnt_net (p : Nat) (f : AntPort → AntPort) (s : State) :
    (State.modAnt p f s).net = s.net := rfl
@[simp] theorem State.modAnt_sched (p : Nat) (f : AntPort → AntPort) (s : State) :
    (State.modAnt p f s).sched = s.sched := rfl
@[simp] theorem State.modAnt_tracks (p : Nat) (f : AntPort → AntPort) (s : State) :
    (State.modAnt p f s).tracks = s.tracks := rfl
@[simp] theorem State.modAnt_tasks (p : Nat) (f : AntPort → AntPort) (s : State) :
    (State.modAnt p f s).tasks = s.tasks := rfl
@[simp] theorem State.modAnt_machines (p : Nat) (f : AntPort → AntPort) (s : State) :
    (State.modAnt p f s).machines = s.machines := rfl
@[simp] theorem State.modAnt_pipe (p : Nat) (f : AntPort → AntPort) (s : State) :
    (State.modAnt p f s).pipe = s.pipe := rfl
@[simp] theorem State.modAnt_air (p : Nat) (f : AntPort → AntPort) (s : State) :
    (State.modAnt p f s).air = s.air := rfl
@[simp] theorem State.modAnt_corr (p : Nat) (f : AntPort → AntPort) (s : State) :
    (State.modAnt p f s).corr = s.corr := rfl
@[simp] theorem State.modAnt_meter (p : Nat) (f : AntPort → AntPort) (s : State) :
    (State.modAnt p f s).meter = s.meter := rfl

/-! ### State.modTally -/

@[simp] theorem State.modTally_pending (k : Nat) (f : Tally → Tally) (s : State) :
    (State.modTally k f s).pending = s.pending := rfl
@[simp] theorem State.modTally_out (k : Nat) (f : Tally → Tally) (s : State) :
    (State.modTally k f s).out = s.out := rfl
@[simp] theorem State.modTally_counters (k : Nat) (f : Tally → Tally) (s : State) :
    (State.modTally k f s).counters = s.counters := rfl
@[simp] theorem State.modTally_settings (k : Nat) (f : Tally → Tally) (s : State) :
    (State.modTally k f s).settings = s.settings := rfl
@[simp] theorem State.modTally_effective (k : Nat) (f : Tally → Tally) (s : State) :
    (State.modTally k f s).effective = s.effective := rfl
@[simp] theorem State.modTally_shown (k : Nat) (f : Tally → Tally) (s : State) :
    (State.modTally k f s).shown = s.shown := rfl
@[simp] theorem State.modTally_rcd (k : Nat) (f : Tally → Tally) (s : State) :
    (State.modTally k f s).rcd = s.rcd := rfl
@[simp] theorem State.modTally_time (k : Nat) (f : Tally → Tally) (s : State) :
    (State.modTally k f s).time = s.time := rfl
@[simp] theorem State.modTally_ptp (k : Nat) (f : Tally → Tally) (s : State) :
    (State.modTally k f s).ptp = s.ptp := rfl
@[simp] theorem State.modTally_dict (k : Nat) (f : Tally → Tally) (s : State) :
    (State.modTally k f s).dict = s.dict := rfl
@[simp] theorem State.modTally_upd (k : Nat) (f : Tally → Tally) (s : State) :
    (State.modTally k f s).upd = s.upd := rfl
@[simp] theorem State.modTally_bg (k : Nat) (f : Tally → Tally) (s : State) :
    (State.modTally k f s).bg = s.bg := rfl
@[simp] theorem State.modTally_power (k : Nat) (f : Tally → Tally) (s : State) :
    (State.modTally k f s).power = s.power := rfl
@[simp] theorem State.modTally_sec (k : Nat) (f : Tally → Tally) (s : State) :
    (State.modTally k f s).sec = s.sec := rfl
@[simp] theorem State.modTally_freeCount (k : Nat) (f : Tally → Tally) (s : State) :
    (State.modTally k f s).freeCount = s.freeCount := rfl
@[simp] theorem State.modTally_ingest (k : Nat) (f : Tally → Tally) (s : State) :
    (State.modTally k f s).ingest = s.ingest := rfl
@[simp] theorem State.modTally_stop (k : Nat) (f : Tally → Tally) (s : State) :
    (State.modTally k f s).stop = s.stop := rfl
@[simp] theorem State.modTally_axes (k : Nat) (f : Tally → Tally) (s : State) :
    (State.modTally k f s).axes = s.axes := rfl
@[simp] theorem State.modTally_pair (k : Nat) (f : Tally → Tally) (s : State) :
    (State.modTally k f s).pair = s.pair := rfl
@[simp] theorem State.modTally_net (k : Nat) (f : Tally → Tally) (s : State) :
    (State.modTally k f s).net = s.net := rfl
@[simp] theorem State.modTally_sched (k : Nat) (f : Tally → Tally) (s : State) :
    (State.modTally k f s).sched = s.sched := rfl
@[simp] theorem State.modTally_tracks (k : Nat) (f : Tally → Tally) (s : State) :
    (State.modTally k f s).tracks = s.tracks := rfl
@[simp] theorem State.modTally_tasks (k : Nat) (f : Tally → Tally) (s : State) :
    (State.modTally k f s).tasks = s.tasks := rfl
@[simp] theorem State.modTally_machines (k : Nat) (f : Tally → Tally) (s : State) :
    (State.modTally k f s).machines = s.machines := rfl
@[simp] theorem State.modTally_pipe (k : Nat) (f : Tally → Tally) (s : State) :
    (State.modTally k f s).pipe = s.pipe := rfl
@[simp] theorem State.modTally_air (k : Nat) (f : Tally → Tally) (s : State) :
    (State.modTally k f s).air = s.air := rfl
@[simp] theorem State.modTally_corr (k : Nat) (f : Tally → Tally) (s : State) :
    (State.modTally k f s).corr = s.corr := rfl
@[simp] theorem State.modTally_gnss (k : Nat) (f : Tally → Tally) (s : State) :
    (State.modTally k f s).gnss = s.gnss := rfl

/-! ### State.modMains -/

@[simp] theorem State.modMains_pending (k : Nat) (f : Mains → Mains) (s : State) :
    (State.modMains k f s).pending = s.pending := rfl
@[simp] theorem State.modMains_out (k : Nat) (f : Mains → Mains) (s : State) :
    (State.modMains k f s).out = s.out := rfl
@[simp] theorem State.modMains_counters (k : Nat) (f : Mains → Mains) (s : State) :
    (State.modMains k f s).counters = s.counters := rfl
@[simp] theorem State.modMains_settings (k : Nat) (f : Mains → Mains) (s : State) :
    (State.modMains k f s).settings = s.settings := rfl
@[simp] theorem State.modMains_effective (k : Nat) (f : Mains → Mains) (s : State) :
    (State.modMains k f s).effective = s.effective := rfl
@[simp] theorem State.modMains_shown (k : Nat) (f : Mains → Mains) (s : State) :
    (State.modMains k f s).shown = s.shown := rfl
@[simp] theorem State.modMains_rcd (k : Nat) (f : Mains → Mains) (s : State) :
    (State.modMains k f s).rcd = s.rcd := rfl
@[simp] theorem State.modMains_time (k : Nat) (f : Mains → Mains) (s : State) :
    (State.modMains k f s).time = s.time := rfl
@[simp] theorem State.modMains_ptp (k : Nat) (f : Mains → Mains) (s : State) :
    (State.modMains k f s).ptp = s.ptp := rfl
@[simp] theorem State.modMains_dict (k : Nat) (f : Mains → Mains) (s : State) :
    (State.modMains k f s).dict = s.dict := rfl
@[simp] theorem State.modMains_upd (k : Nat) (f : Mains → Mains) (s : State) :
    (State.modMains k f s).upd = s.upd := rfl
@[simp] theorem State.modMains_bg (k : Nat) (f : Mains → Mains) (s : State) :
    (State.modMains k f s).bg = s.bg := rfl
@[simp] theorem State.modMains_power (k : Nat) (f : Mains → Mains) (s : State) :
    (State.modMains k f s).power = s.power := rfl
@[simp] theorem State.modMains_sec (k : Nat) (f : Mains → Mains) (s : State) :
    (State.modMains k f s).sec = s.sec := rfl
@[simp] theorem State.modMains_freeCount (k : Nat) (f : Mains → Mains) (s : State) :
    (State.modMains k f s).freeCount = s.freeCount := rfl
@[simp] theorem State.modMains_ingest (k : Nat) (f : Mains → Mains) (s : State) :
    (State.modMains k f s).ingest = s.ingest := rfl
@[simp] theorem State.modMains_stop (k : Nat) (f : Mains → Mains) (s : State) :
    (State.modMains k f s).stop = s.stop := rfl
@[simp] theorem State.modMains_axes (k : Nat) (f : Mains → Mains) (s : State) :
    (State.modMains k f s).axes = s.axes := rfl
@[simp] theorem State.modMains_pair (k : Nat) (f : Mains → Mains) (s : State) :
    (State.modMains k f s).pair = s.pair := rfl
@[simp] theorem State.modMains_net (k : Nat) (f : Mains → Mains) (s : State) :
    (State.modMains k f s).net = s.net := rfl
@[simp] theorem State.modMains_sched (k : Nat) (f : Mains → Mains) (s : State) :
    (State.modMains k f s).sched = s.sched := rfl
@[simp] theorem State.modMains_tracks (k : Nat) (f : Mains → Mains) (s : State) :
    (State.modMains k f s).tracks = s.tracks := rfl
@[simp] theorem State.modMains_tasks (k : Nat) (f : Mains → Mains) (s : State) :
    (State.modMains k f s).tasks = s.tasks := rfl
@[simp] theorem State.modMains_machines (k : Nat) (f : Mains → Mains) (s : State) :
    (State.modMains k f s).machines = s.machines := rfl
@[simp] theorem State.modMains_pipe (k : Nat) (f : Mains → Mains) (s : State) :
    (State.modMains k f s).pipe = s.pipe := rfl
@[simp] theorem State.modMains_air (k : Nat) (f : Mains → Mains) (s : State) :
    (State.modMains k f s).air = s.air := rfl
@[simp] theorem State.modMains_corr (k : Nat) (f : Mains → Mains) (s : State) :
    (State.modMains k f s).corr = s.corr := rfl
@[simp] theorem State.modMains_gnss (k : Nat) (f : Mains → Mains) (s : State) :
    (State.modMains k f s).gnss = s.gnss := rfl

/-! ### State.modSession -/

@[simp] theorem State.modSession_pending (n : Nat) (f : Session → Session) (s : State) :
    (State.modSession n f s).pending = s.pending := rfl
@[simp] theorem State.modSession_out (n : Nat) (f : Session → Session) (s : State) :
    (State.modSession n f s).out = s.out := rfl
@[simp] theorem State.modSession_counters (n : Nat) (f : Session → Session) (s : State) :
    (State.modSession n f s).counters = s.counters := rfl
@[simp] theorem State.modSession_settings (n : Nat) (f : Session → Session) (s : State) :
    (State.modSession n f s).settings = s.settings := rfl
@[simp] theorem State.modSession_effective (n : Nat) (f : Session → Session) (s : State) :
    (State.modSession n f s).effective = s.effective := rfl
@[simp] theorem State.modSession_shown (n : Nat) (f : Session → Session) (s : State) :
    (State.modSession n f s).shown = s.shown := rfl
@[simp] theorem State.modSession_rcd (n : Nat) (f : Session → Session) (s : State) :
    (State.modSession n f s).rcd = s.rcd := rfl
@[simp] theorem State.modSession_time (n : Nat) (f : Session → Session) (s : State) :
    (State.modSession n f s).time = s.time := rfl
@[simp] theorem State.modSession_ptp (n : Nat) (f : Session → Session) (s : State) :
    (State.modSession n f s).ptp = s.ptp := rfl
@[simp] theorem State.modSession_upd (n : Nat) (f : Session → Session) (s : State) :
    (State.modSession n f s).upd = s.upd := rfl
@[simp] theorem State.modSession_bg (n : Nat) (f : Session → Session) (s : State) :
    (State.modSession n f s).bg = s.bg := rfl
@[simp] theorem State.modSession_power (n : Nat) (f : Session → Session) (s : State) :
    (State.modSession n f s).power = s.power := rfl
@[simp] theorem State.modSession_sec (n : Nat) (f : Session → Session) (s : State) :
    (State.modSession n f s).sec = s.sec := rfl
@[simp] theorem State.modSession_freeCount (n : Nat) (f : Session → Session) (s : State) :
    (State.modSession n f s).freeCount = s.freeCount := rfl
@[simp] theorem State.modSession_ingest (n : Nat) (f : Session → Session) (s : State) :
    (State.modSession n f s).ingest = s.ingest := rfl
@[simp] theorem State.modSession_stop (n : Nat) (f : Session → Session) (s : State) :
    (State.modSession n f s).stop = s.stop := rfl
@[simp] theorem State.modSession_axes (n : Nat) (f : Session → Session) (s : State) :
    (State.modSession n f s).axes = s.axes := rfl
@[simp] theorem State.modSession_pair (n : Nat) (f : Session → Session) (s : State) :
    (State.modSession n f s).pair = s.pair := rfl
@[simp] theorem State.modSession_net (n : Nat) (f : Session → Session) (s : State) :
    (State.modSession n f s).net = s.net := rfl
@[simp] theorem State.modSession_sched (n : Nat) (f : Session → Session) (s : State) :
    (State.modSession n f s).sched = s.sched := rfl
@[simp] theorem State.modSession_tracks (n : Nat) (f : Session → Session) (s : State) :
    (State.modSession n f s).tracks = s.tracks := rfl
@[simp] theorem State.modSession_tasks (n : Nat) (f : Session → Session) (s : State) :
    (State.modSession n f s).tasks = s.tasks := rfl
@[simp] theorem State.modSession_machines (n : Nat) (f : Session → Session) (s : State) :
    (State.modSession n f s).machines = s.machines := rfl
@[simp] theorem State.modSession_pipe (n : Nat) (f : Session → Session) (s : State) :
    (State.modSession n f s).pipe = s.pipe := rfl
@[simp] theorem State.modSession_air (n : Nat) (f : Session → Session) (s : State) :
    (State.modSession n f s).air = s.air := rfl
@[simp] theorem State.modSession_corr (n : Nat) (f : Session → Session) (s : State) :
    (State.modSession n f s).corr = s.corr := rfl
@[simp] theorem State.modSession_gnss (n : Nat) (f : Session → Session) (s : State) :
    (State.modSession n f s).gnss = s.gnss := rfl
@[simp] theorem State.modSession_meter (n : Nat) (f : Session → Session) (s : State) :
    (State.modSession n f s).meter = s.meter := rfl

/-! ### State.modCanDict -/

@[simp] theorem State.modCanDict_pending (c : Nat) (f : CanDict → CanDict) (s : State) :
    (State.modCanDict c f s).pending = s.pending := rfl
@[simp] theorem State.modCanDict_out (c : Nat) (f : CanDict → CanDict) (s : State) :
    (State.modCanDict c f s).out = s.out := rfl
@[simp] theorem State.modCanDict_counters (c : Nat) (f : CanDict → CanDict) (s : State) :
    (State.modCanDict c f s).counters = s.counters := rfl
@[simp] theorem State.modCanDict_settings (c : Nat) (f : CanDict → CanDict) (s : State) :
    (State.modCanDict c f s).settings = s.settings := rfl
@[simp] theorem State.modCanDict_effective (c : Nat) (f : CanDict → CanDict) (s : State) :
    (State.modCanDict c f s).effective = s.effective := rfl
@[simp] theorem State.modCanDict_shown (c : Nat) (f : CanDict → CanDict) (s : State) :
    (State.modCanDict c f s).shown = s.shown := rfl
@[simp] theorem State.modCanDict_rcd (c : Nat) (f : CanDict → CanDict) (s : State) :
    (State.modCanDict c f s).rcd = s.rcd := rfl
@[simp] theorem State.modCanDict_time (c : Nat) (f : CanDict → CanDict) (s : State) :
    (State.modCanDict c f s).time = s.time := rfl
@[simp] theorem State.modCanDict_ptp (c : Nat) (f : CanDict → CanDict) (s : State) :
    (State.modCanDict c f s).ptp = s.ptp := rfl
@[simp] theorem State.modCanDict_upd (c : Nat) (f : CanDict → CanDict) (s : State) :
    (State.modCanDict c f s).upd = s.upd := rfl
@[simp] theorem State.modCanDict_bg (c : Nat) (f : CanDict → CanDict) (s : State) :
    (State.modCanDict c f s).bg = s.bg := rfl
@[simp] theorem State.modCanDict_power (c : Nat) (f : CanDict → CanDict) (s : State) :
    (State.modCanDict c f s).power = s.power := rfl
@[simp] theorem State.modCanDict_sec (c : Nat) (f : CanDict → CanDict) (s : State) :
    (State.modCanDict c f s).sec = s.sec := rfl
@[simp] theorem State.modCanDict_freeCount (c : Nat) (f : CanDict → CanDict) (s : State) :
    (State.modCanDict c f s).freeCount = s.freeCount := rfl
@[simp] theorem State.modCanDict_ingest (c : Nat) (f : CanDict → CanDict) (s : State) :
    (State.modCanDict c f s).ingest = s.ingest := rfl
@[simp] theorem State.modCanDict_stop (c : Nat) (f : CanDict → CanDict) (s : State) :
    (State.modCanDict c f s).stop = s.stop := rfl
@[simp] theorem State.modCanDict_axes (c : Nat) (f : CanDict → CanDict) (s : State) :
    (State.modCanDict c f s).axes = s.axes := rfl
@[simp] theorem State.modCanDict_pair (c : Nat) (f : CanDict → CanDict) (s : State) :
    (State.modCanDict c f s).pair = s.pair := rfl
@[simp] theorem State.modCanDict_net (c : Nat) (f : CanDict → CanDict) (s : State) :
    (State.modCanDict c f s).net = s.net := rfl
@[simp] theorem State.modCanDict_sched (c : Nat) (f : CanDict → CanDict) (s : State) :
    (State.modCanDict c f s).sched = s.sched := rfl
@[simp] theorem State.modCanDict_tracks (c : Nat) (f : CanDict → CanDict) (s : State) :
    (State.modCanDict c f s).tracks = s.tracks := rfl
@[simp] theorem State.modCanDict_tasks (c : Nat) (f : CanDict → CanDict) (s : State) :
    (State.modCanDict c f s).tasks = s.tasks := rfl
@[simp] theorem State.modCanDict_machines (c : Nat) (f : CanDict → CanDict) (s : State) :
    (State.modCanDict c f s).machines = s.machines := rfl
@[simp] theorem State.modCanDict_pipe (c : Nat) (f : CanDict → CanDict) (s : State) :
    (State.modCanDict c f s).pipe = s.pipe := rfl
@[simp] theorem State.modCanDict_air (c : Nat) (f : CanDict → CanDict) (s : State) :
    (State.modCanDict c f s).air = s.air := rfl
@[simp] theorem State.modCanDict_corr (c : Nat) (f : CanDict → CanDict) (s : State) :
    (State.modCanDict c f s).corr = s.corr := rfl
@[simp] theorem State.modCanDict_gnss (c : Nat) (f : CanDict → CanDict) (s : State) :
    (State.modCanDict c f s).gnss = s.gnss := rfl
@[simp] theorem State.modCanDict_meter (c : Nat) (f : CanDict → CanDict) (s : State) :
    (State.modCanDict c f s).meter = s.meter := rfl

/-! ### State.modMachine -/

@[simp] theorem State.modMachine_pending (k : Nat) (f : Machine → Machine) (s : State) :
    (State.modMachine k f s).pending = s.pending := by
  unfold State.modMachine; split <;> rfl
@[simp] theorem State.modMachine_out (k : Nat) (f : Machine → Machine) (s : State) :
    (State.modMachine k f s).out = s.out := by
  unfold State.modMachine; split <;> rfl
@[simp] theorem State.modMachine_counters (k : Nat) (f : Machine → Machine) (s : State) :
    (State.modMachine k f s).counters = s.counters := by
  unfold State.modMachine; split <;> rfl
@[simp] theorem State.modMachine_settings (k : Nat) (f : Machine → Machine) (s : State) :
    (State.modMachine k f s).settings = s.settings := by
  unfold State.modMachine; split <;> rfl
@[simp] theorem State.modMachine_effective (k : Nat) (f : Machine → Machine) (s : State) :
    (State.modMachine k f s).effective = s.effective := by
  unfold State.modMachine; split <;> rfl
@[simp] theorem State.modMachine_shown (k : Nat) (f : Machine → Machine) (s : State) :
    (State.modMachine k f s).shown = s.shown := by
  unfold State.modMachine; split <;> rfl
@[simp] theorem State.modMachine_rcd (k : Nat) (f : Machine → Machine) (s : State) :
    (State.modMachine k f s).rcd = s.rcd := by
  unfold State.modMachine; split <;> rfl
@[simp] theorem State.modMachine_time (k : Nat) (f : Machine → Machine) (s : State) :
    (State.modMachine k f s).time = s.time := by
  unfold State.modMachine; split <;> rfl
@[simp] theorem State.modMachine_ptp (k : Nat) (f : Machine → Machine) (s : State) :
    (State.modMachine k f s).ptp = s.ptp := by
  unfold State.modMachine; split <;> rfl
@[simp] theorem State.modMachine_dict (k : Nat) (f : Machine → Machine) (s : State) :
    (State.modMachine k f s).dict = s.dict := by
  unfold State.modMachine; split <;> rfl
@[simp] theorem State.modMachine_upd (k : Nat) (f : Machine → Machine) (s : State) :
    (State.modMachine k f s).upd = s.upd := by
  unfold State.modMachine; split <;> rfl
@[simp] theorem State.modMachine_bg (k : Nat) (f : Machine → Machine) (s : State) :
    (State.modMachine k f s).bg = s.bg := by
  unfold State.modMachine; split <;> rfl
@[simp] theorem State.modMachine_power (k : Nat) (f : Machine → Machine) (s : State) :
    (State.modMachine k f s).power = s.power := by
  unfold State.modMachine; split <;> rfl
@[simp] theorem State.modMachine_sec (k : Nat) (f : Machine → Machine) (s : State) :
    (State.modMachine k f s).sec = s.sec := by
  unfold State.modMachine; split <;> rfl
@[simp] theorem State.modMachine_freeCount (k : Nat) (f : Machine → Machine) (s : State) :
    (State.modMachine k f s).freeCount = s.freeCount := by
  unfold State.modMachine; split <;> rfl
@[simp] theorem State.modMachine_ingest (k : Nat) (f : Machine → Machine) (s : State) :
    (State.modMachine k f s).ingest = s.ingest := by
  unfold State.modMachine; split <;> rfl
@[simp] theorem State.modMachine_stop (k : Nat) (f : Machine → Machine) (s : State) :
    (State.modMachine k f s).stop = s.stop := by
  unfold State.modMachine; split <;> rfl
@[simp] theorem State.modMachine_axes (k : Nat) (f : Machine → Machine) (s : State) :
    (State.modMachine k f s).axes = s.axes := by
  unfold State.modMachine; split <;> rfl
@[simp] theorem State.modMachine_pair (k : Nat) (f : Machine → Machine) (s : State) :
    (State.modMachine k f s).pair = s.pair := by
  unfold State.modMachine; split <;> rfl
@[simp] theorem State.modMachine_net (k : Nat) (f : Machine → Machine) (s : State) :
    (State.modMachine k f s).net = s.net := by
  unfold State.modMachine; split <;> rfl
@[simp] theorem State.modMachine_sched (k : Nat) (f : Machine → Machine) (s : State) :
    (State.modMachine k f s).sched = s.sched := by
  unfold State.modMachine; split <;> rfl
@[simp] theorem State.modMachine_tracks (k : Nat) (f : Machine → Machine) (s : State) :
    (State.modMachine k f s).tracks = s.tracks := by
  unfold State.modMachine; split <;> rfl
@[simp] theorem State.modMachine_tasks (k : Nat) (f : Machine → Machine) (s : State) :
    (State.modMachine k f s).tasks = s.tasks := by
  unfold State.modMachine; split <;> rfl
@[simp] theorem State.modMachine_pipe (k : Nat) (f : Machine → Machine) (s : State) :
    (State.modMachine k f s).pipe = s.pipe := by
  unfold State.modMachine; split <;> rfl
@[simp] theorem State.modMachine_air (k : Nat) (f : Machine → Machine) (s : State) :
    (State.modMachine k f s).air = s.air := by
  unfold State.modMachine; split <;> rfl
@[simp] theorem State.modMachine_corr (k : Nat) (f : Machine → Machine) (s : State) :
    (State.modMachine k f s).corr = s.corr := by
  unfold State.modMachine; split <;> rfl
@[simp] theorem State.modMachine_gnss (k : Nat) (f : Machine → Machine) (s : State) :
    (State.modMachine k f s).gnss = s.gnss := by
  unfold State.modMachine; split <;> rfl
@[simp] theorem State.modMachine_meter (k : Nat) (f : Machine → Machine) (s : State) :
    (State.modMachine k f s).meter = s.meter := by
  unfold State.modMachine; split <;> rfl

/-! ### State.modTask -/

@[simp] theorem State.modTask_pending (n : Nat) (f : Task → Task) (s : State) :
    (State.modTask n f s).pending = s.pending := rfl
@[simp] theorem State.modTask_out (n : Nat) (f : Task → Task) (s : State) :
    (State.modTask n f s).out = s.out := rfl
@[simp] theorem State.modTask_counters (n : Nat) (f : Task → Task) (s : State) :
    (State.modTask n f s).counters = s.counters := rfl
@[simp] theorem State.modTask_settings (n : Nat) (f : Task → Task) (s : State) :
    (State.modTask n f s).settings = s.settings := rfl
@[simp] theorem State.modTask_effective (n : Nat) (f : Task → Task) (s : State) :
    (State.modTask n f s).effective = s.effective := rfl
@[simp] theorem State.modTask_shown (n : Nat) (f : Task → Task) (s : State) :
    (State.modTask n f s).shown = s.shown := rfl
@[simp] theorem State.modTask_rcd (n : Nat) (f : Task → Task) (s : State) :
    (State.modTask n f s).rcd = s.rcd := rfl
@[simp] theorem State.modTask_time (n : Nat) (f : Task → Task) (s : State) :
    (State.modTask n f s).time = s.time := rfl
@[simp] theorem State.modTask_ptp (n : Nat) (f : Task → Task) (s : State) :
    (State.modTask n f s).ptp = s.ptp := rfl
@[simp] theorem State.modTask_dict (n : Nat) (f : Task → Task) (s : State) :
    (State.modTask n f s).dict = s.dict := rfl
@[simp] theorem State.modTask_upd (n : Nat) (f : Task → Task) (s : State) :
    (State.modTask n f s).upd = s.upd := rfl
@[simp] theorem State.modTask_bg (n : Nat) (f : Task → Task) (s : State) :
    (State.modTask n f s).bg = s.bg := rfl
@[simp] theorem State.modTask_power (n : Nat) (f : Task → Task) (s : State) :
    (State.modTask n f s).power = s.power := rfl
@[simp] theorem State.modTask_sec (n : Nat) (f : Task → Task) (s : State) :
    (State.modTask n f s).sec = s.sec := rfl
@[simp] theorem State.modTask_freeCount (n : Nat) (f : Task → Task) (s : State) :
    (State.modTask n f s).freeCount = s.freeCount := rfl
@[simp] theorem State.modTask_ingest (n : Nat) (f : Task → Task) (s : State) :
    (State.modTask n f s).ingest = s.ingest := rfl
@[simp] theorem State.modTask_stop (n : Nat) (f : Task → Task) (s : State) :
    (State.modTask n f s).stop = s.stop := rfl
@[simp] theorem State.modTask_axes (n : Nat) (f : Task → Task) (s : State) :
    (State.modTask n f s).axes = s.axes := rfl
@[simp] theorem State.modTask_pair (n : Nat) (f : Task → Task) (s : State) :
    (State.modTask n f s).pair = s.pair := rfl
@[simp] theorem State.modTask_net (n : Nat) (f : Task → Task) (s : State) :
    (State.modTask n f s).net = s.net := rfl
@[simp] theorem State.modTask_sched (n : Nat) (f : Task → Task) (s : State) :
    (State.modTask n f s).sched = s.sched := rfl
@[simp] theorem State.modTask_tracks (n : Nat) (f : Task → Task) (s : State) :
    (State.modTask n f s).tracks = s.tracks := rfl
@[simp] theorem State.modTask_machines (n : Nat) (f : Task → Task) (s : State) :
    (State.modTask n f s).machines = s.machines := rfl
@[simp] theorem State.modTask_pipe (n : Nat) (f : Task → Task) (s : State) :
    (State.modTask n f s).pipe = s.pipe := rfl
@[simp] theorem State.modTask_air (n : Nat) (f : Task → Task) (s : State) :
    (State.modTask n f s).air = s.air := rfl
@[simp] theorem State.modTask_corr (n : Nat) (f : Task → Task) (s : State) :
    (State.modTask n f s).corr = s.corr := rfl
@[simp] theorem State.modTask_gnss (n : Nat) (f : Task → Task) (s : State) :
    (State.modTask n f s).gnss = s.gnss := rfl
@[simp] theorem State.modTask_meter (n : Nat) (f : Task → Task) (s : State) :
    (State.modTask n f s).meter = s.meter := rfl

/-! ### State.withQueue -/

@[simp] theorem State.withQueue_out (l : List Instr) (s : State) :
    (State.withQueue l s).out = s.out := rfl
@[simp] theorem State.withQueue_counters (l : List Instr) (s : State) :
    (State.withQueue l s).counters = s.counters := rfl
@[simp] theorem State.withQueue_settings (l : List Instr) (s : State) :
    (State.withQueue l s).settings = s.settings := rfl
@[simp] theorem State.withQueue_effective (l : List Instr) (s : State) :
    (State.withQueue l s).effective = s.effective := rfl
@[simp] theorem State.withQueue_shown (l : List Instr) (s : State) :
    (State.withQueue l s).shown = s.shown := rfl
@[simp] theorem State.withQueue_rcd (l : List Instr) (s : State) :
    (State.withQueue l s).rcd = s.rcd := rfl
@[simp] theorem State.withQueue_time (l : List Instr) (s : State) :
    (State.withQueue l s).time = s.time := rfl
@[simp] theorem State.withQueue_ptp (l : List Instr) (s : State) :
    (State.withQueue l s).ptp = s.ptp := rfl
@[simp] theorem State.withQueue_dict (l : List Instr) (s : State) :
    (State.withQueue l s).dict = s.dict := rfl
@[simp] theorem State.withQueue_upd (l : List Instr) (s : State) :
    (State.withQueue l s).upd = s.upd := rfl
@[simp] theorem State.withQueue_bg (l : List Instr) (s : State) :
    (State.withQueue l s).bg = s.bg := rfl
@[simp] theorem State.withQueue_power (l : List Instr) (s : State) :
    (State.withQueue l s).power = s.power := rfl
@[simp] theorem State.withQueue_sec (l : List Instr) (s : State) :
    (State.withQueue l s).sec = s.sec := rfl
@[simp] theorem State.withQueue_freeCount (l : List Instr) (s : State) :
    (State.withQueue l s).freeCount = s.freeCount := rfl
@[simp] theorem State.withQueue_ingest (l : List Instr) (s : State) :
    (State.withQueue l s).ingest = s.ingest := rfl
@[simp] theorem State.withQueue_stop (l : List Instr) (s : State) :
    (State.withQueue l s).stop = s.stop := rfl
@[simp] theorem State.withQueue_axes (l : List Instr) (s : State) :
    (State.withQueue l s).axes = s.axes := rfl
@[simp] theorem State.withQueue_pair (l : List Instr) (s : State) :
    (State.withQueue l s).pair = s.pair := rfl
@[simp] theorem State.withQueue_net (l : List Instr) (s : State) :
    (State.withQueue l s).net = s.net := rfl
@[simp] theorem State.withQueue_sched (l : List Instr) (s : State) :
    (State.withQueue l s).sched = s.sched := rfl
@[simp] theorem State.withQueue_tracks (l : List Instr) (s : State) :
    (State.withQueue l s).tracks = s.tracks := rfl
@[simp] theorem State.withQueue_tasks (l : List Instr) (s : State) :
    (State.withQueue l s).tasks = s.tasks := rfl
@[simp] theorem State.withQueue_machines (l : List Instr) (s : State) :
    (State.withQueue l s).machines = s.machines := rfl
@[simp] theorem State.withQueue_pipe (l : List Instr) (s : State) :
    (State.withQueue l s).pipe = s.pipe := rfl
@[simp] theorem State.withQueue_air (l : List Instr) (s : State) :
    (State.withQueue l s).air = s.air := rfl
@[simp] theorem State.withQueue_corr (l : List Instr) (s : State) :
    (State.withQueue l s).corr = s.corr := rfl
@[simp] theorem State.withQueue_gnss (l : List Instr) (s : State) :
    (State.withQueue l s).gnss = s.gnss := rfl
@[simp] theorem State.withQueue_meter (l : List Instr) (s : State) :
    (State.withQueue l s).meter = s.meter := rfl

/-! ### The field that an operation writes -/

@[simp] theorem State.setCfg_settings (o : Nat) (v : Val) (s : State) :
    (State.setCfg o v s).settings = SMap.put Catalog.dflt o v s.settings := rfl
@[simp] theorem State.setShown_shown (o : Nat) (v : Val) (s : State) :
    (State.setShown o v s).shown = SMap.put Catalog.dflt o v s.shown := rfl
@[simp] theorem State.show_shown (o : Nat) (n : Int) (s : State) :
    (State.show o n s).shown = SMap.put Catalog.dflt o (.num n) s.shown := rfl
@[simp] theorem State.countN_counters (o n : Nat) (s : State) : (State.countN o n s).counters = bump o n s.counters := rfl
@[simp] theorem State.count_counters (o : Nat) (s : State) : (State.count o s).counters = bump o 1 s.counters := rfl
@[simp] theorem State.emit_out (o : Out) (s : State) : (State.emit o s).out = o :: s.out := rfl
@[simp] theorem State.answer_out (w : Writer) (obj code : Nat) (s : State) :
    (State.answer w obj code s).out = .answer w.port.val w.sess.val obj code :: s.out := rfl
@[simp] theorem State.withQueue_pending (l : List Instr) (s : State) : (State.withQueue l s).pending = l := rfl
@[simp] theorem State.drawn_freeCount (s : State) : s.drawn.freeCount = s.freeCount + 1 := rfl
@[simp] theorem State.modAxis_axes (n : Nat) (f : Axis → Axis) (s : State) :
    (State.modAxis n f s).axes = modAt s.axes n f := rfl

/-! ### Control -/

@[simp] theorem when_true (f : State → State) (s : State) : when true f s = f s := rfl
@[simp] theorem when_false (f : State → State) (s : State) : when false f s = s := rfl
@[simp] theorem each_nil {α : Type} (f : α → State → State) (s : State) : each [] f s = s := rfl
@[simp] theorem each_cons {α : Type} (a : α) (l : List α) (f : α → State → State) (s : State) :
    each (a :: l) f s = each l f (f a s) := rfl

/-- What a change keeps, it keeps under a condition. -/
theorem when_keeps {β : Type} (g : State → β) (b : Bool) (f : State → State) (s : State) (h : g (f s) = g s) :
    g (when b f s) = g s := by
  cases b <;> simp [h]

/-- What every change of a list keeps, the whole list keeps. -/
theorem each_keeps {α β : Type} (g : State → β) (f : α → State → State) (h : ∀ a s, g (f a s) = g s) (l : List α) :
    ∀ s, g (each l f s) = g s := by
  induction l with
  | nil => intro s; rfl
  | cons a l ih => intro s; rw [each_cons, ih, h]

/-- A property that every change of a list keeps holds after the whole list. -/
theorem each_holds {α : Type} (p : State → Prop) (f : α → State → State) (h : ∀ a s, p s → p (f a s)) (l : List α) :
    ∀ s, p s → p (each l f s) := by
  induction l with
  | nil => intro s hs; exact hs
  | cons a l ih => intro s hs; exact ih _ (h a s hs)

end Sys2Proof.Machine
end

