-- ==== Sys2Proof/Laws/Ops.lean ====
section
/-!
SUPPORT. What each operation that several families share can do, said once: the fields it may write, and what the fields
hold that a caller relies on. A caller cites these instead of unfolding the operation.
-/

namespace Sys2Proof.Machine

/-! ### Lists of changes -/

/-- A relation that every change of a list keeps up, and that chains, links the ends of the whole list. -/
theorem each_links {α : Type} (r : State → State → Prop) (refl : ∀ s, r s s) (trans : ∀ a b c, r a b → r b c → r a c)
    (f : α → State → State) (h : ∀ a s, r s (f a s)) (l : List α) : ∀ s, r s (each l f s) := by
  induction l with
  | nil => intro s; exact refl s
  | cons a l ih => intro s; exact trans _ _ _ (h a s) (ih _)

@[simp] theorem setAt_length {α : Type} (l : List α) (i : Nat) (v : α) : (setAt l i v).length = l.length := by simp [setAt]
@[simp] theorem modAt_length {α : Type} (l : List α) (i : Nat) (f : α → α) : (modAt l i f).length = l.length := by simp [modAt]

/-! ### Counters, records, answers -/

/-- A record changes the recorder and the counters, nothing else. -/
theorem State.record_cases (code : Nat) (items : List Item) (s : State) :
    ∃ r c, s.record code items = { s with rcd := r, counters := c } := ⟨_, _, rfl⟩

/-- A record that carries a count changes the recorder and the counters, nothing else. -/
theorem State.recordSince_cases (scope code n : Nat) (items : List Item) (s : State) :
    ∃ r c, s.recordSince scope code n items = { s with rcd := r, counters := c } := ⟨_, _, rfl⟩

/-- A command that is refused is answered and counted, and does nothing else (R576). -/
theorem State.commandWrite_refused (w : Writer) (o code : Nat) (act : State → State) (s : State) (h : 1 < code) :
    s.commandWrite w o code act =
      { s with out := .answer w.port.val w.sess.val o code :: s.out, counters := bump 0x104003 1 s.counters } := by
  simp [State.commandWrite, State.answer, State.count, State.countN, State.emit, show ¬ code ≤ 1 by omega]

/-- A command that is accepted acts, and is then answered and counted (R576). -/
theorem State.commandWrite_accepted (w : Writer) (o code : Nat) (act : State → State) (s : State) (h : code ≤ 1) :
    s.commandWrite w o code act =
      { act s with out := .answer w.port.val w.sess.val o code :: (act s).out,
                   counters := bump 0x104002 1 (act s).counters } := by
  simp [State.commandWrite, State.answer, State.count, State.countN, State.emit, h]

/-! ### The change record (R580, R689) -/

/-- One entry at most is added at the end of a change record that has room, and nothing else changes. -/
theorem State.changeEntry_cases (param role port sess : Nat) (value : List Byte) (s : State) :
    (s.recordFull = true ∧ s.changeEntry param role port sess value = s) ∨
    (s.dict.changes.length < 512 ∧ ∃ e : ChangeEntry, e.param = param ∧
      s.changeEntry param role port sess value = { s with dict.changes := s.dict.changes ++ [e] }) := by
  simp only [State.changeEntry, State.recordFull, decide_eq_true_eq]
  split
  · exact .inl ⟨‹_›, rfl⟩
  · exact .inr ⟨by omega, ⟨_, _, _, _, _, _⟩, rfl, rfl⟩

/-- An entry of the unit's own: as `State.changeEntry_cases`, and the free values may move on. -/
theorem State.ownEntry_cases (param : Nat) (value : List Byte) (s : State) :
    (s.recordFull = true ∧ s.ownEntry param value = s) ∨
    (s.dict.changes.length < 512 ∧ ∃ e : ChangeEntry, e.param = param ∧
      s.ownEntry param value = { s with dict.changes := s.dict.changes ++ [e], freeCount := s.freeCount + 1 }) := by
  simp only [State.ownEntry]
  split
  · exact .inl ⟨‹_›, rfl⟩
  · rename_i h
    rcases State.changeEntry_cases param (s.free % 256) (s.free / 256 % 256) (s.free / 65536 % 256) value s.drawn with
      ⟨hf, _⟩ | ⟨hl, e, he, hc⟩
    · exact absurd hf h
    · exact .inr ⟨hl, e, he, hc⟩

/-- The entry of a write keeps what the change record holds, and lets it hold no more than it can. -/
theorem State.spend_keeps (param role port sess : Nat) (value : List Byte) (ok : Bool) (s : State)
    (h : s.dict.changes.length ≤ 512) :
    s.dict.changes <+: (s.spend param role port sess value ok).dict.changes ∧
      (s.spend param role port sess value ok).dict.changes.length ≤ 512 := by
  rcases State.changeEntry_cases (if ok then param else 0xFF) role port sess value s with ⟨_, hc⟩ | ⟨hl, e, _, hc⟩
  · simp only [State.spend, hc]; exact ⟨List.prefix_refl _, h⟩
  · simp only [State.spend, hc, List.length_append, List.length_cons, List.length_nil]
    exact ⟨List.prefix_append _ _, by omega⟩

/-- A floor that rises: its entry, its record, and the floors; nothing else (R687). The change record keeps what it holds. -/
theorem State.raiseFloor_cases (kind version : Nat) (s : State) :
    ∃ d f n r c, s.raiseFloor kind version =
      { s with dict.changes := d, sec.floors := f, freeCount := n, rcd := r, counters := c } ∧
      s.dict.changes <+: d ∧ (s.dict.changes.length ≤ 512 → d.length ≤ 512) ∧ f.length = s.sec.floors.length := by
  simp only [State.raiseFloor]
  split
  · rcases State.ownEntry_cases (0x80 + kind) [byte (major version)] s with ⟨_, hc⟩ | ⟨hl, e, _, hc⟩
    · rw [hc]; exact ⟨_, _, _, _, _, rfl, List.prefix_refl _, id, setAt_length _ _ _⟩
    · rw [hc]; exact ⟨_, _, _, _, _, rfl, List.prefix_append _ _, by simp; omega, setAt_length _ _ _⟩
  · exact ⟨_, _, _, _, _, rfl, List.prefix_refl _, id, rfl⟩

/-! ### INGEST and the stop latch (R231, R385 to R389) -/

/-- INGEST takes an input, or counts and records that it has no room, or is closed. -/
theorem State.takeCommitted_cases (commit source : Nat) (stamp : FT) (data : List Byte) (s : State) :
    ∃ q r c, s.takeCommitted commit source stamp data = { s with ingest.held := q, rcd := r, counters := c } := by
  simp only [State.takeCommitted]
  split
  · split
    · exact ⟨_, _, _, rfl⟩
    · exact ⟨_, _, _, rfl⟩
  · exact ⟨_, _, _, rfl⟩

/-- The comparator of an owner is disarmed: only the comparators change, and none is lost. -/
theorem State.disarmOwner_cases (owner : Nat) (s : State) :
    ∃ l, s.disarmOwner owner = { s with time.comparators := l } ∧ l.length = s.time.comparators.length := by
  simp only [State.disarmOwner]
  split
  · exact ⟨_, rfl, modAt_length _ _ _⟩
  · exact ⟨_, rfl, rfl⟩

/-- Axes, comparators, counters and the recorder may change from `s` to `t`, nothing else; none of the lists changes its length. -/
def State.AxisLinked (s t : State) : Prop :=
  ∃ a l r c, t = { s with axes := a, time.comparators := l, rcd := r, counters := c } ∧
    a.length = s.axes.length ∧ l.length = s.time.comparators.length

theorem State.AxisLinked.refl (s : State) : s.AxisLinked s := ⟨_, _, _, _, rfl, rfl, rfl⟩

theorem State.AxisLinked.trans {s t u : State} (h : s.AxisLinked t) (k : t.AxisLinked u) : s.AxisLinked u := by
  obtain ⟨a, l, r, c, rfl, ha, hl⟩ := h
  obtain ⟨a', l', r', c', rfl, ha', hl'⟩ := k
  exact ⟨a', l', r', c', rfl, ha'.trans ha, hl'.trans hl⟩

theorem State.modAxis_linked (n : Nat) (f : Axis → Axis) (s : State) : s.AxisLinked (s.modAxis n f) :=
  ⟨_, _, _, _, rfl, modAt_length _ _ _, rfl⟩

theorem State.countAxis_linked (n sub : Nat) (s : State) : s.AxisLinked (s.countAxis n sub) := ⟨_, _, _, _, rfl, rfl, rfl⟩

theorem State.record_axisLinked (code : Nat) (l : List Item) (s : State) : s.AxisLinked (s.record code l) :=
  ⟨_, _, _, _, rfl, rfl, rfl⟩

theorem State.disarmOwner_linked (owner : Nat) (s : State) : s.AxisLinked (s.disarmOwner owner) := by
  obtain ⟨l, h, hl⟩ := State.disarmOwner_cases owner s
  exact ⟨_, l, _, _, h, rfl, hl⟩

/-- What the latch does to one axis: axes, comparators, counters and recorder; none of the lists changes its length. -/
theorem State.axisLatched_cases (n : Nat) (s : State) : s.AxisLinked (s.axisLatched n) := by
  have start := (State.modAxis_linked n (fun a => { a with armed := [], start := none }) s).trans
    (State.disarmOwner_linked (0x200 + n) _)
  have brake : ∀ (d : Nat) (t : State), t.AxisLinked (t.axisBrake n d) := fun _ t => State.modAxis_linked _ _ t
  simp only [State.axisLatched]
  split
  · exact start.trans ((State.countAxis_linked n 2 _).trans ((brake _ _).trans (State.modAxis_linked _ _ _)))
  · exact start.trans (brake _ _)
  · split
    · exact start.trans (brake _ _)
    · exact start.trans (((brake _ _).trans (State.modAxis_linked _ _ _)).trans (State.record_axisLinked _ _ _))
  · exact start

/-- What the latch does to all axes. -/
theorem State.axesLatched_cases (s : State) : s.AxisLinked s.axesLatched :=
  each_links State.AxisLinked State.AxisLinked.refl (fun _ _ _ => State.AxisLinked.trans) _ State.axisLatched_cases _ s

/-- A strobe is an output, nothing else. -/
theorem State.strobed_cases (s : State) : ∃ o, s.strobed = { s with out := o } := by
  simp only [State.strobed]; cases s.pair.output <;> exact ⟨_, rfl⟩

/-- A pending release lapses: the latch and its mask stay. -/
theorem State.lapse_cases (s : State) :
    ∃ x c, s.lapse = { s with stop := { s.stop with release := x }, counters := c } := by
  simp only [State.lapse]; split <;> exact ⟨_, _, rfl⟩

/-- The stop state goes to INGEST: the latch and its mask stay. -/
theorem State.logStop_cases (k m : Nat) (at_ : FT) (s : State) :
    ∃ x q r c, s.logStop k m at_ =
      { s with stop := { s.stop with logged := x }, ingest.held := q, rcd := r, counters := c } := by
  simp only [State.logStop, State.takeIn]
  obtain ⟨q, r, c, h⟩ := State.takeCommitted_cases 0 0x20 at_ [byte k, byte m]
    (when s.ingestOpen (fun s => { s with stop.logged := (k, m) }) s)
  rw [h]
  cases s.ingestOpen <;> exact ⟨_, _, _, _, rfl⟩

/-- A source of R385: afterwards the latch is set and the source is in the mask; outputs, stop state, INGEST, axes,
comparators, counters and recorder may change, and nothing else. -/
theorem State.setLatch_cases (src : Nat) (s : State) :
    ∃ o p q a l r c, s.setLatch src =
      { s with out := o, stop := p, ingest.held := q, axes := a, time.comparators := l, rcd := r, counters := c } ∧
      p.latch = true ∧ p.mask = s.stop.mask ||| 2 ^ src ∧ a.length = s.axes.length ∧ l.length = s.time.comparators.length := by
  obtain ⟨x, c, hl⟩ := State.lapse_cases s
  simp only [State.setLatch, hl, State.count, State.countN]
  split
  · exact ⟨_, _, _, _, _, _, _, rfl, ‹_›, rfl, rfl, rfl⟩
  · generalize ht : State.strobed _ = t
    obtain ⟨o, hs⟩ := State.strobed_cases _
    rw [hs] at ht
    generalize hu : t.logStop 1 _ _ = u
    obtain ⟨y, q, r, c', hlog⟩ := State.logStop_cases _ _ _ t
    rw [hlog] at hu
    obtain ⟨a, l, r', c'', hax, ha, hc⟩ := State.axesLatched_cases (u.record 0x7001 _)
    rw [hax]
    subst hu ht
    exact ⟨_, _, _, _, _, _, _, rfl, rfl, rfl, ha, hc⟩

/-! ### Comparators (R74) -/

/-- A claim changes the comparators and loses none. -/
theorem State.claimComparator_cases (owner : Nat) (s : State) :
    ∃ l, s.claimComparator owner = { s with time.comparators := l } ∧ l.length = s.time.comparators.length := by
  simp only [State.claimComparator]
  split
  · exact ⟨_, rfl, rfl⟩
  · split
    · exact ⟨_, rfl, modAt_length _ _ _⟩
    · exact ⟨_, rfl, rfl⟩

/-- A release changes the comparators and loses none. -/
theorem State.releaseComparator_cases (owner : Nat) (s : State) :
    ∃ l, s.releaseComparator owner = { s with time.comparators := l } ∧ l.length = s.time.comparators.length :=
  ⟨_, rfl, List.length_map ..⟩

/-! ### What is sent (R429, R431, R432, R535) -/

/-- A frame of the Akris link: the pair's own numbers, the lane, an output, a counter. -/
theorem State.linkSend_cases (kind : Nat) (payload : List Byte) (s : State) :
    ∃ n u k a o c, s.linkSend kind payload =
      { s with pair := { s.pair with txSeq := n, unacked := u, lane := k, ackAt := a }, out := o, counters := c } := by
  simp only [State.linkSend]
  split <;> exact ⟨_, _, _, _, _, _, rfl⟩

/-- Ethernet ports, outputs, counters and the recorder may change from `s` to `t`, nothing else; no port is lost. -/
def State.Sends (s t : State) : Prop :=
  ∃ e o r c, t = { s with net.eth := e, out := o, rcd := r, counters := c } ∧ e.length = s.net.eth.length

theorem State.Sends.refl (s : State) : s.Sends s := ⟨_, _, _, _, rfl, rfl⟩

theorem State.Sends.trans {s t u : State} (h : s.Sends t) (k : t.Sends u) : s.Sends u := by
  obtain ⟨e, o, r, c, rfl, he⟩ := h
  obtain ⟨e', o', r', c', rfl, he'⟩ := k
  exact ⟨e', o', r', c', rfl, he'.trans he⟩

theorem State.modEth_sends (p : Nat) (f : EthPort → EthPort) (s : State) : s.Sends (s.modEth p f) :=
  ⟨_, _, _, _, rfl, modAt_length _ _ _⟩

theorem State.countEth_sends (p sub : Nat) (s : State) : s.Sends (s.countEth p sub) := ⟨_, _, _, _, rfl, rfl⟩

/-- A frame that goes out. -/
theorem State.transmit_sends (p : Nat) (x : TxItem) (s : State) : s.Sends (s.transmit p x) :=
  (State.modEth_sends p _ s).trans ⟨_, _, _, _, rfl, rfl⟩

/-- A frame that is offered to a port: Ethernet ports, outputs and counters. -/
theorem State.offer_sends (p cls : Nat) (x : TxItem) (s : State) : s.Sends (s.offer p cls x) := by
  simp only [State.offer]
  split
  · exact State.Sends.refl s
  · split
    · exact State.transmit_sends p x s
    · split
      · exact State.modEth_sends _ _ s
      · exact State.countEth_sends _ _ s

/-- A datagram: Ethernet ports, outputs, counters and recorder; no port is lost. -/
theorem State.sendIp_sends (cls : Nat) (role : Bool) (dst : List Byte) (build : List Byte → List Byte) (s : State) :
    s.Sends (s.sendIp cls role dst build) := by
  have lost : ∀ p, s.Sends (s.unrouted p dst) := fun p => ⟨_, _, _, _, rfl, rfl⟩
  simp only [State.sendIp]
  split
  · exact lost 0
  · split
    · exact State.offer_sends ..
    · split
      · exact lost _
      · exact (State.modEth_sends _ _ s).trans (State.offer_sends ..)

theorem State.sendUdp_cases (src : Nat) (sink msg : List Byte) (s : State) : s.Sends (s.sendUdp src sink msg) := by
  unfold State.sendUdp
  exact State.sendIp_sends _ _ _ _ s

/-- Datagrams to several sinks: as one. -/
theorem State.sendSinks_cases (src base n : Nat) (msg : List Byte) (s : State) : s.Sends (s.sendSinks src base n msg) := by
  refine each_links State.Sends State.Sends.refl (fun _ _ _ => State.Sends.trans) _ ?_ _ s
  intro a s
  simp only [when]
  split
  · exact State.sendUdp_cases _ _ _ s
  · exact State.Sends.refl s

/-- Gratuitous ARP (R427): Ethernet ports, outputs and counters. -/
theorem State.gratuitous_cases (s : State) : s.Sends s.gratuitous := by
  refine each_links State.Sends State.Sends.refl (fun _ _ _ => State.Sends.trans) _ ?_ _ s
  intro a s
  simp only [when]
  split
  · exact State.offer_sends ..
  · exact State.Sends.refl s

/-! ### Settings areas, sessions (R584, R626, R638) -/

/-- A save of the settings changes the areas and the one in use, and loses no area. -/
theorem State.saveSettings_cases (s : State) :
    ∃ l a, s.saveSettings = { s with upd.areas := l, upd.area := a } ∧ l.length = s.upd.areas.length := by
  simp only [State.saveSettings]
  split
  · exact ⟨_, _, rfl, setAt_length _ _ _⟩
  · split
    · exact ⟨_, _, rfl, by simp⟩
    · exact ⟨_, _, rfl, setAt_length _ _ _⟩

/-- An update session that is lost: its state and holder, a counter, a record. -/
theorem State.sessionLost_cases (cause : Nat) (s : State) :
    ∃ u h r c, s.sessionLost cause = { s with upd := { s.upd with state := u, holder := h }, rcd := r, counters := c } := by
  simp only [State.sessionLost]
  split <;> exact ⟨_, _, _, _, rfl⟩

/-- Sessions may end from `s` to `t`, and with them the update session, an alert leaving: nothing else changes, and no Ethernet
port is lost. -/
def State.SessionsEnd (s t : State) : Prop :=
  ∃ d u h e o r c, t = { s with dict.sessions := d, upd := { s.upd with state := u, holder := h }, net.eth := e, out := o,
                                rcd := r, counters := c } ∧
    d.Sublist s.dict.sessions ∧ e.length = s.net.eth.length

theorem State.SessionsEnd.refl (s : State) : s.SessionsEnd s := ⟨_, _, _, _, _, _, _, rfl, List.Sublist.refl _, rfl⟩

theorem State.SessionsEnd.trans {s t u : State} (h : s.SessionsEnd t) (k : t.SessionsEnd u) : s.SessionsEnd u := by
  obtain ⟨d, u, h, e, o, r, c, rfl, hd, he⟩ := h
  obtain ⟨d', u', h', e', o', r', c', rfl, hd', he'⟩ := k
  exact ⟨d', u', h', e', o', r', c', rfl, hd'.trans hd, he'.trans he⟩

theorem State.holderGone_ends (port sess : Nat) (s : State) : s.SessionsEnd (s.holderGone port sess) := by
  simp only [State.holderGone, when]
  split
  · obtain ⟨u, h, r, c, hc⟩ := State.sessionLost_cases 1 s
    exact ⟨_, u, h, _, _, r, c, hc, List.Sublist.refl _, rfl⟩
  · exact State.SessionsEnd.refl s

theorem State.sendAlert_ends (port n : Nat) (s : State) : s.SessionsEnd (s.sendAlert port n) := by
  obtain ⟨e, o, r, c, h, he⟩ := State.offer_sends (port - 2) 1 ⟨.alert port n, Config.dtlsOverhead + 2⟩ s
  exact ⟨_, _, _, e, o, r, c, h, List.Sublist.refl _, he⟩

/-- A session that ends: the sessions are some of those before, and the update session, Ethernet ports, outputs, counters and
recorder may change, nothing else. -/
theorem State.endSession_cases (told : Bool) (n : Nat) (s : State) : s.SessionsEnd (s.endSession told n) := by
  simp only [State.endSession]
  split
  · exact State.SessionsEnd.refl s
  · rename_i x _
    have first : s.SessionsEnd { s with dict.sessions := s.dict.sessions.filter fun y => y.num != n } :=
      ⟨_, _, _, _, _, _, _, rfl, List.filter_sublist, rfl⟩
    have last : ∀ t : State, s.SessionsEnd t → s.SessionsEnd (when told (State.sendAlert x.port n) (t.holderGone x.port n)) := by
      intro t h
      refine (h.trans (State.holderGone_ends x.port n t)).trans ?_
      simp only [when]
      split
      · exact State.sendAlert_ends _ _ _
      · exact State.SessionsEnd.refl _
    split
    · refine last _ (first.trans ?_)
      exact ⟨_, _, _, _, _, _, _, rfl, List.Sublist.refl _, rfl⟩
    · exact last _ first

/-- Sessions that end: as one. -/
theorem State.endSessions_cases (told : Bool) (p : Session → Bool) (s : State) : s.SessionsEnd (s.endSessions told p) :=
  each_links State.SessionsEnd State.SessionsEnd.refl (fun _ _ _ => State.SessionsEnd.trans) _ (State.endSession_cases told) _ s

/-! ### Modes and pair states (R554, R674) -/

/-- A leg that is withdrawn (R37, R242): tracks, the matching store, counters; no core is lost. -/
def State.LegsLeave (s t : State) : Prop :=
  ∃ k q c, t = { s with tracks := k, sched := q, counters := c } ∧ q.cores.length = s.sched.cores.length ∧
    k.nodes = s.tracks.nodes ∧ k.segs = s.tracks.segs

theorem State.LegsLeave.refl (s : State) : s.LegsLeave s := ⟨_, _, _, rfl, rfl, rfl, rfl⟩

theorem State.LegsLeave.trans {s t u : State} (h : s.LegsLeave t) (k : t.LegsLeave u) : s.LegsLeave u := by
  obtain ⟨k, q, c, rfl, hq, hn, hs⟩ := h
  obtain ⟨k', q', c', rfl, hq', hn', hs'⟩ := k
  exact ⟨k', q', c', rfl, hq'.trans hq, hn'.trans hn, hs'.trans hs⟩

theorem State.freeEntries_leave (l : List Nat) (s : State) : s.LegsLeave (s.freeEntries l) := by
  have h : ∀ (l : List Nat) (x : TracksSt), (l.foldl (fun x i => x.putEntry i .free) x).nodes = x.nodes ∧
      (l.foldl (fun x i => x.putEntry i .free) x).segs = x.segs := by
    intro l
    induction l with
    | nil => intro x; exact ⟨rfl, rfl⟩
    | cons i l ih => intro x; exact ih _
  exact ⟨_, _, _, rfl, rfl, (h l _).1, (h l _).2⟩

theorem State.withdrawLeg_leaves (cause other : Nat) (l : Leg) (s : State) : s.LegsLeave (s.withdrawLeg cause other l) := by
  unfold State.withdrawLeg
  generalize ht : ((s.freeEntries l.entries).countN 0x500003 l.entries.length).purge l.spec = t
  have a : (s.freeEntries l.entries).LegsLeave t := by subst ht; exact ⟨_, _, _, rfl, rfl, rfl, rfl⟩
  refine ((State.freeEntries_leave l.entries s).trans a).trans ?_
  simp only [State.traceWithdrawn, State.trace]
  split <;> exact ⟨_, _, _, rfl, rfl, rfl, rfl⟩

/-- Legs that are withdrawn: as one. -/
theorem State.withdrawLegs_leave (cause : Nat) (p : Leg → Bool) (s : State) : s.LegsLeave (s.withdrawLegs cause p) := by
  have h : s.LegsLeave { s with tracks.legs := s.tracks.legs.filter fun l => !p l } := ⟨_, _, _, rfl, rfl, rfl, rfl⟩
  exact h.trans (each_links State.LegsLeave State.LegsLeave.refl (fun _ _ _ => State.LegsLeave.trans) _
    (State.withdrawLeg_leaves cause 0x3FFF) _ _)

/-- What a mode ends of the two paths (R230): tracks but for their tables, the matching store, INGEST, tasks, what the machines
wait for, the pipeline, counters; no core, machine or launch queue is lost. -/
theorem State.pathsEnd_cases (m : Mode) (s : State) :
    ∃ k q i a n p c, s.pathsEnd m =
      { s with tracks := k, sched := q, ingest := i, tasks := a, machines := n, pipe := p, counters := c } ∧
      q.cores.length = s.sched.cores.length ∧ k.nodes = s.tracks.nodes ∧ k.segs = s.tracks.segs ∧
      n.length = s.machines.length ∧ p.launch.length = s.pipe.launch.length ∧ i.outbox = s.ingest.outbox := by
  have h := State.withdrawLegs_leave 1 (fun _ => true) s
  obtain ⟨k, q, c, hw, hq, hn, hs⟩ := h
  simp only [State.pathsEnd, when]
  cases m.perUplink <;> cases m.perCycle <;>
    simp only [Bool.not_true, Bool.not_false, if_true, State.uplinkEnds, State.cycleEnds, hw, Bool.false_eq_true, if_false] <;>
    exact ⟨_, _, _, _, _, _, _, rfl, by first | exact hq | rfl, by first | exact hn | rfl, by first | exact hs | rfl,
      by simp, by simp, rfl⟩

/-- A mode change (R230, R674): the mode, whether the unit has served, the paths that the mode ends, a counter, a record; nothing
else. -/
theorem State.enterMode_cases (m : Mode) (cause : Nat) (s : State) :
    ∃ b k q i a n p r c, s.enterMode m cause =
      { s with power.mode := m, time.served := b, tracks := k, sched := q, ingest := i, tasks := a, machines := n, pipe := p,
               rcd := r, counters := c } ∧
      q.cores.length = s.sched.cores.length ∧ k.nodes = s.tracks.nodes ∧ k.segs = s.tracks.segs ∧
      n.length = s.machines.length ∧ p.launch.length = s.pipe.launch.length ∧ i.outbox = s.ingest.outbox := by
  simp only [State.enterMode]
  split
  · rename_i h; subst h; exact ⟨_, _, _, _, _, _, _, _, _, rfl, rfl, rfl, rfl, rfl, rfl, rfl⟩
  · generalize ht : ({ s with power.mode := m, time.served := _ } : State) = t
    obtain ⟨k, q, i, a, n, p, c, h, hq, hn, hs, hm, hl, ho⟩ := State.pathsEnd_cases m t
    rw [h]
    subst ht
    exact ⟨_, k, q, i, a, n, p, _, _, rfl, hq, hn, hs, hm, hl, ho⟩

/-- A change of pair state: the state, its mode with what that ends, a request that lapses; nothing else but counters and
recorder. -/
theorem State.enterPair_cases (p : PairState) (s : State) :
    ∃ m k b tr q i a n pi r c, s.enterPair p =
      { s with pair.state := p, power := { s.power with mode := m, pendingMode := k }, time.served := b, tracks := tr, sched := q,
               ingest := i, tasks := a, machines := n, pipe := pi, rcd := r, counters := c } ∧
      (s.pair.state ≠ p → m = p.mode) ∧ q.cores.length = s.sched.cores.length ∧ tr.nodes = s.tracks.nodes ∧
      tr.segs = s.tracks.segs ∧ n.length = s.machines.length ∧ pi.launch.length = s.pipe.launch.length := by
  simp only [State.enterPair]
  split
  · rename_i h; subst h
    exact ⟨_, _, _, _, _, _, _, _, _, _, _, rfl, fun h => absurd rfl h, rfl, rfl, rfl, rfl, rfl⟩
  · generalize ht : State.record 0xB001 _ _ = t
    obtain ⟨b, k, q, i, a, n, pi, r, c, h, hq, hn, hs, hm, hl, _⟩ := State.enterMode_cases p.mode 1 t
    rw [h]
    subst ht
    exact ⟨_, _, b, k, q, i, a, n, pi, r, c, rfl, fun _ => rfl, hq, hn, hs, hm, hl⟩

/-- The output stage follows the loops (R527): afterwards it is as the rule says; axes, TIO pins, gratuitous ARP, sessions and
the quiet time after a stop may change, and nothing else but Ethernet ports, outputs, counters and recorder. -/
theorem State.refreshOutput_cases (s : State) :
    ∃ a p q g gt d e u h o r c, s.refreshOutput =
      { s with pair.output := outputNext s.inPair s.pair.drive s.pair.peer s.pair.output, axes := a, ptp.tio := p,
               stop.quietUntil := q, net := { s.net with garp := g, garpAt := gt, eth := e }, dict.sessions := d,
               upd := { s.upd with state := u, holder := h }, out := o, rcd := r, counters := c } ∧
      a.length = s.axes.length ∧ p.length = s.ptp.tio.length ∧ d.Sublist s.dict.sessions ∧ e.length = s.net.eth.length := by
  simp only [State.refreshOutput]
  split
  · rename_i h
    rw [h]
    exact ⟨_, _, _, _, _, _, _, _, _, _, _, _, rfl, rfl, rfl, List.Sublist.refl _, rfl⟩
  · split
    · generalize ht : State.tioEnabled _ = t
      obtain ⟨e, o, r, c, ho, he⟩ := State.gratuitous_cases t
      rw [ho]; subst ht
      exact ⟨_, _, _, _, _, _, _, _, _, _, _, _, rfl, by simp [State.tioEnabled, State.axisEnables],
        by simp [State.axisEnables], List.Sublist.refl _, he⟩
    · generalize ht : ({ State.axisEnables _ _ with net.garp := 0 } : State) = t
      obtain ⟨d, u, h, e, o, r, c, he, hd, hl⟩ := State.endSessions_cases false (fun x => x.onRole) t
      simp only [State.roleSessionsEnd, he]
      subst ht
      exact ⟨_, _, _, _, _, _, _, _, _, _, _, _, rfl, by simp [State.axisEnables], rfl, hd, hl⟩

/-- The loop is driven (R524): afterwards it is driven so, and the output stage follows. -/
theorem State.drive_drives (d : Drive) (s : State) :
    (s.drive d).pair.drive = d ∧ (s.drive d).pair.output = outputNext s.inPair d s.pair.peer s.pair.output ∧
      (s.drive d).settings = s.settings ∧ (s.drive d).stop.latch = s.stop.latch ∧
      (s.drive d).dict.changes = s.dict.changes := by
  obtain ⟨a, p, q, g, gt, l, e, u, h, o, r, c, he, _⟩ := State.refreshOutput_cases
    { s with pair.drive := d, upd.ownRun := if d = Drive.own then s.upd.ownRun else 0 }
  simp only [State.drive, he]
  exact ⟨trivial, rfl, trivial, trivial, trivial⟩

end Sys2Proof.Machine
end

