-- ==== Sys2Proof/WellFormed.lean ====
section
/-!
DEFINITION. Well-formed commands: what the bus, the frame formats and the field widths of the spec let arrive. The meanings
answer every command, well-formed or not.
-/

namespace Sys2Proof

/-- A Field Time (R51, R53): NSEC at most 999,999,999, FRAC of 32 bits. -/
def FT.wellFormed (t : FT) : Bool := decide (t.nsec < 1000000000) && decide (t.frac < 4294967296)

/-- A writer (R582, R584): session 9 on CAN0, 10 on CAN1, 1 to 8 on an Ethernet port. -/
def Writer.wellFormed (w : Writer) : Bool :=
  if w.port.val < 2 then w.sess.val == 9 + w.port.val else decide (1 ≤ w.sess.val) && decide (w.sess.val ≤ 8)

/-- A value written to the dictionary (R586): at most 1,024 octets. -/
def valueWf (v : List Byte) : Bool := decide (v.length ≤ 1024)

/-- A message of the dictionary service (R583): at most 1,200 octets. -/
def messageWf (m : List Byte) : Bool := decide (m.length ≤ 1200)

/-- The data of a CAN FD frame (R434): a length that a DLC names. -/
def canDataWf (m : List Byte) : Bool :=
  decide (m.length ≤ 8) || [12, 16, 20, 24, 32, 48, 64].contains m.length

/-- A machine number (R18): 1 to 128. -/
def machineWf (k : Fin 129) : Bool := decide (1 ≤ k.val)

/-- A PSDU of a Field Air frame (R361): at most 2,047 octets. -/
def psduWf (b : List Byte) : Bool := decide (b.length ≤ 2047)

/-- A frame of the Akris link of a TYPE (R535, R536): at most 8,212 octets. -/
def linkWf (kind : Nat) (f : List Byte) : Bool := decide (f.length ≤ 8212) && field f 0 1 == kind

/-- A PTP message: the raw stamp of its arrival, octets of at most one Ethernet payload. -/
def PtpMsg.wellFormed (m : PtpMsg) : Bool := m.raw.wellFormed && decide (m.octets.length ≤ 1500)

/-- The operand counts of a class (R321). -/
def operandsFit (cls n : Nat) : Bool := if cls = 0 then decide (1 ≤ n) && decide (n ≤ 4) else if cls = 1 then n == 2 else n == 1

/-- Is a command well-formed? -/
def Instr.wellFormed : Instr → Bool
  | .timeSet w v => w.wellFormed && valueWf v
  | .recoveryStart w v => w.wellFormed && valueWf v
  | .posCommit w v _ => w.wellFormed && valueWf v
  | .nodeEntryWrite w v => w.wellFormed && valueWf v
  | .segEntryWrite w v => w.wellFormed && valueWf v
  | .hostReservationCreate w v => w.wellFormed && valueWf v
  | .hostReservationCancel w v => w.wellFormed && valueWf v
  | .releaseMachineHolds w v => w.wellFormed && valueWf v
  | .releaseEntryHold w v => w.wellFormed && valueWf v
  | .taskEntryWrite w v => w.wellFormed && valueWf v
  | .taskCancel w v => w.wellFormed && valueWf v
  | .taskRequeue w v => w.wellFormed && valueWf v
  | .taskClear w v => w.wellFormed && valueWf v
  | .slackClear w v => w.wellFormed && valueWf v
  | .storeHighClear w v => w.wellFormed && valueWf v
  | .radioRegionWrite w v _ _ => w.wellFormed && valueWf v
  | .axisTarget w _ v => w.wellFormed && valueWf v
  | .accountEntryWrite w v => w.wellFormed && valueWf v
  | .yieldRequest w v => w.wellFormed && valueWf v
  | .handoverRequest w v => w.wellFormed && valueWf v
  | .updateOpen w v => w.wellFormed && valueWf v
  | .updateData w v => w.wellFormed && valueWf v
  | .updateFinish w v => w.wellFormed && valueWf v
  | .updateAbort w v => w.wellFormed && valueWf v
  | .updateActivate w _ _ => w.wellFormed
  | .updateActivateStaged w _ => w.wellFormed
  | .updateConfirm w v => w.wellFormed && valueWf v
  | .updateFallback w v _ => w.wellFormed && valueWf v
  | .modeRequest w v => w.wellFormed && valueWf v
  | .resetCommand w _ => w.wellFormed
  | .shutdownCommand w _ => w.wellFormed
  | .ownerCredential w v _ => w.wellFormed && valueWf v
  | .ownerRecovery w v => w.wellFormed && valueWf v
  | .debugChallenge w => w.wellFormed
  | .debugResponse w v => w.wellFormed && valueWf v
  | .axisStop w _ => w.wellFormed
  | .axisHome w _ => w.wellFormed
  | .axisClear w _ => w.wellFormed
  | .tsPop w _ => w.wellFormed
  | .tioCapture w _ => w.wellFormed
  | .groupTimeout w => w.wellFormed
  | .dictRead w m _ => w.wellFormed && messageWf m
  | .dictWrite w m _ => w.wellFormed && messageWf m
  | .groupOpen w m _ => w.wellFormed && messageWf m
  | .groupCommit w m _ => w.wellFormed && messageWf m
  | .groupAbort w m _ => w.wellFormed && messageWf m
  | .canRead _ m _ => canDataWf m
  | .canWrite _ m _ => canDataWf m
  | .segmentDown _ m _ => canDataWf m
  | .segmentUpReq _ m _ => canDataWf m
  | .canGroup _ m _ => canDataWf m
  | .canAbort _ m _ => canDataWf m
  | .canFrameReceived _ _ m f _ => canDataWf m && (!f.classical || decide (m.length ≤ 8))
  | .dtlsHandshake _ x => x.notBefore.wellFormed && x.notAfter.wellFormed
  | .solveEpoch k => machineWf k
  | .missingEpoch k => machineWf k
  | .filterTimeout k => machineWf k
  | .solveDeadline k => machineWf k
  | .joinAbandoned k => machineWf k
  | .periodEffective k => machineWf k
  | .composeDeadline l _ => l.all machineWf
  | .upFrameReceived _ b _ _ => psduWf b
  | .joinReq _ b _ _ => psduWf b
  | .ptpSync m => m.wellFormed
  | .ptpFollowUp m => m.wellFormed
  | .ptpDelayReq m => m.wellFormed
  | .ptpDelayResp m => m.wellFormed
  | .ptpPdelayReq m sent => m.wellFormed && sent.wellFormed
  | .ptpPdelayResp m => m.wellFormed
  | .ptpPdelayRespFollowUp m => m.wellFormed
  | .ptpAnnounce m => m.wellFormed
  | .ptpSyncTransmit _ _ raw _ => raw.wellFormed
  | .ptpDelayReqTransmit _ _ raw _ => raw.wellFormed
  | .ptpPdelayReqTransmit _ _ raw _ => raw.wellFormed
  | .navUnitDecoded _ u => u.first.wellFormed && decide (9 ≤ u.bits.length) && decide (u.bits.length ≤ 600)
  | .heartbeatA f => linkWf 2 f
  | .hello f => linkWf 1 f
  | .log f => linkWf 3 f
  | .baseObs f => linkWf 4 f
  | .confirm f => linkWf 5 f
  | .axis f => linkWf 7 f
  | .stateRequest f => linkWf 6 f
  | .state f _ => linkWf 6 f
  | .handoverGo f => linkWf 8 f
  | .handoverAck f => linkWf 8 f
  | .handoverAbort f => linkWf 8 f
  | .comparatorFire _ => true
  | .tickIncrementUpdate _ _ => true
  | .timeStateEvaluation => true
  | .holdoverEstimateUpdate => true
  | .timeStepped => true
  | .timeSetApply => true
  | .initialAlignment => true
  | .discontinuityPrepare => true
  | .ref10Lost _ => true
  | .bridgeBlockReceived _ b => decide (b.samples.length = 1024)
  | .antClassify _ _ => true
  | .antSwitchRetry _ => true
  | .trapPlacement _ _ => true
  | .trapReleased _ _ => true
  | .adaptEnd _ => true
  | .jamIndicatorEval _ => true
  | .settleElapsed _ => true
  | .episodeLimitExpired _ => true
  | .episodeRetryExpired _ => true
  | .bankMapChanged _ => true
  | .correlatorDump _ _ _ _ => true
  | .ncoUpdate _ _ _ _ _ => true
  | .acqRequest _ _ => true
  | .acqSearchComplete _ _ _ _ => true
  | .trackLoopUpdate _ _ _ _ _ => true
  | .pullInTimeout _ => true
  | .reacquireTimeout _ => true
  | .channelAllocation _ => true
  | .measurementEpoch _ _ => true
  | .integrityChecks => true
  | .checksLate => true
  | .multipathEval => true
  | .timePulseMessage _ => true
  | .ppsPulse => true
  | .surveyUpdate => true
  | .refPositionCommitted _ => true
  | .rtcmCompose => true
  | .ingestInput => true
  | .sortInput => true
  | .snapshot => true
  | .reserveCheckComplete => true
  | .reserveDeadline => true
  | .allotRun => true
  | .allotDeadline => true
  | .launchRelease => true
  | .slotLoad _ => true
  | .operandPost _ _ c last index _ => operandsFit c.val (last.val + 1) && decide (index.val ≤ last.val)
  | .take _ => true
  | .instanceExpired _ _ => true
  | .operationPromoted _ _ => true
  | .coreWatchdogExpired _ => true
  | .traceDatagram => true
  | .receiveDeadline _ => true
  | .channelExclusionEval => true
  | .exclusionExpired => true
  | .remapApply => true
  | .radioConfigApply => true
  | .stopInputQualified _ => true
  | .stopDiscrepancy => true
  | .stopCommandStop _ _ _ => true
  | .stopCommandRelease _ _ _ => true
  | .stopReleased => true
  | .stopoutFault _ _ => true
  | .stopoutFaultClear => true
  | .safeStrobe => true
  | .safeAxisDrop _ => true
  | .ethFrameReceived _ _ _ _ => true
  | .fragmentTimeout _ => true
  | .linkChanged _ _ _ _ => true
  | .gratuitousArp => true
  | .arpRetry _ _ => true
  | .arpEntryExpired _ _ => true
  | .canBusOff _ _ _ => true
  | .canBusRecovered _ => true
  | .canStatusFrame _ => true
  | .canReconfigure _ => true
  | .announceReceiptTimeout _ _ => true
  | .ptpDomainEval => true
  | .tioCaptureEdge _ _ => true
  | .moveStart _ => true
  | .moveEnd _ _ => true
  | .gateMoveStart _ => true
  | .profileReplan _ => true
  | .axisHomed _ _ _ => true
  | .homingFailed _ _ => true
  | .limitReached _ _ _ => true
  | .currentBoosted _ _ => true
  | .stallDetected _ => true
  | .axisStandstill _ _ => true
  | .holdCurrent _ => true
  | .runCurrentRestore _ => true
  | .tallyPulse _ => true
  | .pendingPulseExpired _ => true
  | .meteringSavePeriodic => true
  | .meteringSaveComplete _ => true
  | .mainsZeroCrossing _ => true
  | .mainsLost _ => true
  | .seamReadingChange _ => true
  | .seamFault _ => true
  | .healthTimerExpired => true
  | .hbBLost => true
  | .hbBRestored => true
  | .heartbeatASend => true
  | .hbALost => true
  | .akrisLaneLockChange _ _ => true
  | .helloSend => true
  | .linkRetransmit => true
  | .logSend => true
  | .confirmSend => true
  | .digestLate => true
  | .digestForm => true
  | .axisReportSend => true
  | .logLagExceeded => true
  | .transferTimeout => true
  | .startWaitExpired => true
  | .handoverInstant => true
  | .handoverAbandoned => true
  | .pairFaultReset => true
  | .uncorrectableDataError _ _ => true
  | .unitFault _ _ _ => true
  | .eccCorrected _ => true
  | .sessionIdleExpired _ => true
  | .canTransferTimeout _ => true
  | .recorderFlush _ => true
  | .recordsDropped => true
  | .recordsSuppressed _ => true
  | .recordStreamDatagram => true
  | .updateSessionLost => true
  | .imageVerified => true
  | .darnApplyComplete => true
  | .clusterHandover => true
  | .healthConfirmation => true
  | .healthTimeout _ => true
  | .rinseBurst _ _ _ => true
  | .rinsePassOverdue _ => true
  | .calibrationRun _ _ _ => true
  | .oscillatorModelApply _ => true
  | .flashEraseComplete _ _ _ => true
  | .telemetryFrame _ _ => true
  | .supplyBelowThreshold _ _ => true
  | .sysReset => true
  | .resetRelease _ => true
  | .bootRef10Appears _ => true
  | .bootVerifyRetry _ => true
  | .unitStarted => true
  | .modeChanged => true
  | .backupEntry => true
  | .vbatLow _ => true
  | .dieTempHigh _ _ => true
  | .tamper _ _ => true
  | .stopInputRunLevel _ => true
  | .homeSwitchReached _ _ => true
  | .ptpAnnounceTransmit _ _ => true
  | .sessionClosed _ => true

end Sys2Proof
end

