-- ==== Sys2Proof/Tests/Slice0.lean ====
section
/-!
SUPPORT. Own tests: an ill-formed command for each check, witnesses that meet the hypotheses of the statements (`wit_…`,
one conjunct per clause, at the edge of its range where it has one) and small checks against the spec's own numbers
(`test_…`).
-/

set_option Elab.async false

open Sys2Proof Sys2Proof.Machine

namespace Sys2Proof.Tests

/-! ### Helpers -/

/-- The unit after reset. -/
def st : State := .reset

/-- The state a command answers. -/
def after (i : Instr) (s : State) : State :=
  match exec i s with
  | .next t => t
  | _ => s

/-- A number written to a setting. -/
def put (o : Nat) (n : Int) (s : State) : State := { s with settings := SMap.insert o (.num n) s.settings }

/-- A number written to a setting and in force. -/
def putNow (o : Nat) (n : Int) (s : State) : State := { put o n s with effective := SMap.insert o (.num n) s.effective }

/-- A mode. -/
def inMode (m : Mode) (s : State) : State := { s with power.mode := m }

/-- Session 1 on ETH0, of a role. -/
def w0 : Writer := ⟨2, 1⟩

/-- The session of `w0`. -/
def ses (role : Nat) : Session := ⟨1, 2, role, false, none, none, 1, 0⟩

/-- A state in which `w0` holds the OWNER role. -/
def owner (s : State) : State := { s with dict.sessions := [ses 3] }

/-- `Shaped` as a Boolean. -/
def shapeOk (s : State) : Bool :=
  s.gnss.chains.length == 4 && s.gnss.ports.length == 2 && s.gnss.engines.length == 2 && s.time.comparators.length == 32 &&
  s.sched.cores.length == 16 && s.axes.length == 8 && s.machines.length == 128 && s.air.ports.length == 8 &&
  s.pipe.launch.length == 8 && s.net.eth.length == 4 && s.net.can.length == 2 && s.dict.can.length == 2 &&
  s.ptp.queues.length == 4 && s.ptp.tio.length == 16 && s.ptp.domA.states.length == 4 && s.ptp.domB.states.length == 4 &&
  s.ptp.domA.peers.length == 4 && s.ptp.domB.peers.length == 4 && s.meter.mains.length == 2 && s.bg.calFails.length == 6

theorem shaped_of (s : State) (h : shapeOk s = true) : s.Shaped := by
  simp only [shapeOk, Bool.and_eq_true, beq_iff_eq] at h
  obtain ⟨⟨⟨⟨⟨⟨⟨⟨⟨⟨⟨⟨⟨⟨⟨⟨⟨⟨⟨h1, h2⟩, h3⟩, h4⟩, h5⟩, h6⟩, h7⟩, h8⟩, h9⟩, h10⟩, h11⟩, h12⟩, h13⟩, h14⟩, h15⟩, h16⟩, h17⟩,
    h18⟩, h19⟩, h20⟩ := h
  exact ⟨h1, h2, h3, h4, h5, h6, h7, h8, h9, h10, h11, h12, h13, h14, h15, h16, h17, h18, h19, h20⟩

/-- Nothing special about a commit. -/
def ci : CommitIn := ⟨true, false, true, true⟩

/-- A frame of the Akris link of a TYPE with LSEQ 0 and ACK `ack`. -/
def lf (kind ack : Nat) (payload : List Byte) : List Byte := linkOctets false 0 ack ⟨0, kind, payload⟩

/-- A PTP message of domain number `d` from clock 5, port 1. -/
def pm (kind d flags logInt : Nat) (corr : Int) (seq : Nat) (body : List Byte) (raw : FT) : PtpMsg :=
  let len := 34 + body.length
  ⟨0, true, [byte kind, 2#8] ++ beBytes 2 len ++ [byte d, 0#8] ++ beBytes 2 flags ++ beBytes 8 (ofSigned 64 corr) ++ zeros 4 ++
    beBytes 8 5 ++ beBytes 2 1 ++ beBytes 2 seq ++ [0#8, byte logInt] ++ body, raw, 0⟩

/-! ### Well-formedness refuses each kind of ill-formed command -/

theorem test_wf_refuses : [
    Instr.timeSet ⟨0, 10⟩ [], .timeSet ⟨2, 0⟩ [], .timeSet ⟨2, 9⟩ [], .timeSet w0 (zeros 1025), .dictRead w0 (zeros 1201) ci,
    .canRead 0 (zeros 9) ci, .missingEpoch 0, .joinReq 0 (zeros 2048) 0 0, .handoverAbort [], .handoverAbort [7#8],
    .handoverGo (8#8 :: zeros 8212), .ptpDelayReq ⟨0, true, [], ⟨0, 0, 4294967296⟩, 0⟩, .bridgeBlockReceived 0 ⟨true, [], []⟩,
    .navUnitDecoded 0 ⟨0, true, ⟨0, 0, 0⟩, List.replicate 8 true, none, none, none, false⟩, .operandPost 1 0 1 0 0 none,
    .canFrameReceived 0 0 (zeros 12) ⟨true, false, true, 0⟩ ci].all (fun i => !i.wellFormed) = true := by decide +kernel

theorem test_wf_accepts : [
    Instr.timeSet ⟨0, 9⟩ [], .timeSet ⟨2, 8⟩ (zeros 1024), .dictRead w0 (zeros 1200) ci, .canRead 0 (zeros 12) ci,
    .missingEpoch 128, .joinReq 0 (zeros 2047) 0 0, .handoverGo (8#8 :: zeros 8211), .operandPost 1 0 1 1 0 none,
    .ptpDelayReq ⟨0, true, [], ⟨0, 0, 4294967295⟩, 0⟩, .canFrameReceived 0 0 (zeros 8) ⟨true, false, true, 0⟩ ci].all
      (fun i => i.wellFormed) = true := by decide +kernel

/-! ### Field Time -/

/-- GNSS selected and usable. -/
def gnssSel : State := { st with time.selected := some .gnss, time.validGnss := some 0 }

theorem wit_TicksAndIncrements : st.incrementHeld = false ∧
    ({ st with gnss.pps.due := some ⟨0, 4000000, 0⟩ } : State).incrementHeld = true ∧
    st.pending = [] ∧ st.power.mode ≠ .backup ∧ (inMode .backup st).power.mode = .backup := by decide +kernel

/-- Both sides of the limit of R60: 1 ms is slewed, 1 unit more is a step. -/
theorem wit_FieldTimeStepsAndSets :
    (gnssSel.time.selected = some .gnss ∧ gnssSel.usable .gnss = true ∧
      gnssSel.time.pending = none ∧ -nsUnits 1000000000 < nsUnits 1000000) ∧
    (after .timeStateEvaluation { gnssSel with time.gnssDelta := nsUnits 1000000 }).time.remaining = nsUnits 1000000 ∧
    ((after .timeStateEvaluation { gnssSel with time.gnssDelta := nsUnits 1000000 + 1 }).time.pending.map fun p => p.delta) =
      some (nsUnits 1000000 + 1) ∧
    (st.time.selected = none ∧ sources.all (fun x => st.qualified x = false) = true) ∧
    (st.cfg 0x200900 < 0xFFFFFFFF ∧ sources.all (fun x =>
      ({ st with time.state := .holdover, time.estimate := 0xFFFFFFFF } : State).qualified x = false) = true) ∧
    ({ st with time.state := .holdover } : State).time.state = .holdover ∧ st.time.state ≠ .holdover ∧
    ((inMode .maintain (owner st)).roleOf w0 = 3 ∧ (inMode .maintain (owner st)).power.mode = .maintain ∧
      (leBytes 16 (2 ^ 64)).length = 16 ∧ leNat (leBytes 16 (2 ^ 64)) % 2 ^ 64 = 0 ∧
      (inMode .maintain (owner st)).time.pendingSet = none) ∧
    ({ st with time.pending := some ⟨.gnss, 5, 7, false⟩ } : State).time.pending = some ⟨.gnss, 5, 7, false⟩ ∧
    ({ st with time.pendingSet := some 9 } : State).time.pendingSet = some 9 ∧
    ({ st with time.pending := some ⟨.gnss, 5, 7, true⟩ } : State).time.pending = some ⟨.gnss, 5, 7, true⟩ := by
  decide +kernel

/-- A PPS edge is due, and Field Time has come to it. -/
def ppsDue : State :=
  { st with power.domains := 0x3FF, power.mode := .solo, time.now := ⟨1, 0, 0⟩,
            time.comparators := setAt st.time.comparators 1 ⟨2, false, some ⟨1, 0, 0⟩, 0⟩, gnss.pps.due := some ⟨1, 0, 0⟩ }

/-- The end of the first slot. -/
def slot1 : State := { st with time.now := ⟨0, 4000000, 0⟩ }

theorem wit_ComparatorsAndReferenceLoss :
    ((slot1.comparator 0).target = some ⟨0, 4000000, 0⟩ ∧ FT.le ⟨0, 4000000, 0⟩ slot1.now = true ∧
      (slot1.comparator 0).owner < 0x300 ∧ (slot1.comparator 0).owner ≠ 2 ∧
      ((slot1.comparator 0).owner = 1 → slot1.pair.yield = false ∧ slot1.pair.handover = none) ∧
      ∀ n < 8, (slot1.comparator 0).owner = 0x100 + n → (slot1.air.ports[n]?).bind AirPort.armed = none) ∧
    ((ppsDue.comparator 1).target = some ⟨1, 0, 0⟩ ∧ FT.le ⟨1, 0, 0⟩ ppsDue.now = true ∧ (ppsDue.comparator 1).owner = 2 ∧
      ppsDue.ppsHeld = false ∧ ppsDue.gnss.pps.due = some ⟨1, 0, 0⟩) ∧
    (st.comparator 31).target = none ∧
    ((st.comparator 0).target = some ⟨0, 4000000, 0⟩ ∧ FT.lt st.now ⟨0, 4000000, 0⟩ = true) ∧
    ((after (.comparatorFire 0) slot1).comparator 0).target = some ⟨0, 8000000, 0⟩ := by
  decide +kernel

/-! ### GNSS -/

/-- Every chain NORMAL, in SOLO. -/
def chainsUp : State :=
  inMode .solo { st with power.domains := 0x3FF, gnss.chains := List.replicate 4 { Chain.init with state := .normal } }

/-- Chain 0 as given. -/
def chain0 (x : Chain) : State := { chainsUp with gnss.chains := setAt chainsUp.gnss.chains 0 x }

/-- ANT_A shorted once. -/
def shorted (n : Nat) : State :=
  { chainsUp with time.ticks := 500000000,
                  gnss.ports := [{ AntPort.init with status := 3, closed := false, shorts := List.replicate n 0 }, .init] }

/-- A whole block, every sample as given. -/
def block (i q : Nat) : Block := ⟨true, List.replicate 1024 (BitVec.ofNat 8 i, BitVec.ofNat 8 q), []⟩

/-- The limits of R91 (clipping), R95 (3.0 mA, 100.0 mA) and R96 (the fifth short, one second). -/
theorem wit_BridgeBlocksAndAntennaSupply :
    ((chainsUp.chain 3).state ≠ .off ∧ (Block.mk true [] []).intact = false) ∧
    (chainsUp.Shaped ∧ (block 0x7E 0x81).intact = true ∧ (block 0x7E 0x81).saturated = false) ∧ (st.chain 0).state = .off ∧
    (chainsUp.antSupply 1 = 1 ∧ (chainsUp.antPort 1).closed = true ∧ chainsUp.power.mode.chainsUp = true) ∧
    ((after (.antClassify 1 30) chainsUp).antPort 1).status = 2 ∧ ((after (.antClassify 1 1000) chainsUp).antPort 1).status = 2 ∧
    ((after (.antClassify 1 1001) chainsUp).antPort 1).status = 3 ∧
    (((shorted 1).antPort 0).status = 3 ∧ (shorted 1).antSupply 0 = 1 ∧
      ((shorted 1).antPort 0).shorts.head? = some 0 ∧ 0 + 500000000 ≤ (shorted 1).ticks) ∧
    (({ shorted 1 with time.ticks := 499999999 } : State).ticks < 0 + 500000000) ∧
    ((after (.antClassify 0 1001) (after (.antSwitchRetry 0) (shorted 4))).antPort 0).status = 4 ∧
    ((after (.antClassify 0 1001) (after (.antSwitchRetry 0) (shorted 3))).antPort 0).status = 3 := by
  refine ⟨by decide +kernel, ⟨shaped_of _ (by decide +kernel), by decide +kernel⟩, ?_⟩
  decide +kernel

/-- A chain in ADAPT. -/
def adapting : Chain := { Chain.init with state := .adapt, gain := 10 }

/-- The same with every trap ADAPTING far away, its interferer gone at tick 0. -/
def trapped : Chain := { adapting with traps := List.replicate 8 ⟨1, 0, 1, 20, 10000000, 0, some 0⟩ }

/-- `s` 100 ms after reset. -/
def at100ms (s : State) : State := { s with time.ticks := 50000000 }

/-- R100 takes the highest bin, the second here; R101 and R102 wait 100 ms. -/
theorem wit_TrapsAndAdaptation :
    ((chain0 adapting).Shaped ∧ (chain0 adapting).domainOn 5 = true ∧ ((chain0 adapting).chain 0).state.adapting = true ∧
      candidateBin ((chain0 adapting).cfg 0x240900) ((chain0 adapting).chain 0).traps [⟨5, 99, 3, 2⟩, ⟨9, 100, 3, 2⟩] =
        some ⟨9, 100, 3, 2⟩ ∧
      (((chain0 adapting).chain 0).traps.findIdx? fun x => x.state == 0) = some 0) ∧
    ((chain0 trapped).Shaped ∧ ((chain0 trapped).chain 0).state.adapting = true ∧
      candidateBin ((chain0 trapped).cfg 0x240900) ((chain0 trapped).chain 0).traps [⟨5, 100, 3, 2⟩] = some ⟨5, 100, 3, 2⟩ ∧
      ((chain0 trapped).chain 0).traps.all (fun x => x.state != 0) = true) ∧
    ((((at100ms (chain0 trapped)).chain 0).traps.getD 7 .init).low = some 0 ∧ 0 + 50000000 ≤ (at100ms (chain0 trapped)).ticks) ∧
    (((chain0 adapting).chain 0).traps.getD 7 .init).low = none ∧
    ((at100ms (chain0 adapting)).Shaped ∧ (chain0 adapting).power.mode ≠ .test ∧
      (at100ms (chain0 adapting)).adaptOver 0 = true) ∧
    (chain0 trapped).adaptOver 0 = false ∧ st.domainOn 5 = false := by
  refine ⟨⟨shaped_of _ (by decide +kernel), by decide +kernel⟩, ⟨shaped_of _ (by decide +kernel), by decide +kernel⟩,
    by decide +kernel, by decide +kernel, ⟨shaped_of _ (by decide +kernel), by decide +kernel⟩, by decide +kernel⟩

/-- A chain in SETTLE whose peaks are not clear, after `n` restarts. -/
def settling (n ji : Nat) : Chain := { Chain.init with state := .settle, restarts := n, ji := ji, gainCount := 1, episode := true }

/-- `s` a thousand hours later. -/
def later (s : State) : State := { s with time.ticks := 1800000000000000 }

theorem wit_RecoveryAndJamming :
    ((later (chain0 (settling 0 0))).Shaped ∧ ((chain0 (settling 0 0)).chain 0).state = .settle ∧
      (chain0 (settling 0 0)).power.mode ≠ .test ∧
      (later (chain0 (settling 0 0))).chainLasted 0 ((chain0 (settling 0 0)).cfg 0x240B00) = true ∧
      (chain0 (settling 0 0)).chainClear 0 = true) ∧
    ((chain0 (settling 2 255)).chainClear 0 = false ∧ ((chain0 (settling 2 255)).chain 0).restarts < 3) ∧
    ((chain0 (settling 3 255)).chainClear 0 = false ∧ 3 ≤ ((chain0 (settling 3 255)).chain 0).restarts) ∧
    ((later (chain0 { adapting with episode := true })).Shaped ∧
      ((chain0 { adapting with episode := true }).chain 0).episode = true ∧
      secTicks (st.cfg 0x240C00) ≤ (later st).ticks - ((chain0 { adapting with episode := true }).chain 0).began) ∧
    (((chain0 { adapting with state := .excluded, cause := 1 }).chain 0).cause ≠ 2 ∧
      (later (chain0 { adapting with state := .excluded, cause := 1 })).chainLasted 0 (st.cfg 0x240D00) = true ∧
      ((chain0 { adapting with state := .excluded, cause := 2 }).chain 0).cause = 2) ∧
    (st.chainLasted 0 (st.cfg 0x240B00) = false ∧ st.chainLasted 0 (st.cfg 0x240D00) = false ∧
      st.ticks - (st.chain 0).began < secTicks (st.cfg 0x240C00)) ∧
    ((chain0 { Chain.init with state := .normal, gainCount := 1 }).Shaped ∧ chainsUp.domainOn 5 = true) ∧
    ((owner chainsUp).Shaped ∧ (owner chainsUp).writeCheck 3 0x240E00 [0x0F#8] = 0 ∧ (owner chainsUp).roleOf w0 = 3 ∧
      ∀ c, c < 4 → (leNat [0x0F#8]).testBit c = true →
        ((owner chainsUp).chain c).state = .normal ∨ ((owner chainsUp).chain c).state = .excluded) := by
  refine ⟨⟨shaped_of _ (by decide +kernel), by decide +kernel⟩, by decide +kernel, by decide +kernel,
    ⟨shaped_of _ (by decide +kernel), by decide +kernel⟩, by decide +kernel, by decide +kernel,
    ⟨shaped_of _ (by decide +kernel), by decide⟩,
    shaped_of _ (by decide +kernel), by decide +kernel, by decide +kernel, by decide +kernel⟩
/-- Channel 7 as given, chains up. -/
def chan7 (x : Chan) : State := chainsUp.setChan 7 x

/-- A channel of a state with GPS L1 C/A of satellite 3. -/
def gps (c : ChanState) : Chan := { Chan.init with state := c, signal := 1, sv := 3, gloK := 15 }

/-- The row of GPS L1 C/A. -/
def l1ca : SignalRow := ⟨0x01, true, -8580000, 0, 1023000, 1, false, false, [0]⟩

/-- A search of channel 7 that ends at reset. -/
def search7 : Engine := ⟨⟨7, false, 100⟩, 20, 250, 1, 10, 0, false, 0⟩

/-- One search of channel 7 on engine 0. -/
def searching (fails : Nat) : State :=
  { chan7 { gps .search with fails := fails } with gnss.engines := [some search7, none] }

theorem wit_CorrelatorWordsAndTimeouts :
    ((chan7 (gps .track)).domainOn 5 = true ∧ ((chan7 (gps .track)).chan 7).state ≠ .idle ∧ (st.chan 7).state = .idle ∧
      signalRow ((chan7 (gps .track)).chan 7).signal = some l1ca) ∧
    ((later (chan7 (gps .pullIn))).Shaped ∧ ((chan7 (gps .pullIn)).chan 7).state = .pullIn ∧
      ((chan7 (gps .pullIn)).chan 7).entry + 500000000 ≤ (later (chan7 (gps .pullIn))).ticks ∧
      (chan7 (gps .pullIn)).gnss.queue.length < 64 ∧
      ((chan7 (gps .pullIn)).chan 7).refused ≠ some (FT.cycle (chan7 (gps .pullIn)).now)) ∧
    (chan7 (gps .pullIn)).ticks < ((chan7 (gps .pullIn)).chan 7).entry + 500000000 ∧
    (((chan7 (gps .reacquire)).chan 7).state = .reacquire ∧ secTicks ((later (chan7 (gps .reacquire))).cfg 0x243B00) ≤
      (later (chan7 (gps .reacquire))).ticks - ((chan7 (gps .reacquire)).chan 7).entry ∧
      (chan7 (gps .reacquire)).ticks - 0 < secTicks ((chan7 (gps .reacquire)).cfg 0x243B00)) := by
  refine ⟨by decide +kernel, ⟨shaped_of _ (by decide +kernel), by decide +kernel⟩, by decide +kernel, by decide +kernel⟩

/-- The code phase word of a GPS C/A code at rest and its limits (R126): a word inside stays, one outside is clamped. -/
theorem test_nco_clamped :
    (after (.ncoUpdate 7 (10 ^ 12) 0 0 false) (chan7 (gps .track))).counter 0x245006 = 2#64 := by decide +kernel

/-- The worked example of chapter 04: GPS L1 C/A at +2,500 Hz. -/
theorem test_words : carrierWord (-8577500) = -0x0D670000 ∧ l1ca.codeWord 15 2500 = 0x0199335E := by decide +kernel

/-- The worked example of chapter 03: 9 dB below G_ref and a bin 31 dB above the median give JI = 78. -/
theorem test_jamming : jamIndicator (36000 * 20) (22 * 3) 3 31 = 78 := by decide +kernel

/-- Channel 7 with a prompt sum of 3 on I alone in each of its 1,000 latest dumps, judged every millisecond. -/
def steady (c : ChanState) (q : Int) : State :=
  put 0x243800 1 (chan7 { gps c with due := 1, hist := [⟨⟨0#32, 0#32⟩, ⟨0#32, 0#32⟩, ⟨3#32, 0#32⟩, ⟨0#32, 0#32⟩, ⟨0#32, 0#32⟩,
    ⟨0#32, 0#32⟩, ⟨1#32, 0#32⟩, ⟨0#32, 0#32⟩⟩], cohs := List.replicate 999 (1, 3, q) })

/-- The sum of the interval that has ended enters the indicator whatever sign the secondary code gives it. -/
theorem steady_reaches (c : ChanState) (hc : c = .pullIn ∨ c = .track) (ms : Nat) (hm : ms = 100 ∨ ms = 1000) :
    (steady c 0).pliReaches ms ((steady c 0).loopWords 7 l1ca).1.cohs = some true := by
  have h : ∀ b : Bool, (steady c 0).pliReaches ms
      (((1, (0 + (if b = true then -1 else 1) * 3, 0 + (if b = true then -1 else 1) * 0)) :: List.replicate 999 (1, 3, 0)).take 1000) =
        some true := by
    rcases hc with rfl | rfl <;> rcases hm with rfl | rfl <;> intro b <;> cases b <;> decide +kernel
  rcases hc with rfl | rfl <;> exact h (Config.secondary 1 3 0)

/-- The same for the loss of phase lock. -/
theorem steady_lost :
    (steady .locked 9).pliReaches 200 ((steady .locked 9).loopWords 7 l1ca).1.cohs = some false := by
  have h : ∀ b : Bool, (steady .locked 9).pliReaches 200
      (((1, (0 + (if b = true then -1 else 1) * 3, 0 + (if b = true then -1 else 1) * 0)) :: List.replicate 999 (1, 3, 9)).take 1000) =
        some false := by
    intro b; cases b <;> decide +kernel
  exact h (Config.secondary 1 3 0)

theorem wit_AcquisitionAndLoops :
    ((chan7 (gps .idle)).Shaped ∧ ((chan7 (gps .idle)).chan 7).state = .idle ∧ ((chan7 (gps .idle)).chan 7).signal ≠ 0 ∧
      ((chan7 (gps .idle)).chan 7).refused ≠ some (FT.cycle (chan7 (gps .idle)).now) ∧
      (chan7 (gps .idle)).gnss.queue.length < 64) ∧
    64 ≤ ({ chan7 (gps .idle) with gnss.queue := List.replicate 64 ⟨9, false, 0⟩ } : State).gnss.queue.length ∧
    ((chan7 { gps .idle with refused := some 0 }).chan 7).refused = some (FT.cycle (chan7 (gps .idle)).now) ∧
    ((searching 2).gnss.engines.getD 0 none = some search7 ∧ search7.done ≤ (searching 2).ticks ∧
      ((searching 2).chan 7).state = .search ∧ signalRow ((searching 2).chan 7).signal = some l1ca ∧
      2 ≤ ((searching 2).chan 7).fails) ∧
    st.ticks < ({ search7 with done := 1 } : Engine).done ∧
    ((after (.acqSearchComplete 0 ((searching 2).cfg 0x244200) 41 5) (searching 2)).chan 7).state = .pullIn ∧
    ((after (.acqSearchComplete 0 ((searching 2).cfg 0x244200 - 1) 41 5) (searching 2)).chan 7).state = .idle ∧
    ((searching 1).chan 7).fails < 2 ∧
    (((steady .pullIn 0).chan 7).state = .pullIn ∧ 1 ≤ ((steady .pullIn 0).chan 7).due ∧
      (steady .pullIn 0).ticks - ((steady .pullIn 0).chan 7).entry ≤ 500000000 ∧
      (steady .pullIn 0).pliReaches 100 ((steady .pullIn 0).loopWords 7 l1ca).1.cohs = some true) ∧
    ((steady .track 0).interval 7 ≤ ((steady .track 0).chan 7).due ∧
      (steady .track 0).pliReaches 1000 ((steady .track 0).loopWords 7 l1ca).1.cohs = some true) ∧
    ((steady .locked 9).interval 7 ≤ ((steady .locked 9).chan 7).due ∧
      (steady .locked 9).pliReaches 200 ((steady .locked 9).loopWords 7 l1ca).1.cohs = some false) := by
  refine ⟨⟨shaped_of _ (by decide +kernel), by decide +kernel⟩, by decide +kernel, by decide +kernel, by decide +kernel,
    by decide +kernel, by decide +kernel, by decide +kernel, by decide +kernel,
    ⟨by decide +kernel, by decide +kernel, by decide +kernel, steady_reaches _ (.inl rfl) _ (.inl rfl)⟩,
    ⟨by decide +kernel, steady_reaches _ (.inr rfl) _ (.inr rfl)⟩, by decide +kernel, steady_lost⟩

/-- A candidate of the ANT_A chain of the lower band exactly at the mask, where channel 7 holds another. -/
theorem wit_AllocationKeepsToCandidates :
    chainsUp.domainOn 5 = true ∧ (chainsUp.chain (chainsUp.chainOf 511)).state ≠ .off ∧
    (signalRow 3).map (fun r => r.upper) = some false ∧ chainsUp.signalEnabled 3 = true ∧
    (chainsUp.cfg 0x243300 : Int) * 100 ≤ (chainsUp.cfg 0x243300 : Int) * 100 ∧ (chainsUp.chain 0).state ≠ .off ∧
    chainsUp.gnss.barred = [] ∧
    ((List.range 512).any fun k => (((after (.channelAllocation [⟨3, 9, 0, chainsUp.cfg 0x243300 * 100⟩]) chainsUp).chan k).signal ==
      3)) = true ∧
    bankChain (put 0x243000 0 chainsUp).gnss.bankMap (511 / 32) ≠ bankChain ((put 0x243000 0 chainsUp).cfg 0x243000) (511 / 32) := by
  decide +kernel

/-- Eighty-five bits, a unit that a GLONASS signal carries. -/
def string85 : NavUnit := ⟨11, true, ⟨0, 0, 0⟩, List.replicate 85 true, none, none, none, false⟩

theorem wit_MeasurementsAndNavigation :
    ((chan7 { gps .locked with tow := some 0 }).domainOn 5 = true ∧
      ((chan7 { gps .locked with tow := some 0 }).chan 7).state ≠ .idle ∧
      signalRow ((chan7 { gps .locked with tow := some 0 }).chan 7).signal = some l1ca ∧
      ((chan7 { gps .locked with tow := some 0 }).chan 7).state = .locked ∧
      ((chan7 { gps .locked with tow := some 0 }).chan 7).tow = some 0) ∧
    ((chan7 (gps .track)).chan 7).state = .track ∧
    ((signalRow 0x31).any fun r => string85.fits r) = true ∧ (st.chan 7).state = .idle := by decide +kernel

/-- The largest 85-bit unit of R147: its first bit is bit 7 of the first octet, zeros follow the 85 bits. -/
theorem test_nav_bits : packBits 80 string85.bits = List.replicate 10 0xFF#8 ++ [0xF8#8] ++ zeros 69 := by decide +kernel

/-- A record of channel 7 whose C/N0 of 51 dB-Hz, with seven more like it, C7 would judge; released or not. -/
def epochAt (released : Bool) (nsec : Nat) : State :=
  { chan7 (gps .locked) with gnss.released := released, time.now := ⟨9, nsec, 0⟩ }

theorem wit_IntegrityAndGnssTime :
    ((epochAt false 3000000).domainOn 5 = true ∧ (epochAt false 3000000).gnss.released = false ∧
      FT.le (epochAt false 3000000).now (FT.addNs (FT.cycleStart (epochAt false 3000000).now) 3000000) = true ∧
      (epochAt false 3000000).epochRecs = [] ∧ ((epochAt false 3000000).chain 0).state = .normal ∧
      (epochAt false 3000000).follows = false) ∧
    ((epochAt true 0).gnss.released = true ∧
      FT.lt (FT.addNs (FT.cycleStart (epochAt false 3000001).now) 3000000) (epochAt false 3000001).now = true) ∧
    ((epochAt false 3000000).pending = [] ∧
      FT.le (FT.addNs (FT.cycleStart (epochAt false 3000000).now) 3000000) (epochAt false 3000000).now = true) ∧
    FT.lt (epochAt false 2999999).now (FT.addNs (FT.cycleStart (epochAt false 2999999).now) 3000000) = true ∧
    (((chan7 { gps .locked with hist := [⟨⟨3#32, 0#32⟩, ⟨0#32, 0#32⟩, ⟨1#32, 0#32⟩, ⟨0#32, 0#32⟩, ⟨0#32, 0#32⟩, ⟨0#32, 0#32⟩,
        ⟨0#32, 0#32⟩, ⟨0#32, 0#32⟩⟩] }).chan 7).state ≠ .idle ∧
      (asymmetryAgainst (st.cfg 0x246C00) [⟨⟨3#32, 0#32⟩, ⟨0#32, 0#32⟩, ⟨1#32, 0#32⟩, ⟨0#32, 0#32⟩, ⟨0#32, 0#32⟩, ⟨0#32, 0#32⟩,
        ⟨0#32, 0#32⟩, ⟨0#32, 0#32⟩⟩]).1 = true ∧
      (st.chan 8).state = .idle) := by decide +kernel

theorem wit_TimePulse :
    st.pulseSuppressed = true ∧ ((put 0x247000 1 chainsUp).pulseSuppressed = false ∧
      FT.le (FT.addNs (put 0x247000 1 chainsUp).now 8) (FT.addUnits (put 0x247000 1 chainsUp).pulseTime (-nsUnits 2)) = false) ∧
    FT.le (FT.addNs ({ put 0x247000 1 chainsUp with time.now := ⟨0, 996000000, 0⟩ } : State).now 8)
      (FT.addUnits ({ put 0x247000 1 chainsUp with time.now := ⟨0, 996000000, 0⟩ } : State).pulseTime (-nsUnits 2)) = true ∧
    (ppsDue.Shaped ∧ (ppsDue.comparator 1).target = some ⟨1, 0, 0⟩ ∧ FT.le ⟨1, 0, 0⟩ ppsDue.now = true ∧
      (ppsDue.comparator 1).owner = 2 ∧ ppsDue.ppsHeld = false ∧ ppsDue.gnss.pps.due = some ⟨1, 0, 0⟩) ∧
    ((({ ppsDue with gnss.pps.due := none } : State).comparator 1).target = some ⟨1, 0, 0⟩ ∧
      ({ ppsDue with gnss.pps.active := true } : State).gnss.pps.active = true) ∧
    ({ ppsDue with power.mode := .boot } : State).ppsHeld = true := by
  refine ⟨by decide +kernel, by decide +kernel, by decide +kernel, ⟨shaped_of _ (by decide +kernel), by decide +kernel⟩,
    by decide +kernel, by decide +kernel⟩

/-- The worked example of chapter 05: D = 1,893,456,007 s + 999,999,976.625 ns, t_k 1,062.5 ps before it, F = 4, QERR −62,500 fs. -/
theorem test_pulse_example :
    ((({ put 0x247100 (-23375) st with time.now := ⟨1893456007, 996000000, 0⟩ } : State).pulseMessage 0 false
      (({ put 0x247100 (-23375) st with time.now := ⟨1893456007, 996000000, 0⟩ } : State).pulseTime)
      (pulseRemainder (({ put 0x247100 (-23375) st with time.now := ⟨1893456007, 996000000, 0⟩ } : State).pulseTime)
        ⟨1893456007, 999999975, 0x90000000⟩)).drop 7).take 21 =
      [0x04#8, 0x00#8, 0x00#8, 0x00#8, 0xA0#8, 0xE8#8, 0xC9#8, 0x9A#8, 0x3B#8, 0x87#8, 0xD8#8, 0xDB#8, 0x70#8, 0#8, 0#8, 0#8, 0#8,
        0xDC#8, 0x0B#8, 0xFF#8, 0xFF#8] := by decide +kernel
/-! ### Corrections, Solve, the pipeline -/

/-- A reference position is committed, and machine 5 is as given. -/
def mach5 (m : Machine) : State := (chainsUp.modMachine 5 fun _ => m).show 0x280700 1

/-- A record of GPS L1 C/A with code and phase. -/
def rec1 (sv : Nat) : MeasRec := ⟨1 * 2 ^ 56 + sv * 2 ^ 48 + 2 ^ 41 + 2 ^ 40, 5, 7, 0⟩

/-- The same from a machine, at 50 dB-Hz. -/
def sig1 (sv : Nat) : ObsSig := ⟨1, sv, 15, some 5, some 7, 0, 9, true, false, 200⟩

/-- What machine 5 waits for: its Field Obs of cycle 3, satellites 3 to 6. -/
def wait5 : SolveWait := ⟨⟨0, 360000000, 0⟩, 3, ⟨0, false, false, [sig1 3, sig1 4, sig1 5, sig1 6]⟩, false⟩

/-- The base epoch of cycle 3. -/
def base3 : BaseEpoch := ⟨3, [rec1 3, rec1 4, rec1 5, rec1 6]⟩

/-- Machine 5 waits for the solution of cycle 3, whose base epoch and ephemerides are known; the elevation mask is 0 and the
origin the Earth's centre, where no direction is up. -/
def solving (v : SolveState) (n : Nat) : State :=
  putNow 0x281000 0 { mach5 { Machine.init with rtk := { Solver.init with solve := v, count := n }, wait := some wait5 } with
    pipe.bases := [base3], gnss.ephs := [(3, ⟨some [], none⟩), (4, ⟨some [], none⟩), (5, ⟨some [], none⟩), (6, ⟨some [], none⟩)] }

/-- The outcome of that epoch. -/
def outcome (v : SolveState) (n : Nat) : EpochOut :=
  ((solving v n).machine 5).rtk.epoch (solving v n).solveSet (0, 0, 0) (solving v n).ephOf 3 (base3.view 3 0) wait5.obs

theorem level (d : Vec) : dot d (axisOf (localAxes (0, 0, 0)) 2) / max 1 (vlen d) = 0 := by
  have h : axisOf (localAxes (0, 0, 0)) 2 = (0, 0, 0) := by decide +kernel
  simp [h, dot]

/-- Four satellites are in common, whatever their ephemerides give. -/
theorem outcome_common (v : SolveState) (n : Nat) : (outcome v n).common = 4 := by
  have h : (solving v n).solveSet = (solving .none 0).solveSet := rfl
  have e : (solving v n).ephOf = (solving .none 0).ephOf := rfl
  unfold outcome Solver.epoch commonSignals
  simp only [level, h, e]
  decide +kernel

theorem wit_SolutionStates :
    (∀ v, (solving v 4).Shaped ∧ ((solving v 4).machine 5).wait = some wait5 ∧ (solving v 4).refPosition = some (0, 0, 0) ∧
      (solving v 4).baseFor wait5.cycle = some base3 ∧ ((solving v 4).machine 5).rtk.solve = v ∧
      4 ≤ ((solving v 4).machine 5).rtk.count) ∧
    (∀ v n, 4 ≤ (outcome v n).common) ∧
    (({ solving .code 0 with pipe.bases := [] } : State).Shaped ∧
      ({ solving .code 0 with pipe.bases := [] } : State).baseFor wait5.cycle = none ∧ wait5.standIn = false ∧
      ((solving .code 0).shownNat 0x280700).testBit 0 = true) ∧
    ({ solving .code 0 with shown := [] } : State).refPosition = none ∧ (st.machine 5).wait = none := by
  refine ⟨fun v => ⟨shaped_of _ ?_, ?_⟩, fun v n => (outcome_common v n).symm ▸ by decide,
    ⟨shaped_of _ (by decide +kernel), by decide +kernel⟩, by decide +kernel⟩ <;>
  cases v <;> decide +kernel

/-- Machine 5, whose exchange of the slot that ended at 1 s brought nothing. -/
def missing (v : SolveState) (gap : Nat) : State :=
  { mach5 { Machine.init with rtk := { Solver.init with solve := v, gap := gap }, link := .associated, period := 1,
                              exchange := some ⟨1, 0, 0⟩ } with time.now := ⟨1, 4000000, 0⟩ }

theorem wit_MissingEpochsAndTimeouts :
    ((missing .provisional 0).Shaped ∧ ((missing .provisional 0).machine 5).exchange = some ⟨1, 0, 0⟩ ∧
      FT.le (FT.addNs ⟨1, 0, 0⟩ 4000000) (missing .provisional 0).now = true ∧
      ((missing .provisional 0).machine 5).observedAt ⟨1, 0, 0⟩ = false) ∧
    ((missing .provisional 0).machine 5).rtk.solve = .provisional ∧
    ((missing .fixed 20).eff 0x281B00 ≤ ((missing .fixed 20).machine 5).rtk.gap ∧
      ((missing .fixed 20).machine 5).rtk.solve = .fixed) ∧
    ({ (missing .fixed 0).machine 5 with wait := some { wait5 with end_ := ⟨1, 0, 0⟩ } } : Machine).observedAt ⟨1, 0, 0⟩ = true ∧
    ((st.machine 5).exchange = none ∧ FT.lt ⟨1, 3999999, 0⟩ (FT.addNs ⟨1, 0, 0⟩ 4000000) = true) ∧
    (((missing .fixed 0).machine 5).rtk.solve ≠ .none ∧ (let s : State := { missing .fixed 0 with time.now := ⟨3600, 0, 0⟩ }
      FT.le (FT.addNs (s.machine 5).lastObs (s.eff 0x281C00 * 1000000000)) s.now = true)) ∧
    FT.le (FT.addNs ((missing .fixed 0).machine 5).lastObs ((missing .fixed 0).eff 0x281C00 * 1000000000))
      (missing .fixed 0).now = false := by
  refine ⟨⟨shaped_of _ (by decide +kernel), by decide +kernel⟩, ?_⟩
  decide +kernel

/-- A Field Obs with the first satellite and signal of the worked example of chapter 06 (GPS 14, L1 C/A), RX_OFFSET 350 ns. -/
def exampleObs : List Byte :=
  [0x01#8, 0x15#8, 0x49#8, 0x75#8, 0x5E#8, 0x01#8, 0#8, 0#8, 1#8, 1#8, 0#8, 0#8, 0x0E#8, 0x0F#8, 0x83#8, 0x89#8, 0x4A#8, 0xE5#8, 0xEF#8,
    0x01#8, 0x6E#8, 0x00#8, 0x9F#8, 0xBF#8, 0xFF#8, 0x98#8, 0xB2#8]

/-- It decodes to the quantities of the example: rough range 4,884,867 × 2⁻¹⁶ ms, PR_FINE 110 × 2⁻²⁴ ms, CP_FINE −16,481 × 2⁻²⁹ ms,
−412.3 m/s, LOCK_IND 9 with the half cycle resolved, 44.5 dB-Hz. -/
theorem test_obs_example : obsDecode exampleObs = ⟨350, false, false,
    [⟨1, 14, 15, some ((4884867 * 8192 + 110 * 32) * 299792458), some ((4884867 * 8192 - 16481) * 299792458), -412300, 9, true, false,
      178⟩]⟩ := by decide +kernel

/-- The published frame of message 1005 (RTCM 10403, 3.1.1.1): its 19 octets and their CRC-24Q. -/
theorem test_rtcm_frame : rtcmFrame (bytesBits [0x3E#8, 0xD7#8, 0xD3#8, 0x02#8, 0x02#8, 0x98#8, 0x0E#8, 0xDE#8, 0xEF#8, 0x34#8, 0xB4#8,
      0xBD#8, 0x62#8, 0xAC#8, 0x09#8, 0x41#8, 0x98#8, 0x6F#8, 0x33#8]) =
    [0xD3#8, 0x00#8, 0x13#8, 0x3E#8, 0xD7#8, 0xD3#8, 0x02#8, 0x02#8, 0x98#8, 0x0E#8, 0xDE#8, 0xEF#8, 0x34#8, 0xB4#8, 0xBD#8, 0x62#8, 0xAC#8,
      0x09#8, 0x41#8, 0x98#8, 0x6F#8, 0x33#8, 0x36#8, 0x0B#8, 0x98#8] := by decide +kernel

/-- In SURVEY, with the survey of ANT_A complete on the equator. -/
def surveyed : State := ((owner (inMode .survey st)).show 0x280700 4).show 0x280801 63781370000

theorem wit_SurveyPositionsAndRtcm :
    surveyed.power.mode = .survey ∧ surveyed.posCommitCheck (surveyed.roleOf w0) [0x11#8] false = 0 ∧
    surveyed.dict.changes.length < 512 ∧ surveyed.Shaped ∧
    (after (.posCommit w0 [0x11#8] false) surveyed).corr.pending = some ⟨0x11, 3, 2, 1⟩ ∧ namesAnt 0x11 0 = true ∧
    ((mach5 .init).shownNat 0x280700).testBit 0 = true ∧ (st.shownNat 0x280700).testBit 0 = false := by
  refine ⟨by decide +kernel, by decide +kernel, by decide +kernel, shaped_of _ (by decide +kernel), ?_⟩
  decide +kernel

/-- One entry held and one logged. -/
def fed (source : Nat) (data : List Byte) : State :=
  { st with ingest.held := [⟨0, source, ⟨0, 0, 0⟩, data, 1⟩], ingest.unsorted := [⟨0, source, ⟨0, 0, 0⟩, data, 1⟩] }

theorem wit_IngestSortAndSolveDeadline :
    (fed 0x20 [0#8]).ingest.held = [⟨0, 0x20, ⟨0, 0, 0⟩, [0#8], 1⟩] ∧
    isTrackEdit (Edit.ofData 1 ⟨0, 0, 0⟩ (writeData 0x400100 3 (zeros 32))).obj = true ∧
    isTaskEdit (Edit.ofData 1 ⟨0, 0, 0⟩ (writeData 0x430100 3 (zeros 64))).obj = true ∧
    (after .sortInput (fed 0x20 [0#8])).pipe.stopOn = false ∧ (after .sortInput (fed 0x20 [1#8])).pipe.stopOn = true ∧
    ((solving .none 0).Shaped ∧ (solving .none 0).follows = false ∧
      (((solving .none 0).machine 5).wait.map fun w => (w.standIn, w.end_)) = some (false, wait5.end_) ∧
      { solving .none 0 with time.now := FT.addNs wait5.end_ 4000000 }.solveLate 5 = true ∧
      { solving .none 0 with time.now := FT.addNs wait5.end_ 3999999 }.solveLate 5 = false) ∧
    (inMode .standby st).follows = true := by
  refine ⟨by decide +kernel, by decide +kernel, by decide +kernel, by decide +kernel, by decide +kernel,
    ⟨shaped_of _ (by decide +kernel), by decide +kernel⟩, by decide +kernel⟩

/-- The per-cycle path runs, and machine 5 on AIR2 has one unit composed. -/
def composing : State :=
  { mach5 { Machine.init with link := .associated, port := 2 } with
    pipe.planning := true,
    pipe.composed := [⟨0, 5, 0, [], ⟨0, 0, 0⟩, ⟨0, 0, 0⟩⟩] }

/-- AIR0 alone enabled, outside a stop, in the slot before a DOWN slot. -/
def sending : State :=
  putNow 0x300000 1 { chainsUp with stop.latch := false, pair.output := true, time.now := ⟨0, 32000000, 0⟩ }

/-- Its port's comparator holds a frame that is due. -/
def edgeDue : State :=
  { sending with
    time.comparators := modAt sending.time.comparators 3 fun c => { c with owner := 0x100, target := some ⟨0, 32000000, 0⟩ },
    air.ports := modAt sending.air.ports 0 fun p => { p with armed := some ⟨7, [], false⟩ } }

theorem wit_ComposeLaunchAndSlots :
    (composing.pipe.planning = true ∧ composing.follows = false ∧ composing.composeWaits = false ∧
      { composing with time.now := ⟨0, 96000000, 0⟩, pipe.snapAt := ⟨0, 80000000, 0⟩ }.ripe ⟨0, 80000000, 0⟩ 16000000 = true ∧
      { composing with time.now := ⟨0, 95999999, 0⟩, pipe.snapAt := ⟨0, 80000000, 0⟩ }.ripe ⟨0, 80000000, 0⟩ 16000000 = false ∧
      composing.pipe.withheld ≠ some (FT.cycle composing.pipe.snapAt)) ∧ st.pipe.planning = false ∧
    (composing.Shaped ∧ composing.pipe.quiet ≠ some (FT.cycle composing.now) ∧
      (composing.machine 5).port < 8 ∧ ((after .launchRelease composing).launchList 2).length = 1) ∧
    ({ composing with pipe.quiet := some 0 } : State).pipe.quiet = some (FT.cycle composing.now) ∧
    (owner chainsUp).writeCheck ((owner chainsUp).roleOf w0) 0x2C0900 [1#8] = 0 ∧
    (({ sending with stop.latch := true } : State).Shaped ∧ sending.comparatorOf 0x100 = none ∧
      sending.releasesAt (FT.addNs (FT.slotStart sending.now) 4000000) = false ∧
      FT.le sending.stop.quietUntil (FT.addNs (FT.slotStart sending.now) 4000000) = true) ∧
    (sending.Shaped ∧ sending.stop.latch = false ∧ sending.pair.output = true ∧ sending.airEnabled = 1 ∧
      sending.slotKind 0 (FT.slot (FT.addNs (FT.slotStart sending.now) 4000000)) = 4) ∧
    (edgeDue.Shaped ∧ (edgeDue.comparator 3).owner = 0x100 ∧ (edgeDue.airPort 0).armed = some ⟨7, [], edgeDue.stop.latch⟩ ∧
      (after (.comparatorFire 3) edgeDue).out.head? = some (.air 0 7 [])) ∧
    ({ st with time.pending := some ⟨.gnss, 5, 7, false⟩ } : State).time.pending = some ⟨.gnss, 5, 7, false⟩ ∧
    (st.time.pending = none ∧ st.time.pendingSet = none) := by
  refine ⟨by decide +kernel, by decide +kernel, ⟨shaped_of _ (by decide +kernel), by decide +kernel⟩, by decide +kernel,
    by decide +kernel, ⟨shaped_of _ (by decide +kernel), by decide +kernel⟩, ⟨shaped_of _ (by decide +kernel), by decide +kernel⟩,
    ⟨shaped_of _ (by decide +kernel), by decide +kernel⟩, ?_⟩
  decide +kernel
/-! ### The scheduler -/

/-- An operand of template 9, key 4. -/
def opnd (i slot : Nat) (res : Bool) : Operand := ⟨slot, res, 9, 4, i, 15, 2, ⟨0, 0, 0⟩, none⟩

/-- A store without room for priority 0 and in the shared pool. -/
def fullStore : State :=
  { st with sched.store := List.replicate 32 (opnd 1 0 true) ++ List.replicate 1792 (opnd 1 1 false) }

/-- One operand of class 15 held since 0, at an instant: its lifetime is 60 s. -/
def aging (now : FT) : State := { st with sched.store := [opnd 1 0 true], time.now := now }

theorem wit_MatchingStore :
    (st.sched.freeOwn (classPrio 15) ≠ 0 ∧ st.sched.freeSlots ≠ [] ∧ (st.sched.instanceOf 9 4).length < 1 ∧
      st.sched.ready = []) ∧
    (after (.operandPost 9 4 15 1 0 none) st).sched.store.length = 1 ∧
    (st.sched.instanceOf 9 4 = [] ∧ st.sched.cores.all (fun x => x.state != 1) = true) ∧
    (after (.operandPost 9 4 15 0 0 none) st).sched.ready.length = 1 ∧
    3 ∈ ({ st with sched.withdrawn := [3] } : State).sched.withdrawn ∧
    (fullStore.sched.store.all (fun o => o.index != 0) = true ∧ fullStore.sched.freeOwn (classPrio 15) = 0 ∧
      fullStore.sched.freeShared = 0) ∧
    ((aging ⟨60, 0, 0⟩).sched.instanceOf 9 4 = [opnd 1 0 true] ∧ (aging ⟨60, 0, 0⟩).ripe ⟨0, 0, 0⟩ (lifetime 15) = true ∧
      (aging ⟨59, 999999999, 4294967295⟩).ripe ⟨0, 0, 0⟩ (lifetime 15) = false) := by decide +kernel

/-- PD_CPU on, one operation of class 10 ready in queue `p` since 0, core 2 in state `n`. -/
def ready (p n : Nat) : State :=
  { st with power.domains := 0x3FF, sched.ready := [⟨9, 4, 10, p, ⟨0, 0, 0⟩, 0, none⟩],
            sched.cores := setAt st.sched.cores 2 ⟨n, 0, some ⟨9, 4, 10, p, ⟨0, 0, 0⟩, 0, none⟩, ⟨0, 0, 0⟩, 0⟩ }

/-- The trace streams to a sink: `n` records of Field Time 0 wait. -/
def streaming (n : Nat) (now : FT) : State :=
  { st.setCfg 0x2F3501 (.oct [10#8, 0#8, 0#8, 1#8, 0#8, 80#8]) with
    sched.trace := List.replicate n ⟨0, 0⟩, sched.head := n, time.now := now }

/-- Hold limits (10 ms for class 10), the watchdog's 80,000 counts and the 10 ms of a datagram, at their edges. -/
theorem wit_CoresAndTrace :
    ((ready 3 2).Shaped ∧ ((ready 3 2).coreAt 2).state ≠ 3 ∧ (ready 3 2).domainOn 3 = true ∧ (ready 3 2).pending = [] ∧
      (List.range 16).all (fun j => ((ready 3 2).coreAt j).state != 1) = true ∧
      mostUrgent (ready 3 2).sched.ready = some ⟨9, 4, 10, 3, ⟨0, 0, 0⟩, 0, none⟩) ∧
    (({ ready 3 2 with sched.ready := [] } : State).sched.ready = []) ∧
    (((ready 5 2).sched.ready.find? fun x => x.template == 9 && x.key == 4).map (fun o => o.prio) = some 5 ∧
      holdLimit 10 ≠ 0 ∧ classPrio 10 = 3 ∧
      { ready 5 2 with time.now := ⟨0, 30000000, 0⟩ }.ripe ⟨0, 0, 0⟩ ((5 - classPrio 10 + 1) * holdLimit 10) = true ∧
      { ready 5 2 with time.now := ⟨0, 29999999, 0⟩ }.ripe ⟨0, 0, 0⟩ ((5 - classPrio 10 + 1) * holdLimit 10) = false) ∧
    ((ready 3 1).coreAt 2).state ≠ 2 ∧
    (let s : State := { ready 3 2 with time.hb := 80000 }
     (s.coreAt 2).state = 2 ∧ s.hbPassed (s.coreAt 2).handedHb 80000 = true ∧ s.arriving (takes 2) = false ∧ s.inPair = false ∧
       { s with time.hb := 79999 }.hbPassed (s.coreAt 2).handedHb 80000 = false) ∧
    (st.sinkUsed 0x2F3501 = false ∧ st.sinkUsed 0x2F3502 = false) ∧
    ((streaming 80 ⟨0, 0, 0⟩).sinkUsed 0x2F3501 = true ∧ (streaming 80 ⟨0, 0, 0⟩).traceDue 0 = true ∧
      (streaming 79 ⟨0, 0, 0⟩).traceDue 0 = false ∧ (streaming 79 ⟨0, 10000000, 0⟩).traceDue 0 = true ∧
      (after .traceDatagram (streaming 80 ⟨0, 0, 0⟩)).sched.sent = 80) ∧
    (owner chainsUp).writeCheck ((owner chainsUp).roleOf w0) 0x2F0300 [1#8] = 0 := by
  refine ⟨⟨shaped_of _ (by decide +kernel), by decide +kernel⟩, ?_⟩
  decide +kernel
/-! ### Tables, reservations, tasks -/

/-- A node and a segment of 1 m from node 0 to node 1. -/
def nodeAt (x : Int) : Node := ⟨x, 0, 0, true, 0, 0⟩
def seg0 : Seg := { Seg.blank with valid := true, src := 0, dst := 1, length := 100, speed := 1, halfWidth := 1 }

/-- A held entry of machine 7, a host reservation, two nodes, a segment, an OPEN task 3, a FAILED task 4. -/
def tables (m : Mode) : State :=
  let s := owner (inMode m st)
  { s with tracks := ((((s.tracks.putNode 0 (nodeAt 0)).putNode 1 (nodeAt 1000)).putSeg 0 seg0).putEntry 0
                        ⟨.held, 1, 7, 0, 0, 0, 1000⟩).putEntry 1 ⟨.confirmed, 0, 0, 0, 0, 90000, 91000⟩,
           tasks.tasks := [(3, { Task.blank with state := .open_ }), (4, { Task.blank with state := .failed })] }

/-- Commands of 0x2D30 and 0x2E30 without their first octet. -/
def resCmd (machine target a b : Nat) : List Byte := leBytes 1 machine ++ leBytes 2 target ++ zeros 4 ++ leBytes 8 a ++ leBytes 8 b
def taskCmd (i : Nat) : List Byte := 0#8 :: leBytes 2 i ++ zeros 4

/-- A task from node 0 to node 1 for every machine class. -/
def task0 : Task := { Task.blank with startNode := 0, endNode := 1, classes := 0xFFFF }

/-- The rows of R292, R293 and R301 let these writes of an owner through. -/
def editsPass (s : State) : Bool :=
  ([(0x400100, Node.encode (nodeAt 5)), (0x410100, Seg.encode seg0), (0x2D3000, 1#8 :: resCmd 0 0 50000 60000),
    (0x2D3000, 2#8 :: resCmd 0 1 0 0), (0x2D3000, 3#8 :: resCmd 7 0 0 0), (0x2D3000, 4#8 :: resCmd 0 0 0 0),
    (0x430100, Task.encode task0), (0x2E3000, 1#8 :: taskCmd 3), (0x2E3000, 2#8 :: taskCmd 4),
    (0x2E3000, 3#8 :: taskCmd 4)] : List (Nat × List Byte)).all fun e =>
      s.writeCheck (s.roleOf w0) e.1 e.2 == 0 && s.editOk e.1 e.2

/-- Where the per-cycle path runs they are logged. -/
theorem wit_TableWritesAreLogged :
    editsPass (tables .solo) = true ∧ (tables .solo).perCycle = true ∧ (tables .solo).ingestOpen = true ∧
    (tables .solo).ingest.held.length < 256 := by decide +kernel

theorem wit_TrackEditsApply :
    editsPass (tables .maintain) = true ∧ (tables .maintain).perCycle = false ∧
    (((List.range 8).all fun g => !(tables .maintain).tracks.gatesOn g) = true) ∧
    (let s := put 0x400000 2 (tables .maintain)
     tableRows (fun _ => 0) ⟨0, s.now, 0x400100, 2, Node.encode (nodeAt 5)⟩ s.tracks (s.tracks.putNode 2 (nodeAt 5)) = true ∧
     s.writeCheck (s.roleOf w0) 0x400100 (Node.encode (nodeAt 5)) = 0) ∧
    tableRows (fun g => (tables .maintain).gateLead g) ⟨0, ⟨0, 0, 0⟩, 0x410100, 0, Seg.encode seg0⟩ (tables .maintain).tracks
      ((tables .maintain).tracks.putSeg 0 seg0) = true ∧
    (let s : State := { tables .maintain with tracks.res := [] }
     (s.hostCreate (FT.nextCycleMs s.now % 2 ^ 40) (1#8 :: resCmd 0 0 50000 60000)).1 = 0 ∧ editsPass s = true) ∧
    (((tables .maintain).tracks.entry 1).state ≠ .free ∧ ((tables .maintain).tracks.entry 1).machine = 0) ∧
    ((tables .maintain).tracks.entry 0).state = .held ∧
    SMap.wf (fun _ => Resv.free) (tables .maintain).tracks.res = true := by decide +kernel

theorem wit_TaskEditsApply :
    editsPass (tables .maintain) = true ∧ ((tables .maintain).task (st.cfg 0x430000)).state = .empty ∧
    ((tables .maintain).tracks.node (Task.decode (Task.encode task0)).startNode).valid = true ∧
    ((tables .maintain).tracks.node (Task.decode (Task.encode task0)).endNode).valid = true ∧
    commandFits 1 ((tables .maintain).task 3) = true ∧ ((tables .maintain).task 4).state = .failed ∧
    commandFits 3 ((tables .maintain).task 4) = true := by decide +kernel

/-- Two entries of machine 7 under check, and a start of task 4 reported. -/
def checking : State :=
  { tables .solo with
      tracks.open_ := true, tracks.legs := [⟨7, 1, [2], 5⟩], pipe.stopSnap := true,
      tracks.res := [(2, ⟨.speculative, 0, 7, 0, 1, 1000, 2000⟩)],
      tasks.due := true, tasks.inReports := [⟨7, 3, 9, 1, 0, ⟨0, 0, 0⟩⟩],
      tasks.tasks := [(3, { Task.blank with state := .awarded, machine := 7, award := 9 })] }

/-- The same at an instant, its snapshot at 80 ms. -/
def checkingAt (ns : Nat) : State := { checking with time.now := ⟨0, ns, 0⟩, pipe.snapAt := ⟨0, 80000000, 0⟩ }

/-- The deadlines at their edges. -/
theorem wit_SnapshotReserveAllot :
    checking.perCycle = true ∧ checking.pipe.void = none ∧ (tables .maintain).perCycle = false ∧
    (checking.tracks.open_ = true ∧ checking.tracks.legs = [⟨7, 1, [2], 5⟩] ∧ checking.legConflict ⟨7, 1, [2], 5⟩ = none) ∧
    ((checkingAt 88000000).follows = false ∧ (checkingAt 88000000).ripe ⟨0, 80000000, 0⟩ 8000000 = true ∧
      (checkingAt 88000000).arriving endsCheck = false ∧ (checkingAt 87999999).ripe ⟨0, 80000000, 0⟩ 8000000 = false ∧
      (checkingAt 95000000).ripe ⟨0, 80000000, 0⟩ 15000000 = true ∧
      (checkingAt 94999999).ripe ⟨0, 80000000, 0⟩ 15000000 = false ∧ (checkingAt 95000000).arriving runsAllot = false) ∧
    checking.tasks.due = true ∧ st.tasks.due = false ∧ st.follows = false ∧
    (checking.pipe.stopSnap = true ∧ checking.tasks.inEdits = [] ∧ (checking.task 3).state = .awarded ∧
      (checking.task 3).machine = 7 ∧ (checking.task 3).award = 9) ∧
    ((after .allotRun checking).task 3).state = .running ∧
    ((after .reserveCheckComplete checking).tracks.entry 2).state = .confirmed := by decide +kernel
/-! ### Field Air and stop -/

/-- AIR0 and AIR1 enabled, outside a stop, a reception of 400 µs after the start of slot `i` complete. -/
def airUp (i : Nat) : State :=
  putNow 0x300000 3 { chainsUp with stop.latch := false, pair.output := true, pipe.stopOn := false,
                                    time.now := ⟨0, i * 4000000 + 1120000, 0⟩ }

/-- Machine 5 ASSOCIATED at slot 2 of AIR0. -/
def airIn : State :=
  (airUp 2).modMachine 5 fun _ => { Machine.init with link := .associated, slot := 2, period := 1, missed := 3 }

/-- An UP frame of machine 5 without blocks, and a JOIN_REQ of an EUI-64. -/
def sealed (m : List Byte) : List Byte := m ++ fcs m
def upFrame : List Byte := sealed [0x15#8, 1#8, 0#8, 0#8, 5#8, 0#8, 1#8, 0#8, 2#8]
def joinFrame (eui : Nat) : List Byte :=
  sealed ([0x16#8, 0#8, 0#8, 0#8, 0xFE#8, 0xFF#8, 1#8, 0#8, 1#8] ++ leBytes 8 eui)

/-- Machine 1 is registered with EUI-64 9, and no slot is pinned. -/
def joinUp : State :=
  { airUp 1 with settings := (0x302001, .num 9) :: (List.range 128).map fun k => (0x302101 + k, .num 0) }

theorem wit_UplinkFrames :
    (airIn.Shaped ∧ airIn.airEnabled.testBit 0 = true ∧ airIn.stop.latch = false ∧ airIn.ingestOpen = true ∧
      airIn.follows = false ∧ airIn.ingest.held.length < 256 ∧ psduType upFrame = 5 ∧ field upFrame 4 2 = 5 ∧
      (airIn.machine 5).link = .associated ∧ airIn.rxCheck (airIn.rxFrame 0 upFrame 0 0) = 0 ∧
      (airIn.modMachine 5 fun m => { m with seq := 1 }).rxCheck (airIn.rxFrame 0 upFrame 0 0) = 9) ∧
    ((airIn.rxCheck (airIn.rxFrame 0 (upFrame ++ [0#8]) 0 0) = 5) ∧ airIn.rxCheck (airIn.rxFrame 0 upFrame 100000 0) = 0 ∧
      airIn.rxCheck (airIn.rxFrame 0 upFrame 100001 0) = 8) ∧
    ((airUp 2).airEnabled.testBit 2 = false ∧ st.stop.latch = true) ∧
    (joinUp.Shaped ∧ psduType (joinFrame 9) = 6 ∧ joinUp.rxCheck (joinUp.rxFrame 1 (joinFrame 9) 0 0) = 0 ∧
      (joinUp.airPort 1).queue.length < 8 ∧
      (machineNumbers.find? fun k => leNat (psduPayload (joinFrame 9)) != 0 &&
        joinUp.cfg (0x302000 + k) == leNat (psduPayload (joinFrame 9))) = some 1 ∧
      (joinUp.machine 1).link = .absent ∧ joinUp.pinned 1 = false ∧ (joinUp.assignSlot 1 1).isSome = true) ∧
    (machineNumbers.find? fun k => leNat (psduPayload (joinFrame 0)) != 0 &&
      (airUp 1).cfg (0x302000 + k) == leNat (psduPayload (joinFrame 0))) = none ∧
    (airUp 1).rxCheck ((airUp 1).rxFrame 1 (joinFrame 0) 0 0) = 0 := by
  have h : leNat (psduPayload (joinFrame 0)) = 0 := by decide +kernel
  exact ⟨⟨shaped_of _ (by decide +kernel), by decide +kernel⟩, by decide +kernel, by decide +kernel,
    ⟨shaped_of _ (by decide +kernel), by decide +kernel⟩, List.find?_eq_none.mpr (fun k _ => by rw [h]; simp),
    by decide +kernel⟩

/-- Machine 5 JOINING since cycle 0. -/
def joining (now : Nat) : State :=
  (airUp 2).modMachine 5 (fun _ => { Machine.init with link := .joining, slot := 2, period := 1, joinSent := some 0,
                                                       change := some (2, now) })

/-- The end of the slot's reception. -/
def slotLate (ns : Nat) : State := { airIn with time.now := ⟨0, 8000000 + ns, 0⟩ }
def slotEndS : State := slotLate 3900000

theorem wit_ExchangesAndPeriods :
    (FT.lt slotEndS.now (FT.addNs (FT.slotStart slotEndS.now) 3900000) = false ∧
      FT.lt (slotLate 3899999).now (FT.addNs (FT.slotStart (slotLate 3899999).now) 3900000) = true ∧
      slotEndS.arriving (frameAt 0) = false ∧
      ({ slotLate 3900000 with pending := [.upFrameReceived 0 [] 0 0] } : State).arriving (frameAt 0) = true ∧
      (slotEndS.airPort 0).judged = none) ∧
    (slotEndS.Shaped ∧ slotEndS.slotHolder 0 (FT.slot (FT.slotStart slotEndS.now)) = some 5 ∧ (slotEndS.machine 5).link = .associated ∧
      slotEndS.slotKind 0 (FT.slot (FT.slotStart slotEndS.now)) = 3 ∧
      slotEndS.exchangeIn 5 (FT.cycle (FT.slotStart slotEndS.now)) = true ∧ slotEndS.pipe.stopOn = false ∧
      (slotEndS.airPort 0).got = [] ∧ 3 ≤ (slotEndS.machine 5).missed) ∧
    ((after (.receiveDeadline 0) slotEndS).machine 5).link = .adrift ∧
    st.slotHolder 0 (FT.slot (FT.slotStart st.now)) = none ∧
    (let s := putNow 0x300900 0 (joining 0)
     s.Shaped ∧ (s.machine 5).joinSent = some 0 ∧ (s.machine 5).link = .joining ∧ 0 + s.eff 0x300900 ≤ FT.cycle s.now ∧
       s.pinned 5 = false) ∧
    (((joining 0).machine 5).change = some (2, 0) ∧ 0 ≤ FT.cycle (joining 0).now) ∧
    (((joining 1).machine 5).change = some (2, 1) ∧ FT.cycle (joining 1).now < 1) := by
  refine ⟨by decide +kernel, ⟨shaped_of _ (by decide +kernel), by decide +kernel⟩, by decide +kernel, by decide +kernel,
    ⟨shaped_of _ (by decide +kernel), by decide +kernel⟩, ?_⟩
  decide +kernel

/-- Channel 3 failed every exchange of its window; a region with spares. -/
def jammed : State :=
  let s := putNow 0x300200 1 st
  { s with air.windows := [(3, List.replicate (s.eff 0x300A01) true)] }

theorem wit_ChannelsAndRadioSettings :
    ((jammed.air.windows.map fun x => x.1) = [3] ∧ jammed.air.pending = none ∧
      jammed.eff 0x300A01 ≤ (List.replicate (jammed.eff 0x300A01) true).length ∧
      jammed.eff 0x300A02 * jammed.eff 0x300A01 ≤
        (((List.replicate (jammed.eff 0x300A01) true).take (jammed.eff 0x300A01)).filter id).length * 100 ∧
      3 < hopSize jammed.channels ∧ jammed.air.remap = [] ∧ jammed.freeSpare.isSome = true) ∧
    (let s : State := { jammed with air.remap := [⟨3, 20, ⟨0, 0, 0⟩⟩], time.now := ⟨99999999, 0, 0⟩ }
     s.air.pending = none ∧ (s.air.remap.find? fun q => FT.le (FT.addNs q.made (s.eff 0x300A03 * 1000000000)) s.now) =
       some ⟨3, 20, ⟨0, 0, 0⟩⟩) ∧
    (({ jammed with air.pending := some (0, []) } : State).air.pending = some (0, []) ∧ 0 ≤ FT.cycle jammed.now) ∧
    FT.cycle jammed.now < 1 := by decide +kernel

/-- In SOLO with the output stage on, outside a stop. -/
def running : State := { chainsUp with stop.latch := false, pair.output := true }

/-- Both inputs stood at stop level, and the first returned at CK_HB count 0. -/
def returning (t : Nat) : State :=
  { chainsUp with stop.bothStop := true, stop.firstRun := some 0, stop.inA := true, stop.discrepancy := true,
                  stop.apart := some 0, time.hb := t }

/-- The windows of R390 and R391 at their edge: 0x3401 in ms. -/
theorem wit_StopInputs :
    (running.Shaped ∧ running.stop.latch = false) ∧ st.stop.latch = true ∧
    ((returning (hbMs (st.cfg 0x340100) + 1)).stop.apart = some 0 ∧ 0 + hbMs ((returning (hbMs (st.cfg 0x340100) + 1)).cfg 0x340100) < (returning (hbMs (st.cfg 0x340100) + 1)).time.hb ∧
      (returning (hbMs (st.cfg 0x340100) + 1)).arriving chainChanges = false) ∧
    (returning (hbMs (st.cfg 0x340100))).time.hb ≤ 0 + hbMs ((returning (hbMs (st.cfg 0x340100))).cfg 0x340100) ∧
    ((returning (hbMs (st.cfg 0x340100))).stop.bothStop = true ∧ (returning 0).stop.firstRun = some 0 ∧ (returning 0).stop.inB = false ∧
      (returning (hbMs (st.cfg 0x340100))).time.hb - 0 ≤ hbMs ((returning 0).cfg 0x340100)) ∧
    (let s : State := { returning (hbMs (st.cfg 0x340100) + 1) with stop.inA := false, stop.inB := true }
     s.stop.bothStop = true ∧ s.stop.firstRun = some 0 ∧ hbMs (s.cfg 0x340100) < s.time.hb - 0) := by
  refine ⟨⟨shaped_of _ (by decide +kernel), by decide +kernel⟩, ?_⟩
  decide +kernel

/-- A stop key in slot 2, and a command under it with COUNTER 5. -/
def keyed (s : State) : State := { s with sec.stopKeys := [[], [], zeros 16, []] }
def stopHead (op : Nat) : List Byte := [1#8, byte op, 2#8, 0#8] ++ leBytes 4 5 ++ zeros 8
def stopMsg (op : Nat) : List Byte := stopHead op ++ Config.aesCmac (zeros 16) (stopHead op)

theorem aesCmac_length (k m : List Byte) : (Config.aesCmac k m).length = 16 := by simp [Config.aesCmac, leBytes]

theorem take_append_len (a b : List Byte) (n : Nat) (h : a.length = n) : (a ++ b).take n = a ∧ (a ++ b).drop n = b := by
  subst h; simp

theorem stopFilter_stopMsg (op : Nat) (h : op = 1 ∨ op = 2) (s : State) (hc : s.stop.counters = [0, 0, 0, 0]) (role : Option Nat)
    (hr : ∀ r, role = some r → 1 ≤ r) : (keyed s).stopFilter role (stopMsg op) = none := by
  have hl : (stopHead op).length = 16 := by simp [stopHead, leBytes, zeros]
  have ⟨h1, h2⟩ := take_append_len (stopHead op) (Config.aesCmac (zeros 16) (stopHead op)) 16 hl
  have hk : (keyed s).stopKey 2 = zeros 16 := rfl
  have f (i k : Nat) (hik : i + k ≤ 16) : field (stopMsg op) i k = field (stopHead op) i k := by
    unfold field stopMsg
    rw [List.drop_append_of_le_length (by omega), List.take_append_of_le_length (by simp; omega)]
  have hlen : (stopMsg op).length = 32 := by simp [stopMsg, hl, aesCmac_length]
  have g1 : role.any (fun r => decide (r < 1)) = false := by
    cases role with
    | none => rfl
    | some r => have := hr r rfl; simp; omega
  unfold State.stopFilter
  rw [f 0 1 (by omega), f 1 1 (by omega), f 2 1 (by omega), f 3 1 (by omega), f 4 4 (by omega), f 8 8 (by omega), hlen]
  have e2 : field (stopHead op) 2 1 = 2 := by rcases h with rfl | rfl <;> decide
  have e4 : field (stopHead op) 4 4 = 5 := by rcases h with rfl | rfl <;> decide
  have e0 : field (stopHead op) 0 1 = 1 := by rcases h with rfl | rfl <;> decide
  have e3 : field (stopHead op) 3 1 = 0 := by rcases h with rfl | rfl <;> decide
  have e8 : field (stopHead op) 8 8 = 0 := by rcases h with rfl | rfl <;> decide
  have e1 : field (stopHead op) 1 1 = op := by rcases h with rfl | rfl <;> decide
  have hz : zeros 16 ≠ [] := by decide
  simp only [e0, e1, e2, e3, e4, e8, hk, stopMsg, h1, h2]
  cases role with
  | none => rcases h with rfl | rfl <;> simp [keyed, hc, hz]
  | some r =>
    have := hr r rfl
    have h5 : ¬ r < 1 := by omega
    rcases h with rfl | rfl <;> simp [keyed, hc, hz, h5]

/-- A release due at the start of second 1. -/
def releasing (now : FT) : State :=
  { running with stop.latch := true, stop.release := some ⟨⟨0, 0, 0⟩, ⟨1, 0, 0⟩, 2, 2⟩, time.now := now }

theorem wit_StopCommandsReleaseAndOutputs :
    ((keyed st).stopFilter none (stopMsg 1) = none ∧ field (stopHead 1) 1 1 = 1) ∧
    (keyed st).stopFilter none [] = some (1, 0x20) ∧
    (let s : State := { running with stop.latch := true, time.ticks := 10 ^ 12 }
     (keyed s).stopFilter none (stopMsg 2) = none ∧ field (stopHead 2) 1 1 = 2 ∧ (keyed s).releaseCode = 1 ∧
       (keyed s).releaseBars = 0 ∧ { s with stop.inA := true }.releaseBars ≠ 0) ∧
    (FT.le ⟨1, 0, 0⟩ (releasing ⟨1, 0, 0⟩).now = true ∧ (releasing ⟨1, 0, 0⟩).arriving bringsStop = false ∧
      FT.lt (releasing ⟨0, 999999999, 4294967295⟩).now ⟨1, 0, 0⟩ = true ∧
      ({ releasing ⟨1, 0, 0⟩ with pending := [.stopInputQualified 0] } : State).arriving bringsStop = true) ∧
    (true ≠ st.stopout ∧ st.stop.latch = true ∧ running.stop.latch = false) ∧
    (max st.stop.faultTick st.stop.setTick + 500000000 ≤ ({ st with time.ticks := 500000000 } : State).time.ticks) ∧
    ((inMode .safe st).power.mode = .safe ∧ ((inMode .safe st).axis 3).ramping = false ∧ st.power.mode ≠ .safe ∧
      st.stop.strobeHb + 16000 ≤ ({ st with time.hb := 16000 } : State).time.hb) := by
  refine ⟨⟨stopFilter_stopMsg 1 (.inl rfl) st rfl none (by simp), by decide +kernel⟩, by decide +kernel,
    ⟨stopFilter_stopMsg 2 (.inr rfl) _ rfl none (by simp), by decide +kernel⟩, by decide +kernel⟩
/-! ### Ethernet, CAN, memory errors -/

/-- The four Ethernet ports up at 100 Mbit/s full duplex, the CAN ports on their bus. -/
def netUp : State :=
  { put 0x360000 15 chainsUp with net.eth := List.replicate 4 { EthPort.init with link := 18 },
                                  net.can := List.replicate 2 { CanPort.init with state := 1, queue := [(5, [1#8])] } }

/-- Broadcast frames of 64 octets: of an EtherType, and a stop datagram to a group of R442. -/
def plainFrame (t : Nat) : List Byte := etherFrame 0 0 broadcastMac [2#8, 0#8, 0#8, 0#8, 0#8, 9#8] t []
def tapFrame : List Byte :=
  let f := List.replicate 6 0xFF#8 ++ [2#8, 0#8, 0#8, 0#8, 0#8, 9#8, 0x08#8, 0#8] ++
    [0x45#8, 0#8, 0#8, 0x1C#8, 0#8, 0#8, 0#8, 0#8, 0x40#8, 0x11#8, 0x8F#8, 0x4E#8, 10#8, 0#8, 0#8, 2#8, 224#8, 0#8, 1#8, 129#8] ++
    [0#8, 1#8, 0x11#8, 0x02#8, 0#8, 8#8, 0#8, 0#8] ++ zeros 18
  f ++ fcs f

/-- A rule that puts every frame into queue 3. -/
def rule3 : Nat := 2 ^ 63 + 2 ^ 60 + 255 * 2 ^ 40 + 2 ^ 39 + 3 * 2 ^ 35
def ruled : State := put 0x361404 4 (put 0x361001 rule3 netUp)

/-- A reassembly, and a next hop asked `n` times, both since tick 0, at tick `now`. -/
def asking (n now : Nat) : State :=
  { netUp with net.eth := List.replicate 4 { EthPort.init with
      link := 18, frags := [⟨[1#8], 0, [], none⟩], waits := [⟨[10#8], n, 0, 0, false, [], []⟩] }, net.garp := 2, time.ticks := now }

/-- 100 ms of a reassembly, 1 s of an ARP request, at their edges. -/
theorem wit_EthernetFramesAndLinks :
    st.linkUp 0 = false ∧ (netUp.linkUp 0 = true ∧ netUp.ethRow 0 (zeros 63) true = 3 ∧
      netUp.ethRow 0 (plainFrame 0x9000) false = 5 ∧ netUp.ethRow 0 (plainFrame 0x9000 ++ [0#8]) true = 5) ∧
    (netUp.ethRow 0 tapFrame true = 0 ∧ isStopTap tapFrame = true) ∧
    (ruled.linkUp 0 = true ∧ ruled.ethRow 0 (plainFrame 0x9000) true = 0 ∧ etherType (plainFrame 0x9000) = 0x9000 ∧
      (ruled.decidingRule 0 (plainFrame 0x9000)).getD 0 = rule3 ∧ rule3.testBit 38 = false ∧ rule3 / 2 ^ 35 % 8 = 3 ∧
      ruled.queueUsed 0 3 + frameSpace 64 ≤ ruled.queueSpace 0 3) ∧
    (((asking 2 50000000).ethPort 1).frags = [⟨[1#8], 0, [], none⟩] ∧
      (asking 2 50000000).timedOut 0 50000000 (ethArrival 1 (fragmentOf [1#8])) = true ∧
      (asking 2 49999999).timedOut 0 50000000 (ethArrival 1 (fragmentOf [1#8])) = false) ∧ (netUp.ethPort 1).frags = [] ∧
    (netUp.Shaped ∧ netUp.ethOperates 0 = true ∧ linkStatus 0 true ≠ (netUp.ethPort 0).link) ∧
    linkStatus 2 true = (netUp.ethPort 0).link ∧
    ((asking 2 50000000).net.garp = 1 + 1 ∧ (asking 2 50000000).passed (asking 2 50000000).net.garpAt 50000000 = true) ∧
    st.net.garp = 0 ∧
    ((((asking 2 500000000).ethPort 1).waits.find? fun x => x.hop == [10#8]) = some ⟨[10#8], 2, 0, 0, false, [], []⟩ ∧ 2 < 3 ∧
      (asking 2 500000000).timedOut 0 500000000 (ethArrival 1 (arpFrom [10#8])) = true ∧
      (asking 2 499999999).timedOut 0 500000000 (ethArrival 1 (arpFrom [10#8])) = false ∧
      (asking 2 500000000).linkUp 1 = true ∧ ((asking 2 500000000).ethPort 1).txIdle 500000000 = true) ∧
    ((asking 3 0).Shaped ∧ (((asking 3 0).ethPort 1).waits.find? fun x => x.hop == [10#8]) =
      some ⟨[10#8], 3, 0, 0, false, [], []⟩) := by
  refine ⟨by decide +kernel, by decide +kernel, by decide +kernel, by decide +kernel, by decide +kernel, by decide +kernel,
    ⟨shaped_of _ (by decide +kernel), by decide +kernel⟩, by decide +kernel, by decide +kernel, by decide +kernel,
    by decide +kernel, shaped_of _ (by decide +kernel), by decide +kernel⟩

theorem wit_CanPorts :
    (netUp.Shaped ∧ (netUp.canPort 1).state = 1) ∧
    (let s := netUp.modCan 1 fun x => { x with state := 3 }
     s.Shaped ∧ (s.canPort 1).state = 3 ∧ (s.canPort 1).queue.length = 1) ∧
    (netUp.cfg 0x366402 ≠ 0 ∧ (put 0x366402 0 netUp).cfg 0x366402 = 0) := by
  refine ⟨⟨shaped_of _ (by decide +kernel), by decide +kernel⟩, ⟨shaped_of _ (by decide +kernel), by decide +kernel⟩, ?_⟩
  decide +kernel

/-- In a pair. -/
def paired (s : State) : State := put 0x3C0000 1 s

theorem wit_MemoryErrors :
    (({ st with tracks.res := [(3, ⟨.confirmed, 0, 7, 0, 1, 0, 1000⟩)] } : State).tracks.entry ((3 + 16384) % 16384)).state =
      .confirmed ∧
    (({ st with tasks.tasks := [(3, { Task.blank with state := .awarded })] } : State).task ((3 + 1024) % 1024)).state = .awarded ∧
    st.Shaped ∧ (paired st).inPair = true ∧ (st.inPair = false ∧ st.power.mode ≠ .safe) := by
  refine ⟨by decide +kernel, by decide +kernel, shaped_of _ (by decide +kernel), by decide +kernel⟩
/-! ### Network time and timed I/O -/

/-- Domain A (number 24) on every port, port 0 in state `n`, following port 1 of clock 5; the links up. -/
def ptp (n : Nat) (d : PtpDomain) : State :=
  { put 0x360000 15 chainsUp with
      effective := [(domainIndex false * 256 + 1, .num 24), (domainIndex false * 256 + 2, .num 15)],
      net.eth := List.replicate 4 { EthPort.init with link := 18 },
      ptp.domA := { d with states := [n, 3, 3, 3], parent := (5, 1) } }

/-- The same, peer to peer or not, one-step or two-step. -/
def ptpCfg (p2p one : Nat) (s : State) : State :=
  { s with effective := [(domainIndex false * 256 + 1, .num 24), (domainIndex false * 256 + 2, .num 15),
      (domainIndex false * 256 + 4, .num p2p), (domainIndex false * 256 + 5, .num 1), (domainIndex false * 256 + 6, .num one)] }

/-- A message of domain 24 with sequenceId 5 to this unit's port 1, whose timestamp is 10 s, received 700 ns later. -/
def msg (kind : Nat) : PtpMsg :=
  pm kind 24 0 0 0 5 (beBytes 6 10 ++ beBytes 4 0 ++ ((Config.unitMac 0).take 3 ++ [0xFF#8, 0xFE#8] ++ (Config.unitMac 0).drop 3) ++
    beBytes 2 1) ⟨10, 700, 0⟩

theorem msg_toMe (k : Nat) : (msg k).toMe = true := by
  have h : beField (msg k).octets 44 8 = Config.clockIdentity := rfl
  have h2 : beField (msg k).octets 52 2 = (msg k).port.val + 1 := rfl
  unfold PtpMsg.toMe
  rw [h, h2]
  simp

/-- An Announce of it, of 64 octets. -/
def announce : PtpMsg := pm 11 24 0 0 0 5 (zeros 30) ⟨10, 700, 0⟩

/-- Waiting for the second half of an exchange of sequenceId 5 on ETH0. -/
def waiting5 : PtpWait := ⟨0, 5, ⟨10, 0, 0⟩, ⟨10, 600, 0⟩, ⟨10, 0, 0⟩, 0⟩
def waits : PtpDomain :=
  { PtpDomain.init with waitSync := some waiting5, waitDelay := some waiting5, lastSync := some 0,
                        peers := List.replicate 4 ⟨some waiting5, 0, none⟩ }

theorem wit_PtpFollowing :
    ((msg 0).kind = 0 ∧ (ptp 9 .init).tsHost 0 = false ∧ (ptp 9 .init).accepts (msg 0) = some false ∧
      ((ptp 9 .init).stampsTaken 0 0).stampFits 0 = true ∧ (ptp 9 .init).fromMaster false (msg 0) = true ∧
      (msg 0).twoStep = false) ∧
    ((msg 8).kind = 8 ∧ (ptp 9 waits).accepts (msg 8) = some false ∧ (ptp 9 waits).fromMaster false (msg 8) = true ∧
      ((ptp 9 waits).domain false).waitSync = some waiting5 ∧ waiting5.seqId = (msg 8).seq) ∧
    ((msg 9).kind = 9 ∧ (ptp 9 waits).accepts (msg 9) = some false ∧ (ptp 9 waits).fromMaster false (msg 9) = true ∧
      ((ptp 9 waits).domain false).waitDelay = some waiting5 ∧ waiting5.seqId = (msg 9).seq ∧
      ((ptp 9 waits).domain false).lastSync.isSome = true) ∧
    (ptp 9 .init).accepts (pm 8 25 0 0 0 5 (zeros 10) ⟨0, 0, 0⟩) = none := by decide +kernel

theorem wit_PtpAnswersAndPeerDelay :
    ((msg 1).kind = 1 ∧ (ptp 6 .init).accepts (msg 1) = some false ∧ (ptp 6 .init).isMaster false 0 = true ∧
      (ptp 6 .init).peerToPeer false = false ∧ (ptp 6 .init).linkUp 0 = true ∧ ((ptp 6 .init).ethPort 0).txIdle 0 = true) ∧
    ((msg 2).kind = 2 ∧ (ptpCfg 1 1 (ptp 6 waits)).peerToPeer false = true ∧ (ptpCfg 1 1 (ptp 6 waits)).oneStep false = true ∧
      (ptpCfg 1 1 (ptp 6 waits)).accepts (msg 2) = some false ∧ (ptpCfg 1 1 (ptp 6 waits)).tsHost 0 = false ∧
      ((ptpCfg 1 1 (ptp 6 waits)).stampsTaken 0 0).stampFits 0 = true) ∧
    ((ptpCfg 1 1 (ptp 6 waits)).Shaped ∧ ((ptpCfg 1 1 (ptp 6 waits)).peerPort false 0).wait = some waiting5 ∧
      waiting5.got ≠ waiting5.sent ∧ (msg 3).kind = 3 ∧ (msg 10).kind = 10 ∧
      (ptpCfg 1 1 (ptp 6 waits)).accepts (msg 3) = some false ∧ (ptpCfg 1 1 (ptp 6 waits)).accepts (msg 10) = some false) := by
  refine ⟨by decide +kernel, by decide +kernel, shaped_of _ (by decide +kernel), by decide +kernel⟩

/-- Domain A heard nothing for `n` ticks; its timeout is three intervals of 2 s. -/
def unheard (n : Nat) : State := { ptpCfg 0 1 (ptp 4 .init) with time.ticks := n }

theorem wit_PtpMessagesAndDomains :
    ((ptpCfg 0 1 (ptp 6 .init)).ptpMaySend false 0 = true ∧ (ptpCfg 0 1 (ptp 6 .init)).isMaster false 0 = true ∧
      (ptpCfg 0 1 (ptp 6 .init)).oneStep false = true ∧ (ptpCfg 0 1 (ptp 6 .init)).domCfg false 5 = 1 ∧
      (ptpCfg 0 1 (ptp 6 .init)).linkUp 0 = true) ∧
    ((ptpCfg 0 1 (ptp 9 .init)).isSlave false 0 = true ∧ (ptpCfg 0 1 (ptp 9 .init)).peerToPeer false = false) ∧
    ((ptpCfg 1 1 (ptp 9 .init)).ptpMaySend false 0 = true ∧ (ptpCfg 1 1 (ptp 9 .init)).peerToPeer false = true) ∧
    st.ptpMaySend true 0 = false ∧
    ((ptp 9 .init).Shaped ∧ announce.kind = 11 ∧ (ptp 9 .init).accepts announce = some false) ∧
    ((unheard 0).inDomain false 1 = true ∧
      (let n := (unheard 0).domCfg false 10 * logTicks ((unheard 0).domCfgI false 8)
       (unheard n).timedOut (((unheard n).domain false).heard.getD 1 0) n (announceAt 1) = true ∧ 0 < n ∧
       (unheard (n - 1)).timedOut (((unheard n).domain false).heard.getD 1 0) n (announceAt 1) = false)) ∧
    ((ptp 3 .init).ptp.domA.states.all (fun x => x != 9) = true ∧ (ptp 3 .init).ptp.domB.states.all (fun x => x != 9) = true) := by
  refine ⟨by decide +kernel, by decide +kernel, by decide +kernel, by decide +kernel,
    ⟨shaped_of _ (by decide +kernel), by decide +kernel⟩, by decide +kernel⟩

/-- One stamp at ETH0, `n` captures at TIO3, which captures both edges. -/
def stamped (n : Nat) : State :=
  let s := put 0x208301 5 { st with ptp.queues := [[⟨1, 0, 0, 0, 0, 0, 0, 0, ⟨0, 0, 0⟩⟩], [], [], []] }
  s.modTio 3 fun x => { x with queue := List.replicate n ⟨⟨0, 0, 0⟩, 0, 0, 0⟩ }

theorem wit_StampsAndCaptures :
    ((stamped 0).tsQueue 0).length = 1 ∧ st.tsQueue 0 = [] ∧
    ((stamped 15).Shaped ∧ 3 ≤ (stamped 15).tioCfg 3 1 ∧ capturing ((stamped 15).tioCfg 3 1) true = true ∧
      ((stamped 15).tioPin 3).lastEdge = none ∧ ((stamped 15).tioPin 3).queue.length < 16) ∧
    ((stamped 16).Shaped ∧ 3 ≤ (stamped 16).tioCfg 3 1 ∧ 16 ≤ ((stamped 16).tioPin 3).queue.length) := by
  refine ⟨by decide +kernel, by decide +kernel, ⟨shaped_of _ (by decide +kernel), by decide +kernel⟩,
    shaped_of _ (by decide +kernel), by decide +kernel⟩
/-! ### Gate axes, metering -/

/-- Axes for the witnesses: every axis as given, its mode `m`, the owner present, outside a stop, at `t` ns and tick `k`. -/
def axes (m : Nat) (x : Axis) (t k : Nat) : State :=
  owner (put 0x380301 m { running with axes := List.replicate 8 x, time.now := ⟨0, t, 0⟩, time.ticks := k })

/-- An axis in a state. -/
def ax (s : AxisState) : Axis := { Axis.init with state := s, en := true }

/-- The move of chapter 15's worked example: 12,800 steps to rest at 0, V_MAX 10,000, ACCEL and DECEL 25,000. -/
def plan2 : Plan := ⟨.move, ⟨0, 0, 0⟩, none, 12800, 0, 0, 0, 0, 10000, 25000, 25000, 250000, 0⟩
def moving : Axis := { ax .moving with plan := some plan2, pos := 12800 }

/-- The counter at the instants of that example's steps 5 to 10, and the tick before each step. -/
theorem test_worked_move : [6324554, 6324556, 10954450, 10954452, 400000000, 1280000000, 1673675444, 1673675446].map plan2.counterAt =
    [12800, 12799, 12799, 12798, 10800, 2000, 1, 0] := by decide +kernel

/-- DECEL 10,000 at t_s + 1,480 ms: 25,000 is applied (step 9). -/
theorem test_worked_substitution :
    (let p := plan2.rebase ⟨1, 480000000, 0⟩ 0
     (p.speed, p.left, ({ p with decel := 10000 } : Plan).substituted.1)) = (5000 * 10 ^ 9, 500 * (2 * 10 ^ 18), 25000) := by
  decide +kernel

/-- The start of R479 lies on the first 100 µs boundary at least 2 ms on. -/
theorem test_target_start : targetStart ⟨0, 100000, 0⟩ = ⟨0, 2100000, 0⟩ ∧ targetStart ⟨0, 100000, 1⟩ = ⟨0, 2200000, 0⟩ := by
  decide +kernel

/-- TARGET on an IDLE axis in HOST mode, within the soft limits and on one; the start instant and a ns before it; the last step
placed and the tick before; a gate move's start. -/
theorem wit_AxisMovesAndCurrent_targets :
    (let s := axes 2 (ax .idle) 0 0
     s.Shaped ∧ s.targetCheck 3 3 [100#8, 0#8, 0#8, 0#8] = 1 ∧ s.roleOf w0 = 3 ∧ s.tracks.gatesOn 3 = false ∧
       s.axisCfg 3 1 = 2 ∧ s.power.mode ≠ .standby ∧ s.stop.latch = false ∧ (s.axis 3).limited 100 = false ∧
       s.targetCheck 3 3 (leBytes 4 (ofSigned 32 (s.axisCfgI 3 0x0C))) = 1 ∧
       s.targetCheck 3 3 (leBytes 4 (ofSigned 32 (s.axisCfgI 3 0x0B))) = 1) ∧
    (axes 1 (ax .idle) 0 0).targetCheck 3 3 [100#8, 0#8, 0#8, 0#8] ≠ 1 ∧
    (let s := axes 2 { ax .idle with start := some (⟨0, 9, 0⟩, 100) } 9 0
     s.Shaped ∧ (s.axis 3).start = some (⟨0, 9, 0⟩, 100) ∧ FT.lt s.now ⟨0, 9, 0⟩ = false ∧ s.arriving (beforeStart 3) = false ∧
       s.pipe.void = none ∧ (100 : Int) ≠ (s.axis 3).pos) ∧
    ((axes 2 { ax .idle with start := some (⟨0, 9, 0⟩, 100) } 8 0).axis 3).start.all (fun x => FT.lt ⟨0, 8, 0⟩ x.1) = true ∧
    (let s := axes 2 moving 0 0
     s.Shaped ∧ s.axisPos 3 ≠ (s.axis 3).target ∧
       ({ s with time.now := ⟨1, 673675444, 0⟩ } : State).axisPos 3 ≠ (s.axis 3).target) ∧
    (let s : State := { axes 2 moving 0 0 with time.now := ⟨1, 673675446, 0⟩ }
     s.Shaped ∧ (s.axis 3).state = .moving ∧ s.axisPos 3 = (s.axis 3).target) ∧
    (let s := put 0x2D2302 50 (axes 1 { ax .idle with armed := [⟨1, ⟨0, 9, 0⟩⟩] } 9 0)
     s.Shaped ∧ (s.axis 3).armed = [⟨1, ⟨0, 9, 0⟩⟩] ∧ FT.lt s.now ⟨0, 9, 0⟩ = false ∧ s.axisCfg 3 1 = 1 ∧ s.pipe.void = none ∧
       s.gateTarget 3 1 ≠ (s.axis 3).pos ∧ FT.lt ⟨0, 8, 0⟩ ⟨0, 9, 0⟩ = true) ∧
    (let s := axes 1 { moving with armed := [⟨1, ⟨0, 9, 0⟩⟩] } 9 0
     s.Shaped ∧ (s.axis 3).armed = [⟨1, ⟨0, 9, 0⟩⟩] ∧ (s.axis 3).state ≠ .idle ∧ s.arriving (beforeStart 3) = false) := by
  refine ⟨⟨shaped_of _ (by decide +kernel), by decide +kernel⟩, by decide +kernel,
    ⟨shaped_of _ (by decide +kernel), by decide +kernel⟩, by decide +kernel, ⟨shaped_of _ (by decide +kernel), by decide +kernel⟩,
    ⟨shaped_of _ (by decide +kernel), by decide +kernel⟩, ⟨shaped_of _ (by decide +kernel), by decide +kernel⟩,
    shaped_of _ (by decide +kernel), by decide +kernel⟩

/-- The boundary of a replan and a ns before it, with DECEL substituted; HOLD_DELAY 500 ms and a tick before its end; 1 ms before
a start and a ns earlier. -/
theorem wit_AxisMovesAndCurrent_replans :
    (let s : State := put 0x380305 10000 { axes 2 { moving with changed := some ⟨1, 480000000, 0⟩ } 0 0 with
       time.now := ⟨1, 480000000, 0⟩ }
     s.Shaped ∧ (s.axis 3).state = .moving ∧ (s.axis 3).plan = some plan2 ∧ plan2.profile = 0 ∧
       (s.axis 3).changed = some ⟨1, 480000000, 0⟩ ∧ FT.lt s.now ⟨1, 480000000, 0⟩ = false ∧
       FT.lt ⟨1, 479999999, 0⟩ ⟨1, 480000000, 0⟩ = true ∧
       (((after (.profileReplan 3) s).axis 3).plan.all fun q => decide (s.axisCfg 3 5 < q.decel)) = true) ∧
    (let s := axes 2 { ax .idle with current := .run, lastStep := some 1 } 0 250000001
     s.Shaped ∧ (s.axis 3).busy = false ∧ s.startNear 3 = false ∧ 1 + s.axisCfg 3 0x16 * 500000 ≤ s.ticks) ∧
    (let s := axes 2 { ax .idle with current := .run, lastStep := some 1 } 0 250000000
     s.ticks < 1 + s.axisCfg 3 0x16 * 500000) ∧
    (let x := { ax .idle with start := some (⟨0, 1000000, 0⟩, 100) }
     (axes 2 x 0 0).Shaped ∧ (axes 2 x 0 0).startNear 3 = true ∧
       (axes 2 { x with start := some (⟨0, 1000001, 0⟩, 100) } 0 0).startNear 3 = false) := by
  refine ⟨⟨shaped_of _ (by decide +kernel), by decide +kernel⟩, ⟨shaped_of _ (by decide +kernel), by decide +kernel⟩,
    by decide +kernel, shaped_of _ (by decide +kernel), by decide +kernel⟩

theorem wit_AxisCommands :
    (let s := axes 1 moving 0 0
     s.Shaped ∧ s.axisCommandCheck 3 3 1 ≤ 1 ∧ s.roleOf w0 = 3 ∧ (s.axis 3).plan = some plan2) ∧
    (let s := axes 1 (ax .homing) 0 0
     s.axisCommandCheck 3 3 1 ≤ 1 ∧ (s.axis 3).ramping = false) ∧
    (axes 1 (ax .idle) 0 0).axisCommandCheck 3 3 1 ≤ 1 ∧
    (let s := axes 2 (ax .unhomed) 0 0
     s.Shaped ∧ s.axisCommandCheck 3 3 2 ≤ 1 ∧ s.axisCfg 3 0x0D ≠ 2 ∧ s.homeSwitch 3 = false) ∧
    (put 0x38030D 2 (axes 2 (ax .unhomed) 0 0)).axisCfg 3 0x0D = 2 ∧
    (let s := axes 1 { ax .fault with cause := 4 } 0 0
     s.Shaped ∧ s.axisCommandCheck 3 3 3 ≤ 1 ∧ (s.axis 3).cause = 4) ∧
    (let s := axes 1 (ax .disabled) 0 0
     1 < s.axisCommandCheck 3 3 1 ∧ 1 < s.axisCommandCheck 3 3 2 ∧ 1 < s.axisCommandCheck 3 3 3 ∧ s.tracks.gatesOn 3 = false) ∧
    (let s := axes 1 { ax .fault with cause := 3 } 0 0
     1 ≤ s.roleOf w0 ∧ s.power.mode ≠ .standby ∧ (s.axis 3).cause = 3) ∧
    (let s : State := { axes 2 (ax .unhomed) 0 0 with stop.latch := true }
     1 ≤ s.roleOf w0 ∧ s.power.mode ≠ .standby ∧ s.stop.latch = true) := by
  refine ⟨⟨shaped_of _ (by decide +kernel), by decide +kernel⟩, by decide +kernel, by decide +kernel,
    ⟨shaped_of _ (by decide +kernel), by decide +kernel⟩, by decide +kernel, ⟨shaped_of _ (by decide +kernel), by decide +kernel⟩,
    by decide +kernel, by decide +kernel, by decide +kernel⟩

/-- A homing that creeps back, the home switch inactive again; HOME_TRAVEL spent and a step short of it; STALL_TIME and a tick
before its end; a millisecond of the boost and a tick before its end; a ramp at its end. -/
theorem wit_HomingStallAndLimits :
    (let s := axes 2 { ax .homing with phase := .creep, plan := some { plan2 with kind := .creep } } 0 0
     s.Shaped ∧ s.homeFound 3 0 = true ∧ s.homeFound 3 1 = false) ∧
    (let s := axes 2 { ax .homing with phase := .fast, plan := some plan2, pos := 12800 } 0 0
     s.Shaped ∧ (s.axis 3).phase = .fast ∧ (s.axis 3).ramping = false) ∧
    (let s := put 0x380312 12800 (axes 2 { ax .homing with homeFrom := 12800 } 0 0)
     s.Shaped ∧ (s.axis 3).ramping = false ∧ s.homingCause 3 0 = some 0 ∧ s.homingCause 3 2 = some 0) ∧
    (let s := put 0x380312 12801 (axes 2 { ax .homing with homeFrom := 12800 } 0 0)
     s.homingCause 3 0 = none ∧ s.homingCause 3 2 = some 1) ∧
    (let s := axes 2 moving 0 0
     s.Shaped ∧ (s.axis 3).plan = some plan2 ∧ plan2.positive = false ∧ s.axisPos 3 ≠ (s.axis 3).target ∧
       s.tracks.gatesOn 3 = false) ∧
    (let x := { moving with current := .run, loadHigh := some 1 }
     let s := fun k => put 0x38031B 20 (put 0x380317 600 (put 0x380314 600 (axes 2 x 0 k)))
     (s 10000001).Shaped ∧ (s 10000001).stallDue 3 = true ∧ (s 10000000).stallDue 3 = false) ∧
    (let s := fun k => put 0x38031A 0 (put 0x380319 1 (axes 2 { moving with boosted := some 1 } 0 k))
     (s 500001).Shaped ∧ ((s 500001).axis 3).busy = true ∧ 0 + (s 0).axisCfg 3 0x1A < (s 0).axisCfg 3 0x19 ∧
       (s 0).axisCfg 3 0x19 < 2 ∧ decide (1 + 500000 ≤ (s 500001).ticks) = true ∧ (s 500000).ticks < 1 + 500000) ∧
    (let x := fun (l : Landing) => { ax .stopping with ramping := true, landing := l, plan := some { plan2 with kind := .ramp } }
     (axes 2 (x (.fault 2)) 0 0).Shaped ∧ (axes 2 (x (.fault 2)) 0 0).axisRests 3 = true ∧
       (axes 2 { x .idle with plan := some { plan2 with kind := .ramp, speed := 25000 } } 0 0).axisRests 3 = false) ∧
    (let s := axes 2 { ax .homing with phase := .decelerating, plan := some { plan2 with kind := .ramp } } 0 0
     s.Shaped ∧ (s.axis 3).ramping = false ∧ s.axisRests 3 = true) := by
  refine ⟨⟨shaped_of _ (by decide +kernel), by decide +kernel⟩, ⟨shaped_of _ (by decide +kernel), by decide +kernel⟩,
    ⟨shaped_of _ (by decide +kernel), by decide +kernel⟩, by decide +kernel, ⟨shaped_of _ (by decide +kernel), by decide +kernel⟩,
    ⟨shaped_of _ (by decide +kernel), by decide +kernel⟩, ⟨shaped_of _ (by decide +kernel), by decide +kernel⟩,
    ⟨shaped_of _ (by decide +kernel), by decide +kernel⟩, shaped_of _ (by decide +kernel), by decide +kernel⟩

/-- Channel 2 enabled, one pulse of it kept, CREEP_MIN `n`. -/
def pulsed (n t : Nat) : State :=
  let s := put (tallyObj 2 6) n (put 0x3A0000 4 (owner (inMode .solo { st with time.now := ⟨t, 0, 0⟩ })))
  { s with meter.tallies := [(2, { Tally.init with last := some ⟨0, 0, 0⟩, recent := [⟨0, 0, 0⟩] })] }

/-- An account on channel 2 for every period, of the entry that 0x4400 selects. -/
def acc0 : Account := { Account.blank with state := .open_, channel := 2, mask := 15, opening := 1000 }

theorem wit_PulsesAndAccounts :
    st.tallyCounts 2 = false ∧
    ((pulsed 1 0).tallyCounts 2 = true ∧
      tooSoon ((pulsed 1 0).cfg (tallyObj 2 3)) ((pulsed 1 0).tally 2).last (pulsed 1 0).now = true) ∧
    ((pulsed 1 9).tallyCounts 2 = true ∧ tooSoon ((pulsed 1 9).cfg (tallyObj 2 3)) ((pulsed 1 9).tally 2).last (pulsed 1 9).now = false ∧
      (pulsed 1 9).cfg (tallyObj 2 6) ≤
        countWithin ((pulsed 1 9).cfg (tallyObj 2 7)) (pulsed 1 9).now ((after (.tallyPulse 2) (pulsed 1 9)).tally 2).recent ∧
      SMap.wf (fun _ => Account.blank) (pulsed 1 9).meter.accounts = true ∧ ((pulsed 1 9).tally 2).waiting = []) ∧
    countWithin ((pulsed 3 9).cfg (tallyObj 2 7)) (pulsed 3 9).now ((after (.tallyPulse 2) (pulsed 3 9)).tally 2).recent <
      (pulsed 3 9).cfg (tallyObj 2 6) ∧
    (let s := pulsed 1 9
     s.accountCode (s.cfg 0x440000) (s.roleOf w0) (Account.encode acc0) = 0 ∧
       (s.account (s.cfg 0x440000)).state = .empty ∧ (Account.decode (Account.encode acc0)).state = .open_) ∧
    (let s : State := { pulsed 1 9 with meter.accounts := [(0, acc0)] }
     s.cfg 0x440000 = 0 ∧ s.accountCode 0 (s.roleOf w0) (Account.encode { acc0 with state := .closed }) = 0 ∧
       (s.account 0).state = .open_) ∧
    (let s : State := { pulsed 1 9 with meter.accounts := [(0, { acc0 with state := .closed })] }
     s.accountCode 0 (s.roleOf w0) (Account.encode { acc0 with state := .empty }) = 0) ∧
    (let s := pulsed 1 9
     1 < s.accountCode 0 1 (Account.encode { acc0 with mask := 0 }) ∧ s.accountCode 0 1 (Account.encode acc0) ≠ 0x21) := by
  decide +kernel

/-- Seven pulses of 5/4 Wh make 8 Wh and leave 3 of 4. -/
theorem test_credit : (([1, 2, 3, 4, 5, 6, 7] : List Nat).foldl (fun (x : Account) _ => x.credit 5 4) Account.blank).acc = 8 ∧
    (([1, 2, 3, 4, 5, 6, 7] : List Nat).foldl (fun (x : Account) _ => x.credit 5 4) Account.blank).rem = 3 := by decide +kernel

/-- A save in progress, begun at tick 1. -/
def saving : State :=
  { st with meter.saving := some (st.saveCopy 1 2), meter.started := 1, meter.next := 2 }

/-- Mains input 1 enabled, crossed at 0, now `t` ns. -/
def mains (t : Nat) : State :=
  let s := put 0x3A0200 2 { st with time.now := ⟨0, t, 0⟩ }
  s.modMains 1 fun x => { x with present := true, last := some ⟨0, 0, 0⟩ }

/-- At the deadline of R514 and one nanosecond after it. -/
theorem wit_SavesAndMains :
    st.meter.saving = none ∧ (saving.meter.saving = some (st.saveCopy 1 2) ∧ saving.meter.started ≠ saving.ticks) ∧
    (st.saveCopy 1 2).mask.testBit 1 = true ∧ (st.saveCopy 1 1).mask.testBit 1 = false ∧
    (st.cfg 0x3A0200).testBit 1 = false ∧
    (let t := st.cfg 0x3A0300 * 1000000
     (mains t).Shaped ∧ ((mains t).cfg 0x3A0200).testBit 1 = true ∧ ((mains t).mainsIn 1).last = some ⟨0, 0, 0⟩ ∧
       FT.le (mains t).now (FT.addNs ⟨0, 0, 0⟩ ((mains t).cfg 0x3A0300 * 1000000)) = true ∧
       FT.le (mains (t + 1)).now (FT.addNs ⟨0, 0, 0⟩ ((mains (t + 1)).cfg 0x3A0300 * 1000000)) = false) ∧
    (let t := st.cfg 0x3A0300 * 1000000
     (mains t).Shaped ∧ ((mains t).cfg 0x3A0200).testBit 1 = true ∧ ((mains t).mainsIn 1).present = true ∧
       (mains t).ripe ⟨0, 0, 0⟩ t = true ∧ (mains (t - 1)).ripe ⟨0, 0, 0⟩ t = false ∧ (mains t).arriving (crosses 1) = false ∧
       ({ mains t with pending := [.mainsZeroCrossing 1] } : State).arriving (crosses 1) = true) ∧
    (st.mainsIn 1).present = false := by
  refine ⟨by decide +kernel, by decide +kernel, by decide +kernel, by decide +kernel, by decide +kernel,
    ⟨shaped_of _ (by decide +kernel), by decide +kernel⟩, ⟨shaped_of _ (by decide +kernel), by decide +kernel⟩, by decide +kernel⟩
/-! ### The redundant pair -/

/-- A unit of a pair after BOOT, in a mode and pair state, driving `d`, both heartbeats and lane 0 up, the peer's loop at `r`. -/
def pair (m : Mode) (p : PairState) (d : Drive) (r : Reading) : State :=
  owner (paired { inMode m st with
    power.bootStep := 7, pair.state := p, pair.drive := d, pair.peer := r, pair.hbA := true, pair.hbB := true, pair.lanes := 1,
    pair.peerState := 3 })

/-- The holder and the synchronised standby. -/
def holder : State := pair .active .active .own .free
def standby : State := pair .standby .synced .free .own
def catching : State := pair .standby .transfer .free .own

theorem takes_of (f : List Byte) (s : State)
    (x : s.inPair = true ∧ s.pair.lanes ≠ 0 ∧ linkIntact f = true ∧ field f 4 4 = s.pair.rxSeq) : s.Takes f :=
  ⟨x.1, x.2.1, x.2.2.1, x.2.2.2⟩

theorem brings_of (k : Nat) (f : List Byte) (s : State)
    (x : s.inPair = true ∧ s.pair.lanes ≠ 0 ∧ linkIntact f = true ∧ field f 4 4 = s.pair.rxSeq ∧ field f 0 1 = k ∧
      s.pair.mismatch = false) : s.Brings k f :=
  ⟨⟨x.1, x.2.1, x.2.2.1, x.2.2.2.1⟩, x.2.2.2.2.1, x.2.2.2.2.2⟩

theorem sends_of (s : State) (x : s.inPair = true ∧ s.pair.lanes ≠ 0 ∧ s.pair.mismatch = false) : s.MaySend :=
  ⟨x.1, x.2.1, x.2.2⟩

/-- A holder whose last heartbeat of the peer is `n` CK_HB counts old. -/
def silent (n : Nat) : State := { holder with time.hb := n }

/-- 0x3C04 of silence, and a count less. -/
theorem wit_SeamAndHeartbeats :
    st.inPair = false ∧ (holder.inPair = true ∧ holder.pair.peer ≠ Reading.ofCode 0 ∧ (paired st).pairLive = false) ∧
    (standby.pairLive = true ∧ standby.pair.state = .synced ∧ standby.pair.peer ≠ .free) ∧
    (catching.pairLive = true ∧ catching.pair.state = .transfer) ∧
    (holder.pairLive = true ∧ holder.pair.drive = .own ∧ holder.pair.peer ≠ .own ∧ holder.pair.hbA = true ∧
      ({ holder with pair.pos := 1 } : State).pair.pos = 1 ∧ holder.pair.pos ≠ 1) ∧
    (holder.pair.compliance ≠ 1 ∧ holder.pair.compliance = 0) ∧
    (let n := st.cfg 0x3C0400 * 4000
     (silent n).hbPassed 0 n = true ∧ (silent (n - 1)).hbPassed 0 n = false ∧ (silent n).pair.beatHb = 0 ∧
       (silent n).cfg 0x3C0400 * 4000 = n ∧ (silent n).arriving isLinkFrame = false ∧
       ({ silent n with pending := [.heartbeatA []] } : State).arriving isLinkFrame = true ∧
       ({ standby with pair.hbB := false, time.hb := n } : State).hbPassed 0 n = true) ∧
    ({ standby with pair.hbA := false } : State).pairLive = true ∧
    (paired st).pair.hbB = false ∧
    (after (.seamReadingChange 1) standby).pair.drive = .own ∧ (after (.seamReadingChange 1) catching).stop.latch = true ∧
    (after .hbBLost { standby with pair.hbA := false }).pair.state = .orphan := by decide +kernel

/-- A HEARTBEAT_A that was sent at second `t`, in answer to one that left at `e` and came at `r`. -/
def beat (t e r : Nat) : Heartbeat := ⟨3, 0, 0, 0, ⟨t, 0, 0⟩, ⟨e, 0, 0⟩, ⟨r, 0, 0⟩, 0⟩

/-- A holder with one frame that waits for its ACK since tick 0, at tick `n`. -/
def unheardFor (n : Nat) : State := { holder with pair.unacked := [⟨5, 1, []⟩], time.ticks := n }

/-- A frame of kind 9 with LSEQ 5. -/
def laterFrame : List Byte := linkOctets false 0 7 ⟨5, 9, []⟩

/-- 100 µs without ACK, and a tick less; θ of R540 at its limit 0x3C08 and beyond it. -/
theorem wit_LinkTransport :
    (frameOf (.hello (lf 1 0 [])) = some (1, lf 1 0 []) ∧ (paired st).pair.lanes = 0) ∧
    (frameOf (.log laterFrame) = some (3, laterFrame) ∧
      frameOf (.confirm (lf 1 0 [] ++ [0#8])) = some (5, lf 1 0 [] ++ [0#8])) ∧
    (holder.pair.lanes ≠ 0 ∧ linkIntact (lf 1 0 [] ++ [0#8]) = false ∧ linkIntact laterFrame = true ∧
      field laterFrame 4 4 ≠ holder.pair.rxSeq) ∧
    (holder.Takes (lf 9 7 []) ∧ field (lf 9 7 []) 0 1 ≠ 1) ∧
    (({ holder with pair.mismatch := true } : State).Takes (lf 3 0 []) ∧ frameOf (.log (lf 3 0 [])) = some (3, lf 3 0 [])) ∧
    (holder.inPair = true ∧ st.inPair = false ∧ holder.pair.faulted = false ∧ holder.pair.unacked.length ≤ 256 ∧
      ({ holder with pair.faulted := true } : State).pair.faulted = true ∧ holder.pair.unacked = []) ∧
    ((unheardFor 50000).inPair = true ∧ (unheardFor 50000).pair.lanes ≠ 0 ∧ (unheardFor 50000).pair.unacked ≠ [] ∧
      (unheardFor 50000).timedOut 0 50000 isLinkFrame = true ∧ (unheardFor 49999).timedOut 0 50000 isLinkFrame = false) ∧
    (holder.Takes (lf 1 0 (helloOctets 0 1 0 0)) ∧ field (lf 1 0 (helloOctets 0 1 0 0)) 0 1 = 1) ∧
    (holder.Takes (lf 2 0 (beat 0 0 0).octets) ∧ field (lf 2 0 (beat 0 0 0).octets) 0 1 = 2 ∧
      ((thetaTwice ⟨0, 0, 0⟩ (Heartbeat.read (beat 0 0 0).octets)).natAbs : Int) ≤ 2 * nsUnits (st.cfg 0x3C0800)) ∧
    (holder.Takes (lf 2 0 (beat 9 0 9).octets) ∧
      2 * nsUnits (st.cfg 0x3C0800) < ((thetaTwice ⟨0, 0, 0⟩ (Heartbeat.read (beat 9 0 9).octets)).natAbs : Int)) := by
  refine ⟨by decide +kernel, by decide +kernel, by decide +kernel, ⟨takes_of _ _ (by decide +kernel), by decide +kernel⟩,
    ⟨takes_of _ _ (by decide +kernel), by decide +kernel⟩, by decide +kernel, by decide +kernel,
    ⟨takes_of _ _ (by decide +kernel), by decide +kernel⟩, ⟨takes_of _ _ (by decide +kernel), by decide +kernel⟩,
    takes_of _ _ (by decide +kernel), by decide +kernel⟩

/-- A LOG payload of entries with numbers `l`, a CONFIRM of one placement and of a digest, an AXIS record. -/
def logOf (l : List Nat) : List Byte := zeros 16 ++ l.flatMap fun n => LogEntry.encode ⟨n, 0x10, ⟨0, 0, 0⟩, [], 0⟩
def placedOf : List Byte := confirmOctets 0 0 0 [⟨0, 0, 0, 0, 5, 0⟩]
def digestOf (c d : Nat) : List Byte := confirmOctets c d 1 []
def report (k : Nat) : AxisRec := ⟨3, k, 0, 0, 0, ⟨0, 0, 0⟩⟩

theorem wit_FollowingTheHolder :
    (holder.MaySend ∧ holder.pair.drive = .own ∧ standby.pair.drive ≠ .own ∧ FT.le holder.now holder.now = true ∧
      (takeEntries 8176 holder.ingest.outbox).2 ++ holder.ingest.held = []) ∧
    (standby.Brings 3 (lf 3 0 (logOf [3])) ∧ standby.pairLive = true ∧ standby.follows = true ∧
      readEntries 40 (logOf [3] |>.drop 16) = [⟨3, 0x10, ⟨0, 0, 0⟩, []⟩] ∧
      entriesSkip standby.pair.expect [⟨3, 0x10, ⟨0, 0, 0⟩, []⟩] = true ∧ standby.pair.state = .synced ∧
      entriesSkip standby.pair.expect (readEntries 64 (logOf [0, 1] |>.drop 16)) = false) ∧
    (holder.Takes (lf 3 0 []) ∧ holder.follows = false) ∧
    standby.Brings 4 (lf 4 0 (leBytes 8 7)) ∧
    (FT.slot holder.now = 0 ∧ holder.pair.ownDigest = none ∧
      ({ holder with pair.ownDigest := some (0, 9), time.now := ⟨0, 100000000, 0⟩ } : State).pair.ownDigest = some (0, 9) ∧
      0 + 1 = FT.cycle ⟨0, 100000000, 0⟩) ∧
    (({ standby with pair.ownDigest := some (9, 1) } : State).MaySend ∧ standby.power.mode = .standby) ∧ st.inPair = false ∧
    (standby.Brings 5 (lf 5 0 placedOf) ∧ (field (linkPayload (lf 5 0 placedOf)) 16 1).testBit 0 = false ∧
      readPlacements 32 (placedOf.drop 20) = [⟨0, 0, 0, 0, 5, 0⟩]) ∧
    (let s : State := { catching with pair.ownDigest := some (9, 1), pair.loaded := true }
     s.Brings 5 (lf 5 0 (digestOf 9 1)) ∧ (field (digestOf 9 1) 16 1).testBit 0 = true ∧ field (digestOf 9 1) 0 8 = 9 ∧
       field (digestOf 9 1) 8 8 = 1 ∧ s.pair.compared ≠ some 9 ∧ s.follows = true ∧ s.pair.imageCycle < 9) ∧
    ({ standby with pair.ownDigest := some (9, 1) } : State).Brings 5 (lf 5 0 (digestOf 9 2)) ∧
    (let s : State := { standby with time.now := ⟨1, 0, 0⟩ }
     s.pairLive = true ∧ s.pair.compared ≠ some (FT.cycle s.now - 2) ∧ s.pair.state = .synced ∧ s.arriving isLinkFrame = false) ∧
    ({ standby with pair.compared := some 0 } : State).pair.compared = some (FT.cycle standby.now - 2) ∧
    (standby.Shaped ∧ standby.Brings 7 (lf 7 0 (report 1).octets) ∧ readAxes 24 (report 1).octets = [report 1] ∧
      standby.Brings 7 (lf 7 0 (report 3).octets)) ∧
    holder.Takes (lf 7 0 []) ∧
    ((put 0x380101 2 holder).MaySend ∧ ((List.range 8).any fun n => (put 0x380101 2 holder).axisCfg n 1 != 0) = true) := by
  refine ⟨⟨sends_of _ (by decide +kernel), by decide +kernel⟩, ⟨brings_of _ _ _ (by decide +kernel), by decide +kernel⟩,
    ⟨takes_of _ _ (by decide +kernel), by decide +kernel⟩, brings_of _ _ _ (by decide +kernel), by decide +kernel,
    ⟨sends_of _ (by decide +kernel), by decide +kernel⟩, by decide +kernel,
    ⟨brings_of _ _ _ (by decide +kernel), by decide +kernel⟩, ⟨brings_of _ _ _ (by decide +kernel), by decide +kernel⟩,
    brings_of _ _ _ (by decide +kernel), by decide +kernel, by decide +kernel,
    ⟨shaped_of _ (by decide +kernel), brings_of _ _ _ (by decide +kernel), by decide +kernel, brings_of _ _ _ (by decide +kernel)⟩,
    takes_of _ _ (by decide +kernel), sends_of _ (by decide +kernel), by decide +kernel⟩

/-- Handovers under way: looking for s since tick 0, gone out at tick 0 for 20 ms, acknowledged; and one about to be received. -/
def leaving (x : Handover) (now : FT) (k : Nat) : State :=
  { pair .handover .outgoing .own .free with pair.handover := some x, time.now := now, time.ticks := k }
def goneOut : Handover := ⟨some ⟨0, 20000000, 0⟩, 0, 0, false⟩
def seeking : Handover := ⟨none, 0, 0, false⟩
def ackedGo : Handover := ⟨some ⟨0, 20000000, 0⟩, 0, 0, true⟩
def arriving (now : FT) : State :=
  { pair .standby .incoming .free .own with pair.giveUp := some ⟨0, 20000000, 0⟩, time.now := now }

/-- A unit in START since tick 0 with the link down, and one in TRANSFER that asked at tick 0. -/
def starting (k : Nat) : State := { pair .boot .start .free .free with pair.lanes := 0, time.ticks := k }
def askedAt (k : Nat) : State := { catching with pair.requested := some 0, time.ticks := k }

/-- A standby whose COMPLETE stands at 0. -/
def lagging (ns : Nat) : State := { standby with time.now := ⟨0, ns, 0⟩ }

/-- s of a holder without axes at 0: the first slot start 20 ms ahead. -/
theorem test_handoverSlot : holder.handoverSlot = some ⟨0, 20000000, 0⟩ := by decide +kernel

theorem wit_TransferAndHandover :
    (let n := st.cfg 0x3C0600 * 1000000
     (lagging n).pairLive = true ∧ (lagging n).pair.state = .synced ∧ (lagging n).pair.hbA = true ∧
       FT.lt (FT.addNs (lagging n).pair.complete n) (lagging (n + 1)).now = true ∧
       FT.lt (FT.addNs (lagging n).pair.complete n) (lagging n).now = false ∧ (lagging n).arriving isLinkFrame = false) ∧
    holder.pair.state ≠ .synced ∧
    (holder.Brings 6 (lf 6 0 (requestOctets 4)) ∧ field (linkPayload (lf 6 0 (requestOctets 4))) 0 1 = 1) ∧
    (catching.Brings 6 (lf 6 0 (imageOctets 0 0 2 [1#8])) ∧ catching.pair.state = .transfer ∧ catching.pair.loaded = false ∧
      (let b := linkPayload (lf 6 0 (imageOctets 0 0 2 [1#8]))
       field b 0 1 = 2 ∧ field b 1 4 = catching.pair.transferId ∧ field b 5 4 = catching.pair.image.length ∧
         catching.pair.image.length + b.length - 13 < field b 9 4)) ∧
    (catching.Brings 6 (lf 6 0 (imageOctets 0 0 1 [1#8])) ∧
      (let b := linkPayload (lf 6 0 (imageOctets 0 0 1 [1#8])); field b 9 4 ≤ (catching.pair.image ++ b.drop 13).length)) ∧
    (let n := st.cfg 0x3C0700 * 500000000
     (askedAt n).pairLive = true ∧ (askedAt n).timedOut 0 n isLinkFrame = true ∧ (askedAt (n - 1)).timedOut 0 n isLinkFrame = false) ∧
    (let n := st.cfg 0x3C0500 * 500000000
     (starting n).pairLive = true ∧ (starting n).pair.peer = .free ∧ (starting n).linkIsUp = false ∧
       (starting n).timedOut 0 n isLinkFrame = true ∧ (starting (n - 1)).timedOut 0 n isLinkFrame = false ∧
       (starting n).pair.downAt = 0) ∧ (pair .boot .start .free .free).linkIsUp = true ∧
    (holder.pairCommandCheck (holder.roleOf w0) [1#8] = 1 ∧ leNat [1#8] = 1 ∧ holder.pair.state ≠ .outgoing ∧
      holder.now.sec + 20 < 2 ^ 64) ∧
    1 < standby.pairCommandCheck (standby.roleOf w0) [1#8] ∧
    (let s : State := { holder with stop.latch := true }
     s.pairCommandCheck (s.roleOf w0) [2#8] = 1 ∧ leNat [2#8] = 2) ∧
    (standby.Brings 8 (lf 8 0 (handoverOctets 1 ⟨0, 20000000, 0⟩)) ∧ standby.pair.hbB = true ∧ standby.pair.apart = false ∧
      field (linkPayload (lf 8 0 (handoverOctets 1 ⟨0, 20000000, 0⟩))) 0 1 = 1) ∧
    ((leaving goneOut ⟨0, 0, 0⟩ 0).Brings 8 (lf 8 0 (handoverOctets 2 ⟨0, 20000000, 0⟩)) ∧
      field (linkPayload (lf 8 0 (handoverOctets 2 ⟨0, 20000000, 0⟩))) 0 1 = 2 ∧
      (leaving goneOut ⟨0, 0, 0⟩ 0).pair.handover = some goneOut) ∧
    ((arriving ⟨0, 0, 0⟩).Brings 8 (lf 8 0 (handoverOctets 3 ⟨0, 20000000, 0⟩)) ∧ (arriving ⟨0, 0, 0⟩).pair.hbA = true ∧
      field (linkPayload (lf 8 0 (handoverOctets 3 ⟨0, 20000000, 0⟩))) 0 1 = 3) ∧
    (let s := leaving ackedGo ⟨0, 20000000, 0⟩ 0
     s.pair.state = .outgoing ∧ s.pair.handover = some ackedGo ∧ FT.le ⟨0, 20000000, 0⟩ s.now = true ∧
       s.handoverUnready = false ∧ FT.lt ⟨0, 19999999, 0⟩ ⟨0, 20000000, 0⟩ = true) ∧
    ((leaving goneOut ⟨0, 0, 0⟩ 2500000).timedOut 0 2500000 isLinkFrame = true ∧
      (leaving goneOut ⟨0, 0, 0⟩ 2499999).timedOut 0 2500000 isLinkFrame = false) ∧
    ((leaving seeking ⟨0, 0, 0⟩ 5000000000).passed 0 5000000000 = true ∧
      (leaving seeking ⟨0, 0, 0⟩ 4999999999).passed 0 5000000000 = false) ∧
    (FT.lt (FT.addNs ⟨0, 20000000, 0⟩ 5000000) (arriving ⟨0, 25000000, 1⟩).now = true ∧
      FT.lt (FT.addNs ⟨0, 20000000, 0⟩ 5000000) (arriving ⟨0, 25000000, 0⟩).now = false) ∧
    (({ st with power.faultTick := some 0, time.ticks := 50000000 } : State).power.faultTick = some 0 ∧
      ({ st with power.faultTick := some 0, time.ticks := 49999999 } : State).ticks < 0 + 50000000 ∧
      st.power.faultTick = none) := by
  refine ⟨by decide +kernel, by decide +kernel, ⟨brings_of _ _ _ (by decide +kernel), by decide +kernel⟩,
    ⟨brings_of _ _ _ (by decide +kernel), by decide +kernel⟩, ⟨brings_of _ _ _ (by decide +kernel), by decide +kernel⟩,
    by decide +kernel, by decide +kernel, by decide +kernel, by decide +kernel, by decide +kernel, by decide +kernel,
    ⟨brings_of _ _ _ (by decide +kernel), by decide +kernel⟩, ⟨brings_of _ _ _ (by decide +kernel), by decide +kernel⟩,
    ⟨brings_of _ _ _ (by decide +kernel), by decide +kernel⟩, ?_⟩
  decide +kernel
/-! ### The object dictionary -/

/-- A request: OP, GROUP, COUNT and items, REQ_ID 0x0A11. -/
def req (op group n : Nat) (items : List Byte) : List Byte :=
  [1#8, byte op, 0x11#8, 0x0A#8, byte group, byte n, 0#8, 0#8] ++ items

/-- "A margin change at Holmgate" (chapter 18): the items of the request, and its response. -/
def margins : List Byte := [2#8, 0x2D#8, 0#8, 0#8, 2#8, 0#8, 0x90#8, 1#8, 3#8, 0x2D#8, 0#8, 0#8, 1#8, 0#8, 0x19#8]

theorem test_margin_request : askOf (req 2 0 2 margins) = .write [(0x2D0200, [0x90#8, 1#8]), (0x2D0300, [0x19#8])] ∧
    response (req 2 0 2 margins) 0 0 (codeItems [0x2D0200, 0x2D0300] [0, 0]) =
      [1#8, 0x82#8, 0x11#8, 0x0A#8, 0#8, 2#8, 0#8, 0#8, 2#8, 0x2D#8, 0#8, 0#8, 0#8, 0#8, 3#8, 0x2D#8, 0#8, 0#8, 0#8, 0#8] := by
  decide +kernel

/-- One session of `w0` in SOLO, with a group, a kept response and what it sent last. -/
def served (role : Nat) (g : Option Group) (last : Option (Nat × List Byte)) : State :=
  { chainsUp with dict.sessions := [{ ses role with group := g, last := last }] }

/-- A write of the first margin; one of an object that does not exist. -/
def write1 : List Byte := margins.take 8
def write0 : List Byte := [0#8, 0#8, 1#8, 0#8, 1#8, 0#8, 1#8]

/-- A group with nothing staged. -/
def group1 : Group := ⟨1, [], 0⟩

/-- A state at tick `n`. -/
def atTick (n : Nat) (s : State) : State := { s with time.ticks := n }

theorem asks_of (w : Writer) (m : List Byte) (x : Session) (s : State) (h : s.sessionOf w.sess.val = some x)
    (p : x.port = w.port.val) (l : x.last = none) : s.Asks w m x := ⟨h, p, by simp [l]⟩

theorem served_asks (role : Nat) (g : Option Group) (m : List Byte) :
    (served role g none).Asks w0 m { ses role with group := g } := asks_of _ _ _ _ rfl rfl rfl

theorem wit_DictionaryRequests :
    (.dictRead w0 [] ci ∈ dictCommands w0 [] ci ∧ st.sessionOf w0.sess.val = none) ∧
    ((served 2 none (some (0x0A11, [7#8]))).sessionOf 1 = some { ses 2 with last := some (0x0A11, [7#8]) } ∧
      field (req 2 0 1 write1) 2 2 = 0x0A11 ∧ 4 ≤ (req 2 0 1 write1).length) ∧
    ((served 2 none none).Asks w0 (req 1 0 1 [2#8, 0x2D#8, 0#8, 0#8]) (ses 2) ∧
      askOf (req 1 0 1 [2#8, 0x2D#8, 0#8, 0#8]) = .read [0x2D0200]) ∧
    (askOf (req 2 0 1 write0) = .write [(1, [1#8])] ∧
      passes (((served 2 none none).heard w0).commitCheck w0 2 ci (((served 2 none none).heard w0).boundAll []
        [(1, [1#8])])).codes = false) ∧
    (askOf (req 2 0 1 write1) = .write [(0x2D0200, [0x90#8, 1#8])] ∧ isSetting 0x2D0200 = true ∧
      passes (((served 2 none none).heard w0).commitCheck w0 2 ci (((served 2 none none).heard w0).boundAll []
        [(0x2D0200, [0x90#8, 1#8])])).codes = true) ∧
    (served 2 (some group1) none).Asks w0 (req 2 1 1 write1) { ses 2 with group := some group1 } ∧
    field (req 2 1 1 write1) 4 1 = group1.ident ∧ askOf (req 3 0 0 []) = .groupOpen ∧ askOf (req 4 1 0 []) = .groupCommit ∧
    askOf (req 5 1 0 []) = .groupAbort ∧ group1.writes = [] ∧ askOf [1#8] = .malformed ∧ 2 ≤ w0.port.val ∧
    ((atTick 30000000000 (served 2 (some group1) none)).timedOut 0 30000000000 (closesGroup w0) = true ∧
      (atTick 29999999999 (served 2 (some group1) none)).timedOut 0 30000000000 (closesGroup w0) = false) ∧
    (let g : Group := { group1 with writes := [⟨1, [1#8], 0⟩] }
     (served 2 (some g) none).sessionOf 1 = some { ses 2 with group := some g } ∧
       passes ((((served 2 (some g) none).heard w0).modSession 1 fun y => { y with group := none }).commitCheck w0 2 ci
         g.writes).codes = false) := by
  refine ⟨⟨by simp [dictCommands], by decide +kernel⟩, by decide +kernel, ⟨served_asks 2 none _, by decide +kernel⟩,
    by decide +kernel, by decide +kernel, served_asks 2 (some group1) _, ?_⟩
  decide +kernel

/-- A certificate that the owner signed for a role, in a state with an owner. -/
def shake (ok : Bool) : HandshakeIn :=
  ⟨false, ok, [1#8], true, [0x4F#8, 0x42#8, 0x53#8, 0x45#8, 0x52#8, 0x56#8, 0x45#8, 0x52#8], ⟨0, 0, 0⟩, ⟨9, 0, 0⟩⟩

/-- Eight sessions open. -/
def crowded : State := { st with dict.sessions := (List.range 8).map fun n => { ses 0 with num := n + 1 } }

theorem wit_Sessions :
    st.handshake (shake false) = .inr 0 ∧ (st.handshake (shake true) = .inl 0 ∧ st.sessionOf 1 = none) ∧
    (crowded.handshake (shake true) = .inl 0 ∧ (∀ k, k < 9 → 1 ≤ k → crowded.sessionOf k ≠ none)) ∧
    (let s : State := { st with sec.owner := [1#8] }
     s.sec.owner ≠ [] ∧ s.handshake (shake true) = .inl 3) ∧
    (crowded.sessionOf 8 = some { ses 0 with num := 8 } ∧ st.sessionOf 8 = none) ∧
    (let n := st.cfg 0x102100 * 500000000
     (atTick n crowded).timedOut 0 n (ofSession 8) = true ∧ (atTick (n - 1) crowded).timedOut 0 n (ofSession 8) = false ∧
       (atTick n crowded).cfg 0x102100 * 500000000 = n) ∧
    passes ((owner (inMode .maintain st)).commitCheck w0 3 ⟨true, false, true, true⟩ [st.bound [] 0x300200 [1#8]]).codes = true ∧
    passes ((owner chainsUp).commitCheck w0 3 ⟨true, false, true, true⟩ [(owner chainsUp).bound [] 0x300200 [9#8]]).codes =
      false := by decide +kernel

/-- CAN0 on its bus, with a transfer and a group. -/
def canUp (x : Option CanXfer) (g : Option Group) : State :=
  put 0x102001 3 { chainsUp with net.can := List.replicate 2 { CanPort.init with state := 1, rx := 32 }, dict.can := [⟨x, g, 1, 0⟩, ⟨none, none, 1, 0⟩] }

/-- A download and an upload half done. -/
def down : CanXfer := ⟨true, 0x3F0100, 0, 100, zeros 56, 0, [0x83#8, 0#8], 0⟩
def up : CanXfer := ⟨false, 0x123000, 0, 120, zeros 61, 0, [0x81#8], 0⟩

/-- Requests (R590): a whole WRITE of one octet, the first frame of a WRITE of 57, a segment of `n`, ABORT, GROUP. -/
def canWrite1 : List Byte := [2#8, 3#8, 0x2D#8, 0#8, 0#8, 0#8, 1#8, 0#8, 0x19#8]
def canWriteLong : List Byte := [2#8, 1#8, 0x3F#8, 0#8, 0#8, 0#8, 57#8, 0#8] ++ zeros 56
def canSeg (cmd t n : Nat) : List Byte := [byte cmd, byte t, byte n, 0#8] ++ zeros 60

theorem wit_CanDictionary :
    (.canRead 0 [] ci ∈ canCommands 0 [] ci ∧ st.canOn 0 = false) ∧
    ((canUp none none).canOn 0 = true ∧ ((canUp none none).canDict 0).xfer = none ∧
      ((canUp none none).readItem 0 0x400000).2.1.length ≤ 56 ∧
      56 < ((canUp none none).readItem 3 0x121000).2.1.length) ∧
    ((canUp (some up) none).Shaped ∧ ((canUp (some up) none).canDict 0).xfer = some up ∧ up.write = false ∧ up.data ≠ [] ∧
      field (canSeg 4 0 0) 0 1 = 4 ∧ field (canSeg 4 0 0) 1 1 % 2 = up.toggle ∧ field (canSeg 4 1 0) 1 1 % 2 ≠ up.toggle) ∧
    (field (canSeg 3 1 9) 0 1 = 3 ∧ down.write = true ∧ field (canSeg 3 1 9) 1 1 % 2 ≠ down.toggle) ∧
    ((canUp none none).Shaped ∧ field canWriteLong 0 1 = 2 ∧ 8 + 56 ≤ canWriteLong.length ∧
      56 < field canWriteLong 6 2 ∧ field canWriteLong 6 2 ≤ 1024) ∧
    (let s := canUp none none
     field canWrite1 4 1 = 0 ∧ passes (((s.xferEnds 0).modCanDict 0 fun d => { d with wrote := s.ticks }).commitCheck (canWriter 0) 3 ci [⟨canObj canWrite1, [0x19#8], 0⟩]).codes = true ∧ isSetting (canObj canWrite1) = true ∧ windowSelect (canObj canWrite1) = none ∧
       canObj canWrite1 = 0x2D0300 ∧ s.roleOf (canWriter 0) = 3) ∧
    ((canUp (some down) none).Shaped ∧ field (canSeg 3 0 43) 1 1 % 2 = down.toggle ∧ 1 ≤ field (canSeg 3 0 43) 2 2 ∧
      field (canSeg 3 0 43) 2 2 ≤ 60 ∧ 4 + field (canSeg 3 0 43) 2 2 ≤ (canSeg 3 0 43).length ∧
      down.data.length + field (canSeg 3 0 43) 2 2 < down.size ∧ down.isOpen = true) ∧
    (field (canSeg 0x7F 0 0) 0 1 = 0x7F ∧ (atTick 500000000 (canUp (some down) none)).timedOut 0 500000000 (ofTransfer 0) = true ∧
      (atTick 499999999 (canUp (some down) none)).timedOut 0 500000000 (ofTransfer 0) = false) ∧ (field [5#8, 1#8, 0#8] 1 1 = 1 ∧ ((canUp none none).canDict 0).group = none) ∧
    ((canUp none (some group1)).Shaped ∧ field [5#8, 3#8, 1#8] 1 1 = 3 ∧ group1.ident = field [5#8, 3#8, 1#8] 2 1) ∧
    (atTick 30000000000 (canUp none (some group1))).timedOut 0 30000000000 (closesGroup (canWriter 0)) = true ∧
    ((⟨true, false, false, 0⟩ : CanIn).extended = true ∧ (⟨false, true, false, 0⟩ : CanIn).remote = true ∧
      (⟨false, false, true, 1⟩ : CanIn).classical = true) ∧
    (32 ≤ ((canUp none none).canPort 0).rx ∧ ((canUp none none).canPort 0).rx < 32 + 1) := by
  refine ⟨⟨by simp [canCommands], by decide +kernel⟩, by decide +kernel, ⟨shaped_of _ (by decide +kernel), by decide +kernel⟩,
    by decide +kernel, ⟨shaped_of _ (by decide +kernel), by decide +kernel⟩, by decide +kernel,
    ⟨shaped_of _ (by decide +kernel), by decide +kernel⟩, by decide +kernel, by decide +kernel,
    ⟨shaped_of _ (by decide +kernel), by decide +kernel⟩, by decide +kernel, by decide +kernel⟩

/-! ### Chapters 19 and 20 -/

/-- A record of `n` octet items of nothing, made at tick 0. -/
def rec0 (sev n : Nat) : Rec := ⟨7, 0x7001, sev, 0, false, false, ⟨5, 0, 0⟩, List.replicate n (.oct []), 0⟩

/-- A state with staged records and a ring whose last sector holds `u` octets. -/
def stg (l : List Rec) (u : Nat) : State := atTick 10000000 { st with rcd.staged := l, rcd.ring := [(u, [])] }

/-- An octet setting. -/
def putOct (o : Nat) (l : List Byte) (s : State) : State := { s with settings := SMap.insert o (.oct l) s.settings }

/-- Records are streamed to one sink, whose next hop ETH0 knows. -/
def streams : State :=
  let s := putOct 0x3E3001 [10#8, 0#8, 0#8, 9#8, 0#8, 1#8] (putOct 0x360401 [10#8, 0#8, 0#8, 2#8] (put 0x360501 24 netUp))
  atTick 500000000 { s with rcd.stream := [rec0 2 612, rec0 2 0],
                            net.eth := modAt s.net.eth 0 fun e => { e with arp := [⟨[10#8, 0#8, 0#8, 9#8], zeros 6, 0⟩] } }

/-- Streaming, to a tick, records in which there is less than 1,000 octets. -/
def streamsAt (n : Nat) : State := atTick n { streams with rcd.stream := [rec0 2 0] }

/-- Records of code 0x1001 withheld by the default limit, in the interval before and in this one. -/
def withheld (prev held : Nat) : State :=
  { st with rcd.rates := SMap.insert (rateKey 0x1001 0) ⟨0, 64, held, prev⟩ st.rcd.rates }

theorem wit_RecorderFlushAndStreams :
    ((stg [rec0 7 0] 0).flushDue = true ∧ (stg [rec0 7 0] 0).rcd.staged = [rec0 7 0] ∧ (rec0 7 0).sev = 7 ∧
      (rec0 7 0).made + 10000000 ≤ (stg [rec0 7 0] 0).ticks ∧
      recsLength (stg [rec0 7 0] 0).rcd.safety + (rec0 7 0).length ≤ sectorSize) ∧
    (let s := stg [rec0 4 0] (65536 - 32)
     s.rcd.staged = [rec0 4 0] ∧ (rec0 4 0).sev ≠ 7 ∧ s.rcd.ring.getLast? = some (65504, []) ∧
     65504 + (rec0 4 0).length ≤ sectorSize) ∧
    (let s := atTick 9999999 (stg [rec0 4 0] 0)
     s.flushDue = false ∧ recsLength s.rcd.staged < 256 ∧
     (s.rcd.staged.all fun r => decide (s.ticks < r.made + 10000000)) = true) ∧
    (let s := atTick 0 (stg [rec0 4 112] 0)
     s.flushDue = true ∧ recsLength s.rcd.staged = 256) ∧
    st.rcd.dropped = 0 ∧ ({ st with rcd.dropped := 1 } : State).rcd.dropped ≠ 0 ∧ st.cfg 0x3E0100 ≤ 2 := by decide +kernel

theorem wit_RecorderFlushAndStreams_rates :
    (SMap.getD RateCell.fresh (rateKey 0x1001 0) st.rcd.rates).held = 0 ∧
    (SMap.getD RateCell.fresh (rateKey 0x1001 0) (withheld 1 0).rcd.rates).prev = 1 ∧
    (SMap.getD RateCell.fresh (rateKey 0x1001 0) (atTick 499999999 (withheld 0 3)).rcd.rates) = ⟨0, 64, 3, 0⟩ ∧
    (SMap.getD RateCell.fresh (rateKey 0x1001 0) (atTick 500000000 (withheld 0 3)).rcd.rates) = ⟨0, 64, 3, 0⟩ ∧
    (atTick 500000000 (withheld 0 3)).ticks = 500000000 ∧ (Catalog.event 0x1001).limit = .default ∧
    SMap.wf (fun _ => RateCell.fresh) (withheld 0 3).rcd.rates = true ∧
    (Catalog.event 0x1006).limit ≠ .default := by decide +kernel

theorem wit_RecorderFlushAndStreams_streams :
    st.streaming = false ∧ streams.streaming = true ∧ streams.rcd.streamDue streams.ticks = true ∧
    streams.rcd.stream = [rec0 2 612, rec0 2 0] ∧ (rec0 2 612).length ≤ 1256 ∧ streams.sinkUsed 0x3E3001 = true ∧
    streams.sinkUsed 0x3E3002 = false ∧ (streamsAt 500000000).rcd.streamDue (streamsAt 500000000).ticks = true ∧
    recsLength (streamsAt 499999999).rcd.stream < 1000 ∧
    ((streamsAt 499999999).rcd.stream.all fun r => decide ((streamsAt 499999999).ticks < r.made + 500000000)) = true := by
  decide +kernel

theorem wit_RecorderFlushAndStreams_sink :
    streams.Reaches (streams.cfgOct 0x3E3001) 0 [10#8, 0#8, 0#8, 9#8] (zeros 6) :=
  ⟨by decide +kernel, by decide +kernel, by decide +kernel, by decide +kernel⟩

theorem wit_RecorderFlushAndStreams_all : ∀ o, o = 0x3E3001 ∨ o = 0x3E3002 → streams.sinkUsed o = true →
    ∃ p hop mac, streams.Reaches (streams.cfgOct o) p hop mac := by
  rintro o (rfl | rfl) h
  · exact ⟨0, [10#8, 0#8, 0#8, 9#8], zeros 6, wit_RecorderFlushAndStreams_sink⟩
  · exact absurd h (by decide +kernel)

/-- The first 160 octets of an image of one octet [0]: KIND, LENGTH, the length and digest it results in. -/
def head160 (kind len res : Nat) (base digest : List Byte) : List Byte :=
  leBytes 4 0x4E524144 ++ [1#8, byte kind] ++ zeros 2 ++ leBytes 4 0x01000000 ++ zeros 8 ++ leBytes 4 len ++ leBytes 4 res ++
    zeros 4 ++ base ++ digest ++ zeros 32

/-- A signature that root key 0 verifies. -/
def signature (m : List Byte) : List Byte := leBytes 96 (Config.rootSignatures 0 (Config.sha384 m)).1.toNat

theorem rootVerify_signature (m : List Byte) : Config.rootVerify 0 (Config.sha384 m) (signature m) = true := by
  simp [Config.rootVerify, signature]

/-- A signed image. -/
def signedImage (kind res : Nat) (base digest payload : List Byte) : List Byte :=
  let h := head160 kind payload.length res base digest
  h ++ signature (h ++ payload) ++ payload

/-- Verifying an image. -/
def verifying (kind : Nat) (l : List Byte) : State :=
  { st with upd.state := .verifying, upd.kind := kind, upd.total := l.length, upd.hamper := l }

/-- A boot firmware image of one octet that passes every check of R627. -/
def goodBoot : State := verifying 1 (signedImage 1 1 (zeros 48) (Config.sha384 [0#8]) [0#8])

theorem goodBoot_signed : goodBoot.signed (goodBoot.upd.hamper.take 256) (goodBoot.upd.hamper.drop 256) = true := by
  have h : Config.rootVerify 0 (Config.sha384 ((goodBoot.upd.hamper.take 256).take 160 ++ goodBoot.upd.hamper.drop 256))
      (((goodBoot.upd.hamper.take 256).drop 160).take 96) = true :=
    rootVerify_signature (head160 1 1 1 (zeros 48) (Config.sha384 [0#8]) ++ [0#8])
  have r : goodBoot.sec.revoked.testBit 0 = false := by decide +kernel
  simp [State.signed, h, r]

set_option maxRecDepth 20000 in
theorem goodBoot_digest : ((goodBoot.upd.hamper.take 256).drop 80).take 48 = Config.sha384 (goodBoot.upd.hamper.drop 256) := rfl

theorem goodBoot_cause : goodBoot.verifyCause = 0 := by
  have c1 : (field (goodBoot.upd.hamper.take 256) 0 4 != 0x4E524144 || field (goodBoot.upd.hamper.take 256) 4 1 != 1 ||
      field (goodBoot.upd.hamper.take 256) 6 2 != 0 || field (goodBoot.upd.hamper.take 256) 128 32 != 0 ||
      field (goodBoot.upd.hamper.take 256) 20 4 + 256 != goodBoot.upd.total) = false := by decide +kernel
  have c2 : field (goodBoot.upd.hamper.take 256) 5 1 = 1 := by decide +kernel
  have c3 : goodBoot.upd.kind = 1 := rfl
  have c4 : goodBoot.sec.floors.getD (1 - 1) 0 = 0 := by decide +kernel
  simp only [State.verifyCause, c1, c2, c3, c4, goodBoot_signed, goodBoot_digest]
  simp [firstCase]

/-- A Darn image whose one operation copies the one octet of the active runtime image, and the unit that holds that image. -/
def darnOps : List Byte := [1#8] ++ leBytes 4 0 ++ leBytes 4 1 ++ [0#8]
def darnState (s : UpdState) : State :=
  { verifying 3 (signedImage 3 1 (Config.sha384 [7#8]) (Config.sha384 [7#8]) darnOps) with
      upd.state := s, upd.active := 0, upd.boot := [some ⟨1, 0, 0, 0, 0, [], false⟩, none], upd.bootUse := 0,
      upd.banks := [some ⟨3, 0, 0, 0, 0, [7#8], false⟩, none] }

/-- A copy past the end of the base image. -/
def badDarn : State := { darnState .applying with upd.hamper := zeros 256 ++ [1#8] ++ leBytes 4 0 ++ leBytes 4 2 ++ [0#8] }

theorem darnState_signed :
    (darnState .verifying).signed ((darnState .verifying).upd.hamper.take 256) ((darnState .verifying).upd.hamper.drop 256) =
      true := by
  have h : Config.rootVerify 0 (Config.sha384 (((darnState .verifying).upd.hamper.take 256).take 160 ++
      (darnState .verifying).upd.hamper.drop 256)) ((((darnState .verifying).upd.hamper.take 256).drop 160).take 96) = true :=
    rootVerify_signature (head160 3 10 1 (Config.sha384 [7#8]) (Config.sha384 [7#8]) ++ darnOps)
  have r : (darnState .verifying).sec.revoked.testBit 0 = false := by decide +kernel
  simp [State.signed, h, r]

set_option maxRecDepth 20000 in
theorem darnState_cause : (darnState .verifying).verifyCause = 0 := by
  have c1 : (field ((darnState .verifying).upd.hamper.take 256) 0 4 != 0x4E524144 ||
      field ((darnState .verifying).upd.hamper.take 256) 4 1 != 1 ||
      field ((darnState .verifying).upd.hamper.take 256) 6 2 != 0 ||
      field ((darnState .verifying).upd.hamper.take 256) 128 32 != 0 ||
      field ((darnState .verifying).upd.hamper.take 256) 20 4 + 256 != (darnState .verifying).upd.total) = false := by
    decide +kernel
  have c2 : field ((darnState .verifying).upd.hamper.take 256) 5 1 = 3 := by decide +kernel
  have c3 : (darnState .verifying).upd.kind = 3 := rfl
  have c4 : (darnState .verifying).sec.floors.getD (3 - 1) 0 = 0 := by decide +kernel
  have c5 : field ((darnState .verifying).upd.hamper.take 256) 28 4 = 0 := by decide +kernel
  have c6 : (((darnState .verifying).upd.hamper.take 256).drop 32).take 48 = Config.sha384
      ((((darnState .verifying).upd.banks.getD (darnState .verifying).upd.active none).map fun i => i.content).getD []) := rfl
  simp only [State.verifyCause, c1, c2, c3, c4, c5, c6, darnState_signed]
  simp [firstCase]

/-- An owner's unit in MAINTAIN with mains disabled. -/
def parked : State := owner (put 0x3A0200 0 (inMode .maintain st))

/-- An owner's unit in MAINTAIN, receiving an image of 257 octets of which `n` are there. -/
def updating (n : Nat) : State :=
  { parked with upd.state := .receiving, upd.holder := some (2, 1), upd.kind := 3, upd.total := 257,
                                     upd.hamper := zeros n }
def opening : List Byte := [3#8, 0#8, 0#8, 0#8] ++ leBytes 4 257

theorem wit_UpdateSessionAndImages :
    parked.openCheck (parked.roleOf w0) opening = 1 ∧
    (updating 0).openCheck ((updating 0).roleOf w0) opening = 0x10 ∧
    (updating 256).pieceCheck ((updating 256).roleOf w0) 2 1 (leBytes 4 256 ++ zeros 4 ++ [1#8]) = 0 ∧
    ((updating 256).writeCheck ((updating 256).roleOf w0) 0x3F0100 (leBytes 4 256 ++ zeros 4 ++ [1#8]) = 0 ∧
      field (leBytes 4 256 ++ zeros 4 ++ [1#8]) 4 4 = 0 ∧ (updating 256).upd.holder = some (w0.port.val, w0.session) ∧
      (updating 256).upd.state = .receiving ∧
      field (leBytes 4 256 ++ zeros 4 ++ [1#8]) 0 4 = (updating 256).upd.hamper.length ∧
      field (leBytes 4 256 ++ zeros 4 ++ [1#8]) 0 4 + ((leBytes 4 256 ++ zeros 4 ++ [1#8]).length - 8) ≤
        (updating 256).upd.total) ∧
    (updating 257).finishCheck ((updating 257).roleOf w0) 2 1 [1#8] = 1 ∧
    (updating 5).abortCheck ((updating 5).roleOf w0) 2 1 [1#8] = 0 ∧
    ({ updating 5 with upd.state := .ready } : State).abortCheck ((updating 5).roleOf w0) 2 1 [1#8] = 0 ∧
    st.upd.state ≠ .receiving ∧ st.upd.state ≠ .verifying ∧ st.upd.state ≠ .applying ∧
    ((verifying 1 []).upd.state = .verifying ∧ (verifying 1 []).verifyCause ≠ 0) ∧
    (goodBoot.upd.state = .verifying ∧ goodBoot.upd.kind ≠ 3) ∧ (darnState .verifying).upd.state = .verifying ∧
    (badDarn.upd.state = .applying ∧ badDarn.upd.banks.length = 2 ∧ badDarn.upd.active < 2 ∧
      darn (((badDarn.upd.banks.getD badDarn.upd.active none).map fun i => i.content).getD [])
        (badDarn.upd.hamper.drop 256).length (badDarn.upd.hamper.drop 256) [] = none) := by decide +kernel

set_option maxRecDepth 20000 in
theorem wit_UpdateSessionAndImages_darn :
    (darnState .applying).upd.state = .applying ∧ (darnState .applying).upd.banks.length = 2 ∧
    darn ((((darnState .applying).upd.banks.getD (darnState .applying).upd.active none).map fun i => i.content).getD [])
      ((darnState .applying).upd.hamper.drop 256).length ((darnState .applying).upd.hamper.drop 256) [] = some [7#8] ∧
    [7#8].length = field ((darnState .applying).upd.hamper.take 256) 24 4 ∧
    Config.sha384 [7#8] = (((darnState .applying).upd.hamper.take 256).drop 80).take 48 := by
  refine ⟨rfl, rfl, by decide +kernel, by decide +kernel, rfl⟩

/-- READY in MAINTAIN, with an image in the inactive bank. -/
def readyUnit (ds : Nat) : State :=
  { parked with
      upd.state := .ready, upd.active := 0,
      upd.banks := [some ⟨3, 0, 5, 0, 0, [], false⟩, some ⟨3, 1, ds, 0, 0, [], false⟩] }

/-- Handing over cluster by cluster. -/
def handing (o : Option Nat) (d : List Nat) : State :=
  { readyUnit 5 with upd.state := .activating, upd.method := 0, upd.out := o, upd.done := d }

/-- In TRIAL. -/
def trial (method : Nat) : State :=
  { parked with
      upd.state := .trial, upd.method := method, upd.oldArea := none, upd.done := [0, 1, 2, 3], upd.cleanRun := 100,
      upd.active := 0, upd.banks := [none, none] }

theorem wit_UpdateActivationAndFallback :
    ((readyUnit 5).activateCheck ((readyUnit 5).roleOf w0) [1#8] = 1 ∧ (readyUnit 5).erasedArea ≠ none ∧
      (readyUnit 5).spareImage = some ⟨3, 1, 5, 0, 0, [], false⟩ ∧ (readyUnit 5).dsVersion = 5) ∧
    ((readyUnit 6).activateCheck ((readyUnit 6).roleOf w0) [1#8] = 1 ∧ (readyUnit 6).erasedArea ≠ none ∧
      (readyUnit 6).spareImage = some ⟨3, 1, 6, 0, 0, [], false⟩ ∧ (readyUnit 6).dsVersion = 5) ∧
    1 < (trial 0).activateCheck ((trial 0).roleOf w0) [1#8] ∧
    (let s : State := { readyUnit 5 with upd.state := .staged }
     s.activateCheck (s.roleOf w0) [2#8] = 1) ∧
    [3, 2, 1, 0].find? (fun c => !(handing none [2, 3]).upd.done.contains c) = some 1 ∧
    (handing (some 1) [2, 3]).upd.done.length < 3 ∧ 3 ≤ (handing (some 0) [1, 2, 3]).upd.done.length ∧
    ((trial 0).writeCheck ((trial 0).roleOf w0) 0x3F0500 [1#8] = 0 ∧ (trial 0).upd.state = .trial) ∧
    ((trial 0).writeCheck ((trial 0).roleOf w0) 0x3F0600 [1#8] = 0 ∧ (trial 0).upd.method = 0 ∧
      (trial 0).upd.oldArea = none ∧ (trial 0).upd.banks.length = 2 ∧ (trial 0).upd.active < 2) ∧
    (parked.writeCheck 3 0x3F0600 [1#8] = 0 ∧
      parked.roleOf w0 = 3 ∧ parked.upd.state ≠ .trial) ∧
    ((trial 0).healthy = true ∧ (trial 0).sec.floors.length = 3) ∧ st.healthy = false ∧
    ((trial 1).upd.state = .trial ∧ (trial 1).upd.method = 1) := by decide +kernel

/-- Ticks after which 0x3F10 and 0x3F0C end. -/
def idleTicks : Nat := parked.cfg 0x3F1000 * 500000000
def healthTicks : Nat := parked.cfg 0x3F0C00 * 500000000

theorem wit_UpdateSessionAndImages_idle :
    (updating 0).upd.state = .receiving ∧
    (let s := atTick idleTicks (updating 0)
     s.timedOut s.upd.pieceAt (s.cfg 0x3F1000 * 500000000) bringsPiece = true) ∧
    (let s := atTick (idleTicks - 1) (updating 0)
     s.timedOut s.upd.pieceAt (s.cfg 0x3F1000 * 500000000) bringsPiece = false) ∧
    (let s := atTick idleTicks { updating 0 with pending := [.updateData w0 []] }
     s.timedOut s.upd.pieceAt (s.cfg 0x3F1000 * 500000000) bringsPiece = false) := by decide +kernel

theorem wit_UpdateActivationAndFallback_timer :
    (let s := atTick healthTicks (trial 0)
     s.healthy = true ∧ s.upd.state = .trial ∧ s.upd.method = 0 ∧ s.upd.oldArea = none ∧
     s.timedOut s.upd.trialStart (s.cfg 0x3F0C00 * 500000000) confirmsHealth = true) ∧
    (let s := atTick (healthTicks + 1) (trial 1)
     s.healthy = false ∧ s.upd.state = .trial ∧ s.upd.method = 1 ∧
     s.timedOut s.upd.trialStart (s.cfg 0x3F0C00 * 500000000) confirmsHealth = true) ∧
    (let s := atTick (healthTicks - 1) (trial 1)
     s.timedOut s.upd.trialStart (s.cfg 0x3F0C00 * 500000000) confirmsHealth = false) ∧
    (let s := atTick healthTicks { trial 1 with pending := [.healthConfirmation] }
     s.timedOut s.upd.trialStart (s.cfg 0x3F0C00 * 500000000) confirmsHealth = false) := by decide +kernel

/-! ### Chapter 21 -/

/-- A unit whose Rinse of PD_MEM is at burst `n` of a pass of 86,400 s, with address 9 corrected in the pass before. -/
def rinsing (n : Nat) : State := { st with bg.sram := { st.bg.sram with at_ := n, period := 86400, previous := [9] } }

/-- The same at the tick at which that burst is due. -/
def rinseDue (n : Nat) : State := atTick (n * (86400 * 500000000) / 65536) (rinsing n)

/-- Ticks after which a pass of 86,400 s is overdue. -/
def overdueTicks : Nat := 11 * 86400 * 500000000 / 10

/-- A word that cannot be corrected, of an owner and a kind. -/
def bad (owner : Fin 4) (kind : Fin 3) : RinseBad := ⟨5, owner, kind, 3⟩

/-- In HOLDOVER with a frozen term. -/
def holding : State := { st with time.state := .holdover, time.nextTerms := none }

/-- Locked to GNSS, with samples of the oscillator model at 20.0 °C and at 25.0 °C. -/
def sampled : State := { st with time.state := .lockedGnss, bg.oscSamples := [⟨0, 200, 5⟩, ⟨0, 240, 9⟩, ⟨0, 250, 12⟩] }

theorem wit_BackgroundWork_rinse :
    ({ st with power.domains := 2 } : State).domainOn (6 + b2n false) = false ∧ st.domainOn (6 + b2n false) = true ∧
    (atTick (65534 * (86400 * 500000000) / 65536 - 1) (rinsing 65534)).burstDue false = false ∧
    (rinseDue 0).burstDue false = true ∧ (rinseDue 65534).burstDue false = true ∧ (rinseDue 65535).burstDue false = true ∧
    ((rinseDue 0).pass false).at_ + 1 < passBursts false ∧ ((rinseDue 65534).pass false).at_ + 1 < passBursts false ∧
    passBursts false ≤ ((rinseDue 65535).pass false).at_ + 1 ∧ ((rinseDue 0).pass false).previous.contains 9 = true ∧
    (bad 3 0).owner.val = 3 ∧ ((bad 2 0).owner.val = 2 ∧ (bad 2 0).kind.val = 0) ∧
    (rinsing 0).pass false = { (rinsing 0).pass false with period := 86400, overdue := false } ∧
    (atTick overdueTicks (rinsing 0)).timedOut ((rinsing 0).pass false).tick overdueTicks (burstOf false) = true ∧
    (atTick (overdueTicks - 1) (rinsing 0)).timedOut ((rinsing 0).pass false).tick overdueTicks (burstOf false) = false ∧
    ({ st with bg.sram.overdue := true } : State).bg.sram.overdue = true := by decide +kernel

theorem wit_BackgroundWork :
    (shapeOk st = true ∧ st.bg.calValues.length = 6) ∧ 2 ≤ (setAt st.bg.calFails 3 2).getD 3 0 ∧ st.calRuns 3 = true ∧
    (shapeOk sampled = true ∧ sampled.time.state ≠ .holdover ∧ sampled.time.state ≠ .free ∧
      oscWide (⟨sampled.ticks, 220, 5⟩ :: sampled.bg.oscSamples) = true ∧ oscWide [⟨0, 200, 5⟩, ⟨0, 249, 5⟩] = false) ∧
    (holding.time.state = .holdover ∧ holding.time.nextTerms = none ∧ holding.incrementHeld = false) ∧
    st.time.state ≠ .holdover ∧
    wearCounted 1 32 = false ∧ (wearCounted 0 31 = true ∧
      SMap.getD 0 (st.flashSector 31) st.bg.erases + 1 < st.cfg 0x3F4A00) ∧
    (wearRing 0 31 = false ∧ 1 ≤ st.bg.spares) ∧
    ({ st with bg.spares := 0 } : State).bg.spares = 0 := by decide +kernel

/-- A frequency that is linear in temperature fits with its slope and without curvature (R652). -/
theorem test_oscFit : quadraticFit [(0, 5), (2, 9), (5, 15)] = (2 * 900, 0 * 900, 900) ∧ nearestOf 7 2 = 4 := by decide +kernel

/-! ### Chapter 22 -/

/-- Axis 0 busy. -/
def axisBusy (s : State) : State := s.modAxis 0 fun a => { a with state := .moving }

/-- An operator in the place of the owner. -/
def integrator (s : State) : State := { s with dict.sessions := [ses 2] }

theorem wit_ResetAndShutdown :
    st.power.mode ≠ .backup ∧ (inMode .backup st).power.mode = .backup ∧
    parked.resetCheck (parked.roleOf w0) [1#8] = 1 ∧
    (axisBusy parked).resetCheck ((axisBusy parked).roleOf w0) [1#8] = 0x12 ∧
    parked.resetCheck (parked.roleOf w0) [2#8] = 1 ∧
    ((integrator parked).writeCheck ((integrator parked).roleOf w0) 0x110300 [2#8] = 0 ∧
      (integrator parked).roleOf w0 < 3) := by decide +kernel

theorem wit_ResetAndShutdown_balls : ∀ n : Nat, parked.AirBallsOwn n := by
  intro n i
  have c : parked.dict.claims = [] := by decide +kernel
  have t : parked.dict.turning = [] := by decide +kernel
  rw [c, t]
  exact ⟨by simp [SMap.getD], by simp [SMap.getD]⟩

/-- What a start finds. -/
def found (ref10 : Bool) (boot bank : List Nat) : StartIn := ⟨some ⟨5, 0, 0⟩, ref10, boot, [0, 0], bank, 0, false, []⟩

/-- In BOOT at a step of R670, 10 s after the latest verification. -/
def booting (n : Nat) : State := atTick 5000000000 { st with power.bootStep := n }

/-- At step 6 of R670, when 0x1107 has just passed. -/
def bootWaited (o : Nat) (v : Int) : State := let s := put o v (booting 6); atTick (s.cfg 0x110700 * 500000000) s

/-- An accepted request, waiting in a mode. -/
def asked (m : Mode) (k : Nat) : State := { inMode m st with power.pendingMode := some k }

theorem wit_StartAndModes :
    (st.power.mode = .boot ∧ st.power.bootStep = 1 ∧ (found false [0, 0] [0, 0]).ref10 = false) ∧
    parked.power.mode ≠ .boot ∧
    ((booting 2).power.bootStep = 2 ∧ (booting 2).bestCopy 1 (booting 2).upd.boot (found true [3, 3] [0, 0]).boot = none) ∧
    ((booting 3).power.bootStep = 3 ∧ (booting 3).bestCopy 1 (booting 3).upd.boot (found true [3, 0] [0, 0]).boot = some 1 ∧
      (booting 3).bestCopy 2 (booting 3).upd.trim [0, 0] ≠ none ∧ (booting 3).bankToRun (found true [3, 0] [0, 0]) ≠ none ∧
      (booting 3).upd.staged = none ∧ (booting 3).upd.state = .idle) ∧
    ((booting 2).bestCopy 1 (booting 2).upd.boot (found true [3, 0] [0, 0]).boot = some 1 ∧
      (booting 2).bestCopy 2 (booting 2).upd.trim [0, 0] ≠ none ∧ (booting 2).bankToRun (found true [3, 0] [0, 0]) ≠ none) ∧
    (booting 3).bankToRun (found true [0, 0] [3, 3]) = none ∧
    (let s := bootWaited 0x110400 8
     s.inPair = false ∧ s.cfg 0x110400 = 8 ∧ s.passed s.power.bootWait (s.cfg 0x110700 * 500000000) = true) ∧
    (let s := bootWaited 0x110400 4
     s.inPair = false ∧ s.cfg 0x110400 = 4 ∧ s.passed s.power.bootWait (s.cfg 0x110700 * 500000000) = true) ∧
    (let s := bootWaited 0x3C0000 1
     s.inPair = true ∧ s.passed s.power.bootWait (s.cfg 0x110700 * 500000000) = true) ∧
    (let s := atTick ((bootWaited 0x110400 4).ticks - 1) (bootWaited 0x110400 4)
     s.time.state = .free ∧ s.passed s.power.bootWait (s.cfg 0x110700 * 500000000) = false) ∧
    (let s : State := { atTick 0 (bootWaited 0x110400 4) with time.state := .holdover }
     s.time.state ≠ .free ∧ s.cfg 0x110400 = 4) ∧
    (booting 3).passed (booting 3).power.bootTried 5000000000 = true ∧
    (atTick 4999999999 (booting 3)).passed (booting 3).power.bootTried 5000000000 = false ∧
    parked.modeCheck (parked.roleOf w0) [9#8] = 1 ∧
    ((inMode .test parked).writeCheck ((inMode .test parked).roleOf w0) 0x110100 [4#8] = 0 ∧
      (inMode .test parked).power.mode.leads (inMode .test parked).inPair 4 = false) ∧
    st.power.pendingMode = none ∧ (asked .solo 9).power.mode.leads (asked .solo 9).inPair 9 = false ∧
    (asked .test 8).power.mode.leads (asked .test 8).inPair 8 = true ∧
    ((asked .maintain 4).power.mode.leads (asked .maintain 4).inPair 4 = true ∧ (asked .maintain 4).inPair = false) ∧
    (asked .maintain 9).power.mode.leads (asked .maintain 9).inPair 9 = true := by decide +kernel

/-! ### Chapter 23 -/

/-- The tamper input held and the key in stop. -/
def recovering : State := { parked with sec.tamper := true, sec.tamperHeld := true, stop.key := true }

/-- In TEST with a challenge drawn, and the signature that answers it. -/
def challenged : State := { inMode .test parked with sec.nonces := 1, sec.nonce := some 0 }
def answering : List Byte := signature (challenge 0)

theorem challenged_rule : challenged.debugRule answering = 0 := by
  have h : challenged.debugSigned 0 answering = true := by
    have r : challenged.sec.revoked.testBit 0 = false := by decide +kernel
    have v : Config.rootVerify 0 (Config.sha384 (challenge 0)) answering = true := rootVerify_signature _
    exact List.any_eq_true.mpr ⟨0, by decide, by rw [r, v]; rfl⟩
  have n : challenged.sec.nonce = some 0 := rfl
  have m : challenged.sec.nonces = 1 := rfl
  have a : (challenged.cfg 0x121200).testBit 1 = false := by decide +kernel
  have b : challenged.power.mode = .test := rfl
  have c : challenged.recordFull = false := by decide +kernel
  have o : List.range 1 = [0] := rfl
  simp [State.debugRule, n, m, a, b, c, o, h, firstCase]

theorem challenged_fits : challenged.writeCheck 3 0x123100 answering = 0 := by decide +kernel

theorem challenged_passes :
    passes (challenged.commitCheck w0 3 ⟨true, false, true, true⟩ [challenged.bound [] 0x123100 answering]).codes =
      true := by
  have b : challenged.bound [] 0x123100 answering = ⟨0x123100, answering, 0⟩ := by rfl
  have f : challenged.firstCodes 3 [⟨0x123100, answering, 0⟩] = [0] := by
    have h : homeOrder 0x123100 = false := by decide +kernel
    simp [State.firstCodes, h, challenged_fits]
  have t : challenged.candidate [(⟨0x123100, answering, 0⟩, 0)] = challenged := by
    have h : isSetting 0x123100 = false := by decide +kernel
    simp [State.candidate, each, when, h]
  have o : State.ownRule w0 3 ⟨true, false, true, true⟩ ⟨0x123100, answering, 0⟩ challenged challenged = 0 :=
    challenged_rule
  have w : State.wholeCheck [⟨0x123100, answering, 0⟩] [0] challenged challenged = ⟨[0], none, false⟩ := by
    have h1 : blame (challenged.broken challenged) [] [0x123100] = [0] := by decide +kernel
    have h2 : State.claimClash [0x123100] challenged challenged = none := by decide +kernel
    have h3 : ¬ 30 < challenged.comparatorsWanted := by decide +kernel
    simp [State.wholeCheck, h1, h2, h3, passes]
  rw [b]
  simp [State.commitCheck, f, t, State.ownCodes, o, w]
  rfl

theorem wit_CredentialsTamperAndDebug :
    passes (parked.commitCheck w0 (parked.roleOf w0) ⟨true, false, true, true⟩
      [parked.bound [] 0x121000 (zeros 1024)]).codes = true ∧
    passes (st.commitCheck w0 (st.roleOf w0) ⟨true, false, true, true⟩
      [st.bound [] 0x121000 (zeros 1024)]).codes = false ∧
    passes (recovering.commitCheck w0 (recovering.roleOf w0) ⟨true, false, true, true⟩
      [recovering.bound [] 0x123800 [0x5A#8]]).codes = true ∧
    passes (parked.commitCheck w0 (parked.roleOf w0) ⟨true, false, true, true⟩
      [parked.bound [] 0x123800 [0x5A#8]]).codes = false ∧
    st.powered 0x123000 = true ∧ challenged.roleOf w0 = 3 ∧ (inMode .test parked).writeCheck 3 0x123100 (zeros 96) = 0 ∧
    (inMode .test parked).debugRule (zeros 96) ≠ 0 := by decide +kernel

/-! ### Two rules whole, and the whole block -/

/-- A creep of 10,000 steps/s in the negative direction. -/
def creep2 : Plan := { plan2 with kind := .creep, speed := 10000 * 10 ^ 9 }

/-- Axis 3 creeping back to its home point under a homing method, stalled, at `t` ns. -/
def homing (m : Int) (t : Nat) : State :=
  put 0x380314 600 (put 0x380317 600 (put 0x38030D m
    (axes 2 { ax .homing with phase := .creep, current := .run, plan := some creep2, loadHigh := some 0 } t
      (t / 2))))

/-- Methods 1 and 2 at their home points; method 0, the switch inactive again, a step of its creep ago. -/
theorem wit_HomePointReadsTheOffset :
    (shapeOk (homing 1 0) = true ∧ (homing 1 0).homeFound 3 0 = true ∧ (homing 1 0).axisCfg 3 0x0D = 1) ∧
    (let s := homing 2 2000000000
     shapeOk s = true ∧ s.homeFound 3 0 = true ∧ s.axisCfg 3 0x0D = 2) ∧
    (let s := homing 0 100000
     shapeOk s = true ∧ s.homeFound 3 0 = true ∧ s.axisCfg 3 0x0D = 0 ∧ (s.axis 3).plan = some creep2 ∧
       1 ≤ creep2.placed (creep2.elapsed s.now s.ticks)) := by
  decide +kernel

/-- Saves in progress, of a period and of the loss of mains. -/
def savingOf (mask : Nat) : State := { st with meter.saving := some (st.saveCopy 1 mask) }

theorem wit_FailedSaveKeepsTheGoodCopy :
    (savingOf 1).meter.saving = some (st.saveCopy 1 1) ∧ (st.saveCopy 1 1).mask.testBit 1 = false ∧
    (st.saveCopy 1 2).mask.testBit 1 = true := by decide +kernel

theorem wit_StepRunsTheCommand :
    ({ st with pending := [.tickIncrementUpdate 5 0] } : State).pending = [.tickIncrementUpdate 5 0] := rfl

theorem wit_EveryStepKeepsShapeAndQueue :
    shapeOk { st with pending := [.tickIncrementUpdate 5 0] } = true ∧
    (match step { st with pending := [.tickIncrementUpdate 5 0] } with
      | .next t => t.time.nextTerms != st.time.nextTerms
      | _ => false) = true := by decide +kernel

theorem wit_EveryStepKeepsTheChangeRecord : State.reset.RecordFits := show State.reset.dict.changes.length ≤ 512 by decide +kernel

/-! ### The spec's worked examples -/

/-- Chapter 02, example of R71: 1,893,456,007 s + 342,123,456 ns. -/
theorem test_asn_example :
    FT.asn ⟨1893456007, 342123456, 0⟩ = 473364001835 ∧ FT.slot ⟨1893456007, 342123456, 0⟩ = 10 ∧
    FT.cycle ⟨1893456007, 342123456, 0⟩ = 18934560073 := by decide +kernel

/-- Chapter 02, example of R65: the limit of 10 µs is passed at 9,727 s and not at 9,726 s. -/
theorem test_holdover_example : holdoverBound 10 50 9726 ≤ 10000 ∧ holdoverBound 10 50 9727 = 10001 := by decide +kernel

/-- Chapter 11, Holmgate: channels of AIR0, AIR1 and AIR2 in slot 10, hop channel 12 paired with spare 16. -/
theorem test_hop_example :
    (let s := putNow 0x300100 0x4D48 (putNow 0x300200 1 (putNow 0x300300 4 st))
     let s : State := { s with air.remap := [⟨12, 16, ⟨0, 0, 0⟩⟩] }
     s.channels = 21 ∧ [0, 1, 2].map (fun n => s.hopChannel n 473364001835) = [5, 16, 3]) := by decide +kernel

/-- Chapter 11, Holmgate: the blocks STATUS and TASK_REPORT of scraper 12. -/
theorem test_blocks_example :
    splitBlocks 19 [2#8, 4#8, 0#8, 0xC6#8, 2#8, 1#8, 0#8, 4#8, 8#8, 0#8, 0x75#8, 0#8, 0x49#8, 0x75#8, 1#8, 0#8, 0#8, 0#8] =
      some [(2, [0xC6#8, 2#8, 1#8, 0#8]), (4, [0x75#8, 0#8, 0x49#8, 0x75#8, 1#8, 0#8, 0#8, 0#8])] := by decide +kernel

/-- Chapter 16, example of R509: local second 3,570 falls under the latest entry of the day. -/
theorem test_tariff_example :
    (let s := put 0x3A0501 0x80005460 (put 0x3A0502 0x80033560 (put 0x204D00 37 (put 0x3A0400 3600 st)))
     s.localSecond ⟨1893456007, 0, 0⟩ = 3570 ∧ s.tariff ⟨1893456007, 0, 0⟩ = 1) := by decide +kernel

/-- Chapter 19, the TIME_SET record of Holmgate, its CRC (octets 6 and 7) left out. -/
theorem test_record_example :
    (let r : Rec := ⟨48213, 0x2003, 2, 5, false, false, ⟨1893456098, 0, 0⟩,
        [.ft ⟨1893456100, 0, 0⟩, .ft ⟨1893456098, 0, 0⟩, .u8 0], 0⟩
     r.length = 72 ∧ r.encode.take 6 = [0x48#8, 0#8, 3#8, 0x20#8, 2#8, 5#8] ∧
     r.encode.drop 8 = [0x55#8, 0xBC#8] ++ zeros 14 ++ [0xE2#8, 0xD8#8, 0xDB#8, 0x70#8] ++ zeros 4 ++ [8#8] ++ zeros 8 ++
       [0xE4#8, 0xD8#8, 0xDB#8, 0x70#8] ++ zeros 4 ++ [8#8] ++ zeros 8 ++ [0xE2#8, 0xD8#8, 0xDB#8, 0x70#8] ++ zeros 4 ++
       [2#8, 0#8] ++ zeros 4) := by decide +kernel

/-- CRC-16/CCITT-FALSE of "123456789", the check value of that CRC's definition. -/
theorem test_crc16 : crc16 [0x31#8, 0x32#8, 0x33#8, 0x34#8, 0x35#8, 0x36#8, 0x37#8, 0x38#8, 0x39#8] = 0x29B1 := by decide +kernel

/-- R717: TAL31 taken over from AIR7 in one commit counts after 1 µs and DEBOUNCE, and a ball claimed when free at once. -/
theorem test_ball_turns :
    (let s := put 0x300000 0x80 st
     let t := (put 0x3A0000 0x80000000 (put 0x300000 0 s.claimBalls).claimBalls).claimBalls
     let u : State := { t with time.ticks := 500 + 5000 * 500 }
     t.tallyTurning 31 (5000 * 500) = true ∧ u.tallyTurning 31 (5000 * 500) = false ∧
     (put 0x3A0000 0x80000000 st).claimBalls.tallyTurning 31 (5000 * 500) = false) := by decide +kernel

/-- R681, R494, R407: levels in reset, in BACKUP, and in SOLO with the latch set; an axis in mode DISABLED is undriven. -/
theorem test_output_levels :
    (let r := st.enterReset 2
     r.stopoutPin = .low ∧ r.axisPins 3 = .all .low ∧ r.airResetPin 0 = some .low ∧
     (let b := st.backupEntered
      b.stopoutPin = .highZ ∧ b.axisPins 3 = .all .highZ ∧ b.airResetPin 0 = some .highZ) ∧
     (let v : State := { st with effective := (put 0x300000 1 st).settings }
      let u : State := { v with power.mode := .solo, power.inReset := false, pair.output := true, stop.latch := true }
      u.stopoutPin = .low ∧ u.airResetPin 0 = some .high ∧ u.airResetPin 1 = some .low ∧ u.airTxPin 0 = some .pulses ∧
      u.axisPins 3 = .all .highZ)) := by decide +kernel

end Sys2Proof.Tests
end

section
/-!
The home point of a gate axis (chapter 15). The laws come first: reading an axis after its own update, and what the
withdrawal of legs, a gate fault and the watch for one leave alone. Then what AXIS_HOMED makes of the axis (R482, R483),
and O55.
-/

namespace Sys2Proof.Machine

/-! ### Axes -/

/-- A state with eight axes holds each axis that a command names. -/
theorem State.Shaped.axis_lt {s : State} (h : s.Shaped) (n : Fin 8) : n.val < s.axes.length := by
  rw [h.axes]; exact n.isLt

/-- States with the same axes have the same axis `n`. -/
theorem State.axis_congr {s t : State} (h : t.axes = s.axes) (n : Nat) : t.axis n = s.axis n := by
  simp only [State.axis, h]

/-- An axis after its own update. -/
theorem State.axis_modAxis_same {n : Nat} {s : State} (h : n < s.axes.length) (f : Axis → Axis) :
    (s.modAxis n f).axis n = f (s.axis n) := by
  simp [State.axis, modAt, h]

@[simp] theorem State.axis_record (n code : Nat) (l : List Item) (s : State) : (s.record code l).axis n = s.axis n := rfl
@[simp] theorem State.axis_countAxis (n m sub : Nat) (s : State) : (s.countAxis m sub).axis n = s.axis n := rfl

/-- The counter of an axis without a plan is the one it stands at. -/
theorem State.axisPos_of_plan_none {n : Nat} {s : State} (h : (s.axis n).plan = none) : s.axisPos n = (s.axis n).pos := by
  simp only [State.axisPos, Axis.counter, h]

/-! ### The watch for a gate fault leaves the axes (R285, R490) -/

@[simp] theorem State.withdrawLegs_axes (cause : Nat) (p : Leg → Bool) (s : State) :
    (s.withdrawLegs cause p).axes = s.axes := by
  obtain ⟨_, _, _, h, _⟩ := State.withdrawLegs_leave cause p s
  rw [h]

@[simp] theorem State.recordHeld_axes (k cause n : Nat) (s : State) : (s.recordHeld k cause n).axes = s.axes := by
  simp only [State.recordHeld, apply_ite State.axes, State.record_axes, ite_self]

@[simp] theorem State.holdEntries_axes (l : List Nat) (cause : Nat) (s : State) :
    (s.holdEntries l cause).axes = s.axes := by
  simp only [State.holdEntries]
  rw [each_keeps State.axes _ fun _ _ => State.recordHeld_axes .., State.countN_axes, each_keeps State.axes]
  exact fun _ _ => rfl

@[simp] theorem State.gateFault_axes (g : Nat) (s : State) : (s.gateFault g).axes = s.axes := by
  simp only [State.gateFault, State.record_axes, State.holdEntries_axes, State.withdrawLegs_axes, State.drawn_axes]

@[simp] theorem State.gateWatch_axes (g : Nat) (s : State) : (s.gateWatch g).axes = s.axes := by
  simp only [State.gateWatch]
  split
  · split <;> rfl
  · exact when_keeps State.axes _ _ _ (State.gateFault_axes g s)

@[simp] theorem State.axis_gateWatch (n g : Nat) (s : State) : (s.gateWatch g).axis n = s.axis n :=
  State.axis_congr (State.gateWatch_axes g s) n

/-! ### The home point (R482, R483) -/

/-- The counter that a homing leaves when its home point lies `after` steps back: HOME_OFFSET at the home point, and the steps
since in the direction of the creep. -/
def State.homedPos (n after : Nat) (s : State) : Int :=
  s.axisCfgI n 0x11 + (if (s.axis n).plan.all Plan.positive then (s.stepsAfter n after : Int) else -(s.stepsAfter n after : Int))

/-- An axis whose home point is found, as `State.homed` leaves it. -/
theorem State.homed_axis {n after inputs : Nat} {s : State} (hn : n < s.axes.length) (hf : s.homeFound n inputs = true) :
    (s.homed n after inputs).axis n =
      { (s.axis n).still (s.homedPos n after) s.ticks with
        enPos := (s.axis n).enPos + (s.homedPos n after - s.axisPos n), state := .idle, cause := 0, inputs := inputs } := by
  simp only [State.homed, hf, if_true, State.axis_record, State.axis_countAxis, State.axis_modAxis_same hn]
  rfl

/-- AXIS_HOMED at the home point: the axis stands, IDLE, and its counter is the home offset and the steps since. -/
theorem exec_axisHomed_found {n i : Fin 8} {s : State} (after : Nat) (hs : s.Shaped) (hf : s.homeFound n.val i.val = true) :
    ∃ t, exec (.axisHomed n after i) s = .next t ∧ t.axisPos n.val = s.homedPos n.val after ∧
      (t.axis n.val).state = .idle := by
  have hx := (State.axis_gateWatch n.val n.val _).trans (State.homed_axis (after := after) (hs.axis_lt n) hf)
  refine ⟨_, rfl, ?_, by rw [hx]⟩
  rw [State.axisPos_of_plan_none (by rw [hx]; rfl), hx]
  rfl

/-- Methods 1 and 2 find the home point where the counter stands (R482). -/
theorem State.homedPos_of_index_or_stall {n : Nat} {s : State} (after : Nat)
    (hm : s.axisCfg n 0x0D = 1 ∨ s.axisCfg n 0x0D = 2) : s.homedPos n after = s.axisCfgI n 0x11 := by
  have h0 : s.stepsAfter n after = 0 := if_neg (by omega)
  simp [State.homedPos, h0]

/-- Methods 0 and 3 learn of the home point when the filter of the switch lets its level pass (R473, R482): the steps of the
creep since count on from HOME_OFFSET. -/
theorem State.homedPos_of_switch {n after : Nat} {p : Plan} {s : State}
    (hm : s.axisCfg n 0x0D = 0 ∨ s.axisCfg n 0x0D = 3) (hp : (s.axis n).plan = some p)
    (ha : after ≤ p.placed (p.elapsed s.now s.ticks)) :
    s.homedPos n after = s.axisCfgI n 0x11 + (if p.positive = true then (after : Int) else -(after : Int)) := by
  have hk : s.stepsAfter n after = after := by
    simp only [State.stepsAfter, if_pos hm, Axis.crept, hp]
    exact Nat.min_eq_left ha
  simp only [State.homedPos, hk, hp, Option.all_some]

/-- Settles O55 (R483). That no step counts after an index or a stall, and those of the creep do after a switch, rests on R473,
R482 and the reading of `after` in assumption 9. -/
theorem homePointReadsTheOffset : Obligations.HomePointReadsTheOffset := by
  refine ⟨fun n i after s hs hf hm => ?_, fun n i after p s hs hf hm hp ha => ?_⟩
  · rw [← State.homedPos_of_index_or_stall after hm]
    exact exec_axisHomed_found after hs hf
  · rw [← State.homedPos_of_switch hm hp ha]
    exact exec_axisHomed_found after hs hf

end Sys2Proof.Machine
end

section
/-!
A metering save that fails (chapter 16). First what the recorder's own work can touch: its records and the counters from
0x3E20 on, so neither the metering state nor a counter of metering. Then the two commands of a save (R510 to R512), and O56.
-/

namespace Sys2Proof.Machine

/-! ### Counters -/

/-- A counter is raised by one: its error sum stands elsewhere, above the counters of the chapters. -/
theorem State.counter_count_same {o : Nat} (h : o < 0x500100) (s : State) : (s.count o).counter o = s.counter o + 1 :=
  bump_same o 1 s.counters fun k _ => by omega

/-- The recorder's counters and the error sums stand from 0x3E20 on. -/
theorem bump_below_recorder {o p : Nat} (ho : 0x3E2000 ≤ o) (hp : p < 0x3E2000) (n : Nat) (m : SMap U64) :
    SMap.getD 0#64 p (bump o n m) = SMap.getD 0#64 p m :=
  bump_other o p n m (by omega) fun k _ => by omega

/-! ### What the recorder writes (R604 to R611) -/

/-- `t` differs from `s` in the recorder and in counters from 0x3E20 on, nowhere else. -/
def State.RecorderOnly (s t : State) : Prop :=
  (∃ r c, t = { s with rcd := r, counters := c }) ∧ ∀ o, o < 0x3E2000 → t.counter o = s.counter o

theorem State.RecorderOnly.refl (s : State) : s.RecorderOnly s := ⟨⟨_, _, rfl⟩, fun _ _ => rfl⟩

theorem State.RecorderOnly.trans {s t u : State} (h : s.RecorderOnly t) (k : t.RecorderOnly u) : s.RecorderOnly u := by
  obtain ⟨⟨_, _, rfl⟩, hc⟩ := h
  obtain ⟨⟨_, _, rfl⟩, kc⟩ := k
  exact ⟨⟨_, _, rfl⟩, fun o ho => (kc o ho).trans (hc o ho)⟩

theorem State.RecorderOnly.meter {s t : State} (h : s.RecorderOnly t) : t.meter = s.meter := by
  obtain ⟨⟨_, _, rfl⟩, _⟩ := h
  rfl

theorem State.RecorderOnly.counter {s t : State} (h : s.RecorderOnly t) {o : Nat} (ho : o < 0x3E2000) :
    t.counter o = s.counter o := h.2 o ho

theorem State.setRcd_recorderOnly (r : RecorderSt) (s : State) : s.RecorderOnly { s with rcd := r } :=
  ⟨⟨_, _, rfl⟩, fun _ _ => rfl⟩

theorem State.countN_recorderOnly {o : Nat} (ho : 0x3E2000 ≤ o) (n : Nat) (s : State) : s.RecorderOnly (s.countN o n) :=
  ⟨⟨_, _, rfl⟩, fun _ hp => bump_below_recorder ho hp n s.counters⟩

/-- Making a record, withholding it or dropping it counts among the recorder's counters only. -/
theorem recordStep_counters_below (e : RecEnv) (code scope : Nat) (time : FT) (mk : Nat → List Item) (r : RecorderSt)
    (m : SMap U64) {p : Nat} (hp : p < 0x3E2000) :
    SMap.getD 0#64 p (recordStep e code scope time mk r m).2 = SMap.getD 0#64 p m := by
  have below (o : Nat) (ho : 0x3E2000 ≤ o) (n : Nat) (m : SMap U64) := bump_below_recorder ho hp n m
  simp only [recordStep]
  split
  · split
    · rw [below 0x3E2009 (by decide), below 0x3E2003 (by decide), below 0x3E2001 (by decide)]
    · exact below 0x3E2004 (by decide) 1 m
  · exact below 0x3E200A (by decide) 1 m

theorem State.record_recorderOnly (code : Nat) (items : List Item) (s : State) : s.RecorderOnly (s.record code items) :=
  ⟨s.record_cases code items, fun _ hp => recordStep_counters_below _ _ _ _ _ _ _ hp⟩

theorem State.writeRecord_recorderOnly (x : Rec) (s : State) : s.RecorderOnly (s.writeRecord x) := by
  simp only [State.writeRecord]
  split
  · exact (State.setRcd_recorderOnly _ s).trans (State.countN_recorderOnly (by decide) _ _)
  · split
    · exact (State.setRcd_recorderOnly _ s).trans (State.countN_recorderOnly (by decide) _ _)
    · exact ((State.setRcd_recorderOnly _ s).trans (State.countN_recorderOnly (by decide) _ _)).trans
        (State.countN_recorderOnly (by decide) _ _)

theorem State.flush_recorderOnly (s : State) : s.RecorderOnly s.flush := by
  simp only [State.flush]
  split
  · exact .refl s
  · have written := each_links State.RecorderOnly .refl (fun _ _ _ => .trans) State.writeRecord
      State.writeRecord_recorderOnly s.rcd.staged { s with rcd.staged := [] }
    exact ((State.setRcd_recorderOnly _ s).trans written).trans (State.setRcd_recorderOnly _ _)

/-! ### Saves (R510 to R512) -/

/-- The state after a save that failed, before the flush that a loss of mains asks for (R512). -/
def State.saveFailed (c : SaveCopy) (s : State) : State :=
  (({ s with meter.saving := none } : State).count 0x3A5003).record 0xA005 [.u8 c.mask, .u64 c.seq]

theorem State.meterSaved_failed {c : SaveCopy} {s : State} (h : s.meter.saving = some c) :
    s.meterSaved false = when (c.mask.testBit 1) State.flush (s.saveFailed c) := by
  simp only [State.meterSaved, h]
  rfl

/-- With no save in progress, a cause takes a copy under the next sequence number. -/
theorem State.meterSave_of_idle {s : State} (h : s.meter.saving = none) (mask : Nat) :
    s.meterSave mask = { s with meter := { s.meter with
      saving := some (s.saveCopy s.meter.next mask), started := s.ticks, next := s.meter.next + 1 } } := by
  simp only [State.meterSave, h]

/-- Besides what the recorder writes, a failed save ends and is counted (R512). -/
theorem State.meterSaved_failed_recorderOnly {c : SaveCopy} {s : State} (h : s.meter.saving = some c) :
    (({ s with meter.saving := none } : State).count 0x3A5003).RecorderOnly (s.meterSaved false) := by
  rw [State.meterSaved_failed h]
  have recorded := State.record_recorderOnly 0xA005 [.u8 c.mask, .u64 c.seq]
    (({ s with meter.saving := none } : State).count 0x3A5003)
  cases c.mask.testBit 1 with
  | false => exact recorded
  | true => exact recorded.trans (State.flush_recorderOnly _)

/-- A failed save ends, and the rest of the metering state stays: the good copy with it. -/
theorem State.meterSaved_failed_meter {c : SaveCopy} {s : State} (h : s.meter.saving = some c) :
    (s.meterSaved false).meter = { s.meter with saving := none } :=
  (State.meterSaved_failed_recorderOnly h).meter

theorem State.meterSaved_failed_counter {c : SaveCopy} {s : State} (h : s.meter.saving = some c) :
    (s.meterSaved false).counter 0x3A5003 = s.counter 0x3A5003 + 1 :=
  ((State.meterSaved_failed_recorderOnly h).counter (by decide)).trans (State.counter_count_same (by decide) _)

/-- Settles O56 (R512, R604). -/
theorem failedSaveKeepsTheGoodCopy : Obligations.FailedSaveKeepsTheGoodCopy := by
  refine ⟨fun c s h => ?_, by decide⟩
  have hm := State.meterSaved_failed_meter h
  have hsave := State.meterSave_of_idle (s := s.meterSaved false) (by rw [hm]) 1
  refine ⟨s.meterSaved false, (s.meterSaved false).meterSave 1, rfl, hm, State.meterSaved_failed_counter h,
    fun hb => ?_, fun hb => ?_, rfl, ?_, ?_⟩
  · rw [State.meterSaved_failed h, hb]; rfl
  · rw [State.meterSaved_failed h, hb]; rfl
  · rw [hsave, hm]
  · rw [hsave, hm]

end Sys2Proof.Machine
end
